-- ==== Sys2Proof/Word.lean ====
section
/-! DEFINITION. The byte: the unit of DRAM, flash, record bodies and notices (spec 12, R193). -/

namespace Sys2Proof

/-- One byte of DRAM or flash. -/
abbrev Byte := BitVec 8

end Sys2Proof
end

