-- ==== Sys2Proof/Config.lean ====
section
/-! DEFINITION. What the spec leaves to the part: the content cipher. "Its internal algorithm is not given here"
(00_scope.md, Scope of this document). The constants have no body, so no proof can lean on a value of them. -/

namespace Sys2Proof.Config

/-- R99: the result of one 8-byte block, from the 16-byte content key, the block's own stored bytes and the result of
the block before it. A free function: log entry 6 (DESIGN CHOICE, safe). -/
opaque cipherBlock : BitVec 128 → BitVec 64 → BitVec 64 → BitVec 64

/-- R99: the fixed starting value that stands for the block before the first. A free value: log entry 6. -/
opaque cipherStart : BitVec 64

end Sys2Proof.Config
end

