-- ==== Sys2Proof/Syntax.lean ====
section
/-! DEFINITION. The commands: one constructor for each row of spec/opcode_table.json, in the table's order.
The table gives its rows no fields. The operands here are what the part cannot read from its own state: log entry 4. -/

namespace Sys2Proof

/-- What an upstream request does (00_scope.md, Terms): a read of a length, or a write of bytes. -/
inductive Access where
  | read (len : Nat)
  | write (data : List Byte)
  deriving DecidableEq, Repr

/-- An upstream request (R1, 00_scope.md Terms): requester tag, start address, direction. -/
structure Request where
  tag : Fin 16
  addr : Nat
  access : Access
  deriving DecidableEq, Repr

/-- What one ECC check of a key RAM word finds (R95). -/
inductive EccFinding where
  | clean
  | singleBit
  | uncorrectable
  deriving DecidableEq, Repr

/-- The two halves of a context are named by parity (chapter 5). -/
inductive HalfParity where
  | even
  | odd
  deriving DecidableEq, Repr

/-- The four blocks that work at a minute tick (R40); their work falls in either order (R178). -/
inductive TickBlock where
  | guide
  | access
  | purse
  | profiles
  deriving DecidableEq, Repr

/-- The steps of a cell read (R6, R12, R64; log entry 28), with what the check of the content key finds, if the read makes
one (R96, R97): the DRAM read completes, is judged, and its response leaves on the link at once; it is judged, and its
response is still to leave; or the response of the judged read at place `k` of those still to leave does so. -/
inductive ReadStep where
  | whole (ecc : EccFinding)
  | judged (ecc : EccFinding)
  | answered (k : Nat)
  deriving DecidableEq, Repr

/-- What the unwrap of a KEY record under the box key gives (R84 introduction, R193), and what the ECC checks of the
stored wrapped keys find if a refresh makes them (R88, R95): one entry for each half block of the record, in its order. -/
structure KeyUnwrap where
  pass : Bool
  content : List (BitVec 128)
  ecc : List EccFinding
  deriving DecidableEq, Repr

/-- What the unwrap of a RIGHTS record under the box key gives (R193): the integrity result and the item bytes. -/
structure RightsUnwrap where
  pass : Bool
  items : List Byte
  deriving DecidableEq, Repr

/-- The commands of the part. -/
inductive Instr where
  /-- POWER_GOOD -/
  | powerGood
  /-- POWER_LOSS: the bytes that an interrupted program or erase leaves in the place, page or sector it works on -/
  | powerLoss (remains : List Byte)
  /-- LINK_RESET: whether a slot fetch then in service is taken as complete before the reset (R34) -/
  | linkReset (fetchComplete : Bool)
  /-- CONFIG_IMAGE_READ_COMPLETE -/
  | configImageReadComplete
  /-- UPSTREAM_REQUEST -/
  | upstreamRequest (r : Request)
  /-- PASS_REQUEST_COMPLETE -/
  | passRequestComplete
  /-- CELL_ARRIVAL -/
  | cellArrival
  /-- SILENCE_TIMER_EXPIRY of a capture window -/
  | silenceTimerExpiry (w : Fin 4)
  /-- CELL_READ, whole or one of its two steps -/
  | cellRead (read : ReadStep)
  /-- PACE_WINDOW_OPEN -/
  | paceWindowOpen
  /-- OWN_WRITE_COMPLETE -/
  | ownWriteComplete
  /-- SLOT_TAKE -/
  | slotTake
  /-- RECORD_BAD_KIND -/
  | recordBadKind
  /-- OUTCOME_WRITE_COMPLETE -/
  | outcomeWriteComplete
  /-- TIME: the order of the blocks' work if the record raises a minute tick -/
  | time (order : List TickBlock)
  /-- ONE_SECOND_TICK -/
  | oneSecondTick
  /-- PREVIEW_EXHAUSTION of an event -/
  | previewExhaustion (event : Nat)
  /-- MINUTES_USED_RISE of a profile -/
  | minutesUsedRise (q : Fin 6)
  /-- MINUTE_TICK: the order of the blocks' work -/
  | minuteTick (order : List TickBlock)
  /-- SERVICES -/
  | services
  /-- EVENTS -/
  | events
  /-- TUNE_VIEW -/
  | tuneView
  /-- TUNE_STAGE -/
  | tuneStage
  /-- RELEASE -/
  | release
  /-- KEY_WAIT_EXPIRY of an output -/
  | keyWaitExpiry (o : Fin 6)
  /-- STAGED_LIFETIME_EXPIRY of a context -/
  | stagedLifetimeExpiry (c : Fin 8)
  /-- KEY -/
  | key (u : KeyUnwrap)
  /-- AGEING_EXPIRY of a half -/
  | ageingExpiry (c : Fin 8) (p : HalfParity)
  /-- BUY -/
  | buy
  /-- RIGHTS -/
  | rights (u : RightsUnwrap)
  /-- PIN_UNLOCK_EVENT -/
  | pinUnlockEvent
  /-- PIN_UNLOCK_PERIOD -/
  | pinUnlockPeriod
  /-- PIN_CHANGE -/
  | pinChange
  /-- LOCKOUT_TIMER_EXPIRY of a profile -/
  | lockoutTimerExpiry (q : Fin 6)
  /-- PERIOD_UNLOCK_EXPIRY of an output -/
  | periodUnlockExpiry (o : Fin 6)
  /-- PROFILE -/
  | profile
  /-- POWER_STANDBY -/
  | powerStandby
  /-- POWER_WAKE -/
  | powerWake
  /-- PUBLISHING_WRITE_COMPLETE -/
  | publishingWriteComplete
  /-- CONTROL_BLOCK_WRITE_COMPLETE -/
  | controlBlockWriteComplete
  /-- CONSUMER_INDEX_WRITE -/
  | consumerIndexWrite
  /-- MITIGATION_DELAY_EXPIRY -/
  | mitigationDelayExpiry
  /-- STATISTICS_TIMER_EXPIRY -/
  | statisticsTimerExpiry
  /-- SETTINGS_READ_COMPLETE -/
  | settingsReadComplete
  /-- JOURNAL_MOUNT -/
  | journalMount
  /-- FLASH_INHIBIT_END -/
  | flashInhibitEnd
  /-- PAGE_PROGRAM_COMPLETE -/
  | pageProgramComplete
  /-- ERASE_COMPLETE -/
  | eraseComplete
  /-- METERING_PACE_ELAPSED -/
  | meteringPaceElapsed
  /-- SETTINGS_REWRITE_STEP_COMPLETE -/
  | settingsRewriteStepComplete
  /-- BLINK_CYCLE -/
  | blinkCycle
  /-- DISCARDED_FETCH_COMPLETE -/
  | discardedFetchComplete
  deriving DecidableEq, Repr

end Sys2Proof
end

