-- ==== Sys2Proof/WellFormed.lean ====
section
/-! DEFINITION. Which commands are well formed: an upstream request keeps the limits of R1, an order of the minute
tick's work names each of the four blocks once. Every other operand is in range by its type. -/

namespace Sys2Proof

/-- The number of bytes a request covers. -/
def Request.len (r : Request) : Nat :=
  match r.access with
  | .read n => n
  | .write d => d.length

/-- R1, 00_scope.md Terms: 1 to 256 bytes. -/
def Request.lenOk (r : Request) : Bool := 1 ≤ r.len && r.len ≤ 256

/-- R1: no request crosses a 256-byte boundary. -/
def Request.blockOk (r : Request) : Bool := r.addr % 256 + r.len ≤ 256

/-- 00_scope.md Terms: the start address lies in 0 to 1 GiB - 1. -/
def Request.addrOk (r : Request) : Bool := r.addr < 2 ^ 30

/-- The form of an upstream request (R1). -/
def Request.wf (r : Request) : Bool := r.lenOk && r.blockOk && r.addrOk

/-- R40, R178: each of the four blocks works once at a minute tick. -/
def tickOrderOk (order : List TickBlock) : Bool :=
  order.length == 4 && [TickBlock.guide, .access, .purse, .profiles].all (fun b => order.contains b)

/-- A flash operation works on one sector at most (R136), so it leaves at most 4,096 bytes disturbed. -/
def remainsLenOk (remains : List Byte) : Bool := remains.length ≤ 4096

/-- A well-formed command. -/
def Instr.wf : Instr → Bool
  | .upstreamRequest r => r.wf
  | .time order => tickOrderOk order
  | .minuteTick order => tickOrderOk order
  | .powerLoss remains => remainsLenOk remains
  | .powerGood | .linkReset _ | .configImageReadComplete | .passRequestComplete | .cellArrival
  | .silenceTimerExpiry _ | .cellRead _ | .paceWindowOpen | .ownWriteComplete | .slotTake | .recordBadKind
  | .outcomeWriteComplete | .oneSecondTick | .previewExhaustion _ | .minutesUsedRise _ | .services | .events
  | .tuneView | .tuneStage | .release | .keyWaitExpiry _ | .stagedLifetimeExpiry _ | .key _ | .ageingExpiry _ _
  | .buy | .rights _ | .pinUnlockEvent | .pinUnlockPeriod | .pinChange | .lockoutTimerExpiry _
  | .periodUnlockExpiry _ | .profile | .powerStandby | .powerWake | .publishingWriteComplete
  | .controlBlockWriteComplete | .consumerIndexWrite | .mitigationDelayExpiry | .statisticsTimerExpiry
  | .settingsReadComplete | .journalMount | .flashInhibitEnd | .pageProgramComplete | .eraseComplete
  | .meteringPaceElapsed | .settingsRewriteStepComplete | .blinkCycle | .discardedFetchComplete => true

end Sys2Proof
end

