-- ==== Sys2Proof/Machine/State.lean ====
section
/-! DEFINITION. The state of the part: every register, FIFO, table, counter, timer and pin that the spec gives it, as
plain data, and its values before power-good. INVENTORY.md lists each with its rule and its reset value. -/

namespace Sys2Proof.Machine

/-! ### Memory -/

/-- DRAM or flash: the listed bytes, addresses strictly rising, none equal to what an unlisted address reads as. -/
abbrev Memory := List Host.Cell

/-! ### The configuration image (12.6) -/

/-- One capture window of the window map (R1). -/
structure CapWindow where
  base : Nat
  size : Nat
  deriving DecidableEq, Repr

/-- One entry of the requester table (R2). -/
inductive Requester where
  | other
  | viewer (o : Fin 6)
  | exporter (o : Fin 6)
  deriving DecidableEq, Repr

/-- One entry of the output table (R60). -/
structure OutputCfg where
  enabled : Bool
  isExport : Bool
  profile : Fin 6
  pace : Nat
  deriving DecidableEq, Repr

/-- The factory settings of one profile (R154). -/
structure FactoryProfile where
  ceiling : Nat
  blockUnknown : Bool
  purchasePin : Bool
  window : Option (Nat × Nat)
  budget : Option Nat
  deriving DecidableEq, Repr

/-- What the part holds of the configuration image, after the corrections of R184, R185, R187 and R197. -/
structure Image where
  version : Nat
  unitId : Nat
  groupId : Option Nat
  windows : Vector (Option CapWindow) 4
  msgBase : Nat
  repBase : Nat
  requesters : Vector Requester 16
  outputs : Vector OutputCfg 6
  mitCount : Nat
  mitDelay : Nat
  statPeriod : Nat
  blinkHz : Nat
  duty : Nat
  factoryRegion : Nat
  factoryMask : Nat
  factoryOverdraft : Nat
  defaultPin : List Nat
  maskText : List Byte
  factoryProfiles : Vector FactoryProfile 6
  deriving DecidableEq, Repr

/-! ### Part state and time -/

/-- The part states (11.5). -/
inductive PartState where
  | start
  | mounting
  | active
  | standby
  | fault
  deriving DecidableEq, Repr

/-- The current event of a service: its event id and rating, or none (R48, R53). -/
structure CurrentOf where
  service : Nat
  event : Option (Nat × Option Nat)
  deriving DecidableEq, Repr

/-- Part time, the 1-second ticks taken, and the steps that a 1-second tick has made due (log entry 3). -/
structure Ticks where
  /-- part time in milliseconds since power-good -/
  now : Nat
  /-- 1-second ticks taken -/
  seconds : Nat
  /-- a minute tick is raised: the current events before it (R40, R53) -/
  minuteDue : Option (List CurrentOf)
  /-- preview entries whose seconds used reached an allowance (R124) -/
  exhaustDue : List Nat
  /-- profiles whose accumulator reached 60, with the bound outputs in view at the tick (R165, R166) -/
  riseDue : List (Fin 6 × List (Fin 6))
  deriving DecidableEq, Repr

/-! ### Path Unit and DRAM port -/

/-- The window kind of a request (R1). -/
inductive WindowKind where
  | capture (k : Fin 4)
  | message
  | report
  | plain
  deriving DecidableEq, Repr

/-- An upstream request on its way through the part: its window kind, its place in the order of first hold (R13), and
whether a link reset has lost the link that asked for it (R14, R33). -/
structure UpReq where
  req : Request
  kind : WindowKind
  firstHeld : Option Nat
  lost : Bool
  deriving DecidableEq, Repr

/-- The part's own reads and writes (1.5). -/
inductive OwnKind where
  | fetch (n : Fin 256)
  | entry
  | overrun
  | publish (index : Nat)
  | controlBlock
  | outcome (n : Fin 256)
  | scrub (n : Fin 256)
  | title (n : Fin 256)
  | crc (n : Fin 256)
  deriving DecidableEq, Repr

/-- An own request: a fetch has no data. `void` marks one whose completion a link reset has made void (R34, R192). -/
structure OwnReq where
  what : OwnKind
  addr : Nat
  data : List Byte
  void : Bool
  deriving DecidableEq, Repr

/-- The request that occupies the DRAM port. -/
inductive Serving where
  | upstream (u : UpReq)
  | own (r : OwnReq)
  deriving DecidableEq, Repr

/-- The DRAM port arbiter (R15). -/
structure Port where
  up : List UpReq
  own : List OwnReq
  pass : Nat
  serving : Option Serving
  deriving DecidableEq, Repr

/-- Ring signal state (R5). -/
inductive RingState where
  | silent
  | live
  deriving DecidableEq, Repr

/-- One capture window's ring state and counters (R4, R5, R96). -/
structure Ring where
  state : RingState
  goodRun : Nat
  lastGood : Option Nat
  good : Nat
  bad : Nat
  corrected : Nat
  deriving DecidableEq, Repr

/-- What the part returns on the link for a request: the bytes of a read, nothing for the acknowledgement of a write. -/
structure Answer where
  req : Request
  data : List Byte
  deriving DecidableEq, Repr

/-- The reasons of a blank packet (R8 to R11). -/
inductive BlankReason where
  | idle
  | gate
  | noKey
  | otherStream
  deriving DecidableEq, Repr

/-- A delivery or a blank as the tune record takes it (R12). -/
inductive ReadEvent where
  | delivery
  | blank (r : BlankReason)
  deriving DecidableEq, Repr

/-- A cell read that has been judged and whose response has not yet left on the link (R64): its output, what it will be
for the tune record, the request, and the response bytes. -/
structure Leaving where
  output : Fin 6
  event : ReadEvent
  read : UpReq
  data : List Byte
  deriving DecidableEq, Repr

/-- The Path Unit's own state. `leaving` holds the judged reads whose responses have not left, oldest first (log
entry 28). -/
structure PathUnit where
  startHeld : List Request
  paceHeld : List UpReq
  holdCount : Nat
  paceWindow : Nat
  rings : Vector Ring 4
  leaving : List Leaving
  answers : List Answer
  deriving DecidableEq, Repr

/-! ### Intake -/

/-- The stage of the record in processing (2.3): its fetch is issued or in service, its outcome is decided and its
writes issued, or a link reset detached it with its fetch complete (R34). -/
inductive ProcStage where
  | fetching
  | decided
  | detached (bytes : List Byte)
  deriving DecidableEq, Repr

/-- The record in processing. -/
structure Proc where
  slot : Fin 256
  stage : ProcStage
  deriving DecidableEq, Repr

/-- Intake's state (chapter 2). -/
structure Intake where
  taken : Vector Bool 256
  urgent : List (Fin 256)
  bulk : List (Fin 256)
  streak : Nat
  held : List (Fin 256 × UpReq)
  proc : Option Proc
  deriving DecidableEq, Repr

/-! ### Guide Tables -/

/-- An entry of the service map, or a retained entry (R42, R45). -/
structure MapEntry where
  service : Nat
  streams : List Nat
  scrambled : Bool
  exportOk : Bool
  regions : BitVec 16
  rating : Option Nat
  version : Option Nat
  deriving DecidableEq, Repr

/-- An event of the pool (R47). -/
structure GuideEvent where
  service : Nat
  id : Nat
  start : Nat
  duration : Nat
  rating : Option Nat
  deriving DecidableEq, Repr

/-- The six guide counters (R56). -/
structure GuideCounters where
  accepted : Nat
  crcFailed : Nat
  stale : Nat
  evicted : Nat
  dropped : Nat
  malformed : Nat
  deriving DecidableEq, Repr

/-- Guide Tables' state. The map is kept by service, the pool by service and start (they have no other order). -/
structure Guide where
  clock : Option Nat
  offset : Int
  budgetDate : Option Int
  map : List MapEntry
  retained : List MapEntry
  lastVersion : Option Nat
  pool : List GuideEvent
  counters : GuideCounters
  deriving DecidableEq, Repr

/-! ### Key Store and Context Pool -/

/-- The EVENT criteria of a half (R85). -/
structure EventCriteria where
  event : Nat
  start : Nat
  duration : Nat
  price : Nat
  preview : Nat
  including : Option Nat
  late : Bool
  deriving DecidableEq, Repr

/-- The criteria kinds (R85). -/
inductive Criteria where
  | freeToAir
  | package (p : Nat)
  | event (e : EventCriteria)
  deriving DecidableEq, Repr

/-- Verdicts (R118). -/
inductive Verdict where
  | entitled
  | preview
  | purchaseNeeded
  | notEntitled
  deriving DecidableEq, Repr

/-- A present half (R83). Its ageing timer expires 20,000 ms after `loaded`, the last load or refresh. -/
structure Half where
  content : BitVec 128
  wrapped : BitVec 128
  criteria : Criteria
  rating : Option Nat
  verdict : Verdict
  order : Nat
  loaded : Nat
  deriving DecidableEq, Repr

/-- What a context carries unless it is FREE (R58). -/
structure Tuning where
  service : Nat
  window : Fin 4
  streams : List Nat
  scrambled : Bool
  deriving DecidableEq, Repr

/-- Context states (R58). STAGED keeps its staged-since. -/
inductive Life where
  | free
  | staged (t : Tuning) (since : Nat)
  | active (t : Tuning)
  deriving DecidableEq, Repr

/-- A service context (R58), with the Key Store's part of it (R83). -/
structure Context where
  life : Life
  members : List (Fin 6)
  parity : Option HalfParity
  epoch : Option Nat
  even : Option Half
  odd : Option Half
  deriving DecidableEq, Repr

/-! ### Outputs -/

/-- The tune states other than IDLE, each with its own timer value (R60). -/
inductive Phase where
  | seeking (keyWait : Nat)
  | presenting
  | stalled (since : Nat)
  deriving DecidableEq, Repr

/-- The working part of a tune record of an output that is not IDLE (R60). -/
structure Tuned where
  phase : Phase
  service : Nat
  window : Fin 4
  context : Fin 8
  seekStart : Nat
  deriving DecidableEq, Repr

/-- Why a gate is CLOSED (R170). -/
inductive GateReason where
  | exportDenied
  | region
  | notEntitled
  | rating
  | unknownRating
  | hours
  | budget
  | purchase
  | idle
  deriving DecidableEq, Repr

/-- A gate value (R170). -/
inductive Gate where
  | opened
  | closed (r : GateReason)
  deriving DecidableEq, Repr

/-- An outstanding offer (R134). -/
structure Offer where
  event : Nat
  price : Nat
  deriving DecidableEq, Repr

/-- The counters of STATS_OUTPUT (R7, R11). -/
structure OutputCounters where
  descrambled : Nat
  clear : Nat
  gate : Nat
  noKey : Nat
  otherStream : Nat
  partials : Nat
  deriving DecidableEq, Repr

/-- The delivery record without its pace count (R12). -/
structure Delivery where
  last : Option Nat
  count : Nat
  lastBlank : Option BlankReason
  deriving DecidableEq, Repr

/-- Everything the part keeps for one output; `tune` is none when it is IDLE. -/
structure Output where
  tune : Option Tuned
  delivery : Delivery
  pace : Nat
  eventUnlock : Option Nat
  periodUnlock : Option Nat
  gate : Gate
  reported : Gate
  offer : Option Offer
  counters : OutputCounters
  deriving DecidableEq, Repr

/-! ### Rights, access, purse -/

/-- A present package entry (R101). -/
structure Package where
  expiry : Option Nat
  deriving DecidableEq, Repr

/-- The Rights Table (R101). -/
structure Rights where
  unitSeq : Nat
  groupSeq : Nat
  packages : Vector (Option Package) 64
  region : Nat
  overdraft : Nat
  mask : Nat
  deriving DecidableEq, Repr

/-- An entry of the preview table (R122). -/
structure PreviewEntry where
  event : Nat
  seconds : Nat
  endMinute : Nat
  deriving DecidableEq, Repr

/-- An entry of the owned-events table (R126). -/
structure OwnedEntry where
  event : Nat
  endMinute : Nat
  seq : Nat
  deriving DecidableEq, Repr

/-- The Access Unit's tables (R117); verdicts stand with the halves, offers with the outputs. -/
structure AccessUnit where
  previews : List PreviewEntry
  owned : List OwnedEntry
  deriving DecidableEq, Repr

/-- Journal record kinds (R138). -/
inductive JournalKind where
  | purchase
  | topup
  | collect
  deriving DecidableEq, Repr

/-- A journal record with its place, 0 to 1,023 in ring order from sector 2 slot 0 (R136, R138, R139). -/
structure JournalRecord where
  seq : Nat
  kind : JournalKind
  amount : Int
  balanceAfter : Int
  event : Nat
  endMinute : Nat
  clock : Nat
  output : Option Nat
  upTo : Nat
  place : Nat
  deriving DecidableEq, Repr

/-- The erase-ahead target: a sector index 0 to 7 (sectors 2 to 9), WAITING or REFUSED (R144). -/
structure Target where
  sector : Fin 8
  waiting : Bool
  deriving DecidableEq, Repr

/-- The Purse and Journal (R139, R103). -/
structure Purse where
  balance : Int
  list : List JournalRecord
  writePos : Nat
  erased : Vector Bool 8
  queue : List JournalRecord
  watermark : Nat
  target : Option Target
  floorUnit : Nat
  floorGroup : Nat
  deriving DecidableEq, Repr

/-! ### Flash port and settings store -/

/-- The operation that occupies the flash port (R137). -/
inductive FlashOp where
  | imageRead
  | settingsRead
  | journalRead
  | program (r : JournalRecord)
  | erase (sector : Fin 8)
  | rewriteErase
  | rewritePage (page : Fin 4)
  deriving DecidableEq, Repr

/-- The flash port arbiter (R136, R137). -/
structure FlashPort where
  op : Option FlashOp
  inhibited : Bool
  deriving DecidableEq, Repr

/-- The dirty states of the settings store (R147). -/
inductive Dirty where
  | none
  | metering
  | change
  deriving DecidableEq, Repr

/-- A rewrite in progress (R149): its snapshot of 1,024 bytes, and how many of its five steps have been started. -/
structure Rewrite where
  snapshot : List Byte
  started : Nat
  deriving DecidableEq, Repr

/-- The settings store (R147, R148). -/
structure Settings where
  dirty : Dirty
  forced : Bool
  lastStart : Nat
  rewrite : Option Rewrite
  deriving DecidableEq, Repr

/-! ### Profiles -/

/-- Window results (R168). -/
inductive WindowResult where
  | pass
  | inside
  | outside
  deriving DecidableEq, Repr

/-- A parental profile (R153). -/
structure Profile where
  ceiling : Nat
  blockUnknown : Bool
  window : Option (Nat × Nat)
  budget : Option Nat
  minutesUsed : Nat
  accumulator : Nat
  pin : List Nat
  purchasePin : Bool
  failures : Nat
  lockoutEnd : Option Nat
  warned : Bool
  result : WindowResult
  deriving DecidableEq, Repr

/-! ### Notice Writer, statistics, lamps -/

/-- The report ring, the notice line and the statistics timer (R181, R184, R185, R186, R195). -/
structure Writer where
  writeIdx : Nat
  pubIdx : Nat
  consIdx : Nat
  overrun : Bool
  dropped : Nat
  consumerCopy : List Byte
  line : Bool
  delayEnd : Option Nat
  statsEnd : Option Nat
  statsDeferred : Bool
  deriving DecidableEq, Repr

/-- The lamp outputs and the phase of the blink cycle (R187). -/
structure Lamps where
  lock : Bool
  offer : Bool
  standby : Bool
  phase : Bool
  deriving DecidableEq, Repr

/-! ### The whole state -/

/-- The state of the part, and the queue of the commands that wait. -/
structure State where
  powerGood : Bool
  part : PartState
  ticks : Ticks
  cfg : Image
  path : PathUnit
  port : Port
  intake : Intake
  guide : Guide
  ctxs : Vector Context 8
  loadOrder : Nat
  outs : Vector Output 6
  rights : Rights
  access : AccessUnit
  purse : Purse
  flashPort : FlashPort
  settings : Settings
  profiles : Vector Profile 6
  writer : Writer
  lamps : Lamps
  dram : Memory
  flash : Memory
  pending : List Instr
  deriving DecidableEq, Repr

/-! ### Values before power-good -/

/-- A disabled output (reset value of the output table: log entry 1). -/
def OutputCfg.none : OutputCfg := ⟨false, false, 0, 1⟩

/-- No limits (reset value before the image is loaded: log entry 1). -/
def FactoryProfile.none : FactoryProfile := ⟨0, false, false, .none, .none⟩

/-- No configuration image is loaded (log entry 1). -/
def Image.none : Image where
  version := 0
  unitId := 0
  groupId := .none
  windows := Vector.replicate 4 .none
  msgBase := 0
  repBase := 0
  requesters := Vector.replicate 16 .other
  outputs := Vector.replicate 6 OutputCfg.none
  mitCount := 1
  mitDelay := 0
  statPeriod := 0
  blinkHz := 2
  duty := 50
  factoryRegion := 0
  factoryMask := 0
  factoryOverdraft := 0
  defaultPin := [0, 0, 0, 0]
  maskText := []
  factoryProfiles := Vector.replicate 6 FactoryProfile.none

/-- R4, R5, R96 at power-on. -/
def Ring.atPowerOn : Ring := ⟨.silent, 0, .none, 0, 0, 0⟩

/-- R58, R83 at power-on, and a context that is FREE (R71, R100). -/
def Context.free : Context := ⟨.free, [], .none, .none, .none, .none⟩

/-- R12 when an output is moved into IDLE or SEEKING, and at power-on. -/
def Delivery.cleared : Delivery := ⟨.none, 0, .none⟩

/-- R11, R19: counters at zero. -/
def OutputCounters.zero : OutputCounters := ⟨0, 0, 0, 0, 0, 0⟩

/-- R12, R60, R117, R153, R170 at power-on. -/
def Output.atPowerOn : Output :=
  ⟨.none, Delivery.cleared, 0, .none, .none, .closed .idle, .closed .idle, .none, OutputCounters.zero⟩

/-- R56: counters at zero. -/
def GuideCounters.zero : GuideCounters := ⟨0, 0, 0, 0, 0, 0⟩

/-- A profile before MOUNTING (log entry 1). -/
def Profile.unloaded : Profile :=
  ⟨0, false, .none, .none, 0, 0, [0, 0, 0, 0], false, 0, .none, false, .pass⟩

/-- The part before power-good, every field at its power-on value, and no command waiting (log entries 1 and 8). -/
def State.reset : State where
  powerGood := false
  part := .start
  ticks := ⟨0, 0, .none, [], []⟩
  cfg := Image.none
  path := ⟨[], [], 0, 0, Vector.replicate 4 Ring.atPowerOn, [], []⟩
  port := ⟨[], [], 0, .none⟩
  intake := ⟨Vector.replicate 256 false, [], [], 0, [], .none⟩
  guide := ⟨.none, 0, .none, [], [], .none, [], GuideCounters.zero⟩
  ctxs := Vector.replicate 8 Context.free
  loadOrder := 0
  outs := Vector.replicate 6 Output.atPowerOn
  rights := ⟨0, 0, Vector.replicate 64 .none, 0, 0, 0⟩
  access := ⟨[], []⟩
  purse := ⟨0, [], 0, Vector.replicate 8 false, [], 0, .none, 0, 0⟩
  flashPort := ⟨.none, true⟩
  settings := ⟨.none, false, 0, .none⟩
  profiles := Vector.replicate 6 Profile.unloaded
  writer := ⟨0, 0, 0, false, 0, [0, 0, 0, 0], false, .none, .none, false⟩
  lamps := ⟨false, false, false, false⟩
  dram := []
  flash := []
  pending := []

/-! ### How a step can stop -/

/-- Faults. -/
inductive Fault where
  /-- Raised by UPSTREAM_REQUEST for a start address that is not below 1 GiB: the spec says there is none
  (00_scope.md, Terms). Safe: the model stops. -/
  | outsideMemory
  deriving DecidableEq, Repr

/-- Refusals. -/
inductive Refusal where
  /-- Raised by an arm of `exec` whose command has no meaning yet. Safe: the model stops. -/
  | notModelled (mnemonic : String)
  /-- Raised by UPSTREAM_REQUEST for operands that are no request of R1, and by TIME and MINUTE_TICK for a list that is
  no order of the four blocks. Such operands describe no command. Safe: the model stops. -/
  | illFormed
  /-- Raised by POWER_LOSS for bytes that the spec says an interrupted operation cannot leave (R142, R145, R149).
  Safe: the model stops. -/
  | impossibleRemains
  deriving DecidableEq, Repr

/-- The outcome of one step. -/
abbrev Result := Host.Outcome State Fault Refusal

end Sys2Proof.Machine
end

