-- ==== Sys2Proof/Machine/Bytes.lean ====
section
/-! DEFINITION. Bytes: big-endian fields, saturating counters, the two CRCs, PIN fields, and DRAM and flash as sparse
memories (00_scope.md Numbers, R17, R138, R193). -/

namespace Sys2Proof.Machine

/-! ### Big-endian fields (00_scope.md, Numbers) -/

/-- The `n` bytes of a number, most significant first; the number is taken mod 256^n, which the spec does not say of
every field (log entry 29, DESIGN CHOICE). -/
def beBytes : Nat → Nat → List Byte
  | 0, _ => []
  | n + 1, v => BitVec.ofNat 8 (v / 256 ^ n) :: beBytes n v

/-- The `n` bytes of a signed number in two's complement. -/
def beSigned (n : Nat) (v : Int) : List Byte := beBytes n (v % (256 ^ n : Nat)).toNat

/-- The number that bytes spell, most significant first. -/
def ofBytes (bs : List Byte) : Nat := bs.foldl (fun a b => a * 256 + b.toNat) 0

/-- Byte `i` of a byte string; 00h past its end. -/
def byteAt (bs : List Byte) (i : Nat) : Byte := bs.getD i 0

/-- The `n` bytes at offset `i`. -/
def slice (bs : List Byte) (i n : Nat) : List Byte := (List.range n).map (fun k => byteAt bs (i + k))

/-- The one-byte field at offset `i`. -/
def u8 (bs : List Byte) (i : Nat) : Nat := (byteAt bs i).toNat

/-- The big-endian field of `n` bytes at offset `i`. -/
def field (bs : List Byte) (i n : Nat) : Nat := ofBytes (slice bs i n)

/-- The signed big-endian field of `n` bytes at offset `i`. -/
def signedField (bs : List Byte) (i n : Nat) : Int :=
  let v := field bs i n
  if v < 128 * 256 ^ (n - 1) then v else (v : Int) - (256 ^ n : Nat)

/-- The bit of the byte at offset `i` that has value 2^b. -/
def flag (bs : List Byte) (i b : Nat) : Bool := (byteAt bs i).getLsbD b

/-- A bit string as its value, bit 0 first. -/
def ofFlags : List Bool → Nat
  | [] => 0
  | b :: rest => (if b then 1 else 0) + 2 * ofFlags rest

/-- Zero bytes up to a length (R193: reserved bytes are written as 00h). -/
def zeros (n : Nat) : List Byte := List.replicate n 0

/-- A byte string filled with zero bytes to length `n`. -/
def padTo (n : Nat) (bs : List Byte) : List Byte := bs ++ zeros (n - bs.length)

/-! ### Counters (00_scope.md, Numbers: 32 bits, they stop at their maximum) -/

/-- The maximum of a 32-bit counter. -/
def counterMax : Nat := 4294967295

/-- One more, up to the maximum. -/
def satInc (n : Nat) : Nat := if n < counterMax then n + 1 else counterMax

/-! ### CRC-32 (R17) and the record check (R138) -/

/-- One bit of the CRC-32 with generator 04C11DB7h, most significant bit first. -/
def crc32Bit (c : BitVec 32) : BitVec 32 := if c.msb then (c <<< 1) ^^^ 0x04C11DB7#32 else c <<< 1

/-- One byte of the CRC-32. -/
def crc32Byte (c : BitVec 32) (b : Byte) : BitVec 32 :=
  let c0 := c ^^^ (b.setWidth 32 <<< 24)
  crc32Bit (crc32Bit (crc32Bit (crc32Bit (crc32Bit (crc32Bit (crc32Bit (crc32Bit c0)))))))

/-- R17: initial value FFFFFFFFh, no reflection, no final inversion. -/
def crc32 (bs : List Byte) : Nat := (bs.foldl crc32Byte 0xFFFFFFFF#32).toNat

/-- One bit of the 16-bit CRC with generator 1021h, most significant bit first. -/
def crc16Bit (c : BitVec 16) : BitVec 16 := if c.msb then (c <<< 1) ^^^ 0x1021#16 else c <<< 1

/-- One byte of the 16-bit CRC. -/
def crc16Byte (c : BitVec 16) (b : Byte) : BitVec 16 :=
  let c0 := c ^^^ (b.setWidth 16 <<< 8)
  crc16Bit (crc16Bit (crc16Bit (crc16Bit (crc16Bit (crc16Bit (crc16Bit (crc16Bit c0)))))))

/-- R138: the record check, initial value FFFFh, no reflection, no final inversion. -/
def crc16 (bs : List Byte) : Nat := (bs.foldl crc16Byte 0xFFFF#16).toNat

/-! ### PIN fields (R193) -/

/-- The digits of a PIN field: 4 to 8 characters 30h to 39h and then only 00h; none for any other field, an absent one
among them. -/
def pinOf (f : List Byte) : Option (List Nat) :=
  let ds := f.takeWhile (· ≠ 0)
  let rest := f.dropWhile (· ≠ 0)
  if 4 ≤ ds.length ∧ ds.length ≤ 8 ∧ (∀ b ∈ ds, 0x30 ≤ b.toNat ∧ b.toNat ≤ 0x39) ∧ (∀ b ∈ rest, b = 0) then
    some (ds.map (fun b => b.toNat - 0x30))
  else none

/-- A PIN as a field of 8 bytes. -/
def pinField (pin : List Nat) : List Byte := padTo 8 (pin.map (fun d => BitVec.ofNat 8 (0x30 + d)))

/-! ### Sparse memories -/

/-- What an unlisted byte of DRAM reads as (log entry 8, DESIGN CHOICE). -/
def dramDefault : Byte := 0

/-- What an unlisted byte of flash reads as: an erased byte (R136). -/
def flashDefault : Byte := 0xFF

/-- Reading one byte of a memory whose unlisted bytes read as `d`. -/
def Memory.read (d : Byte) (m : Memory) (a : Nat) : Byte :=
  match m with
  | [] => d
  | (k, v) :: rest => if k = a then v else if a < k then d else Memory.read d rest a

/-- Writing one byte; writing what an unlisted byte reads as leaves the byte unlisted. -/
def Memory.write (d : Byte) (m : Memory) (a : Nat) (b : Byte) : Memory :=
  match m with
  | [] => if b = d then [] else [(a, b)]
  | (k, v) :: rest =>
    if a < k then (if b = d then (k, v) :: rest else (a, b) :: (k, v) :: rest)
    else if a = k then (if b = d then rest else (k, b) :: rest)
    else (k, v) :: Memory.write d rest a b

/-- Writing bytes from an address upward. -/
def Memory.writeBytes (d : Byte) (m : Memory) (a : Nat) : List Byte → Memory
  | [] => m
  | b :: bs => Memory.writeBytes d (Memory.write d m a b) (a + 1) bs

/-- Reading `n` bytes from an address upward. -/
def Memory.readBytes (d : Byte) (m : Memory) (a n : Nat) : List Byte :=
  (List.range n).map (fun i => Memory.read d m (a + i))

/-- Setting `n` bytes from an address upward to what an unlisted byte reads as (a sector erase, R136). -/
def Memory.clear (m : Memory) (a n : Nat) : Memory := m.filter (fun c => !(a ≤ c.1 && c.1 < a + n))

/-- Every byte of a range reads as an unlisted byte (R150, R151: all FFh). -/
def Memory.blank (d : Byte) (m : Memory) (a n : Nat) : Bool :=
  m.all (fun c => !(a ≤ c.1 && c.1 < a + n) || c.2 == d)

/-- Addresses rise strictly above `lo`, and no entry equals what an unlisted address reads as. -/
def Memory.wfFrom (d : Byte) : Nat → Memory → Bool
  | _, [] => true
  | lo, (k, v) :: rest => lo ≤ k && v != d && Memory.wfFrom d (k + 1) rest

/-- The canonical form of a memory. -/
def Memory.wf (d : Byte) (m : Memory) : Bool := Memory.wfFrom d 0 m

/-- One byte of DRAM. -/
def State.dramByte (s : State) (a : Nat) : Byte := s.dram.read dramDefault a

/-- One byte of flash. -/
def State.flashByte (s : State) (a : Nat) : Byte := s.flash.read flashDefault a

/-- Bytes of DRAM. -/
def State.dramRead (s : State) (a n : Nat) : List Byte := s.dram.readBytes dramDefault a n

/-- A write that completes at DRAM. -/
def State.dramWrite (s : State) (a : Nat) (bs : List Byte) : State :=
  { s with dram := s.dram.writeBytes dramDefault a bs }

/-- Bytes of flash. -/
def State.flashRead (s : State) (a n : Nat) : List Byte := s.flash.readBytes flashDefault a n

/-- Bytes programmed into flash. -/
def State.flashWrite (s : State) (a : Nat) (bs : List Byte) : State :=
  { s with flash := s.flash.writeBytes flashDefault a bs }

/-- A sector erase: every byte of the sector reads FFh (R136). -/
def State.flashErase (s : State) (sector : Nat) : State :=
  { s with flash := s.flash.clear (sector * 4096) 4096 }

end Sys2Proof.Machine
end

