-- ==== Sys2Proof/Machine/Notice.lean ====
section
/-! DEFINITION. The nineteen notice kinds and their bytes (R196). -/

namespace Sys2Proof.Machine

/-- The reason of a STALLED notice (R77). -/
inductive StallReason where
  | noSignal
  | gate (r : GateReason)
  | noKey
  | otherCause
  deriving DecidableEq, Repr

/-- The cause of a GATE notice (R177). -/
inductive GateCause where
  | retune
  | parity
  | key
  | verdict
  | map
  | guide
  | rights
  | unlock
  | profile
  | budget
  | minute
  deriving DecidableEq, Repr

/-- What a GATE notice carries besides the output (R177). -/
structure GateReport where
  value : Gate
  previous : Gate
  cause : GateCause
  window : Nat
  context : Nat
  service : Nat
  governing : Option (HalfParity × Verdict)
  rating : Option Nat
  eventOverride : Bool
  periodOverride : Bool
  deriving DecidableEq, Repr

/-- What an OFFER notice carries (R134). -/
structure OfferReport where
  output : Nat
  window : Nat
  service : Nat
  event : Nat
  endMinute : Nat
  price : Nat
  overdraft : Nat
  balance : Int
  deriving DecidableEq, Repr

/-- What a RIGHTS_CHANGED notice carries (R114). -/
structure RightsReport where
  addressKind : Nat
  items : Nat
  kinds : Nat
  packages : Nat
  sequence : Nat
  balance : Int
  newest : Nat
  region : Nat
  mask : Nat
  overdraft : Nat
  deriving DecidableEq, Repr

/-- The notices (R196). Outputs, windows, contexts and profiles are given by number. -/
inductive Notice where
  | ready (linkReset : Bool) (version unitId : Nat) (balance : Int) (newest : Nat)
  | tuned (output window service context : Nat) (scrambled : Bool) (ms : Nat)
  | stalled (output window service context : Nat) (scrambled : Bool) (reason : StallReason)
  | resumed (output window service context ms : Nat)
  | gate (output : Nat) (g : GateReport)
  | offer (r : OfferReport)
  | purchased (output service event price : Nat) (balance : Int) (seq : Nat)
  | previewEnd (output window service event seconds : Nat)
  | budgetWarn (profile : Nat) (inView : List Bool) (used budget remaining : Nat)
  | lockout (profile kind : Nat) (output : Option Nat) (endTime : Nat)
  | ring (window : Nat) (state : RingState)
  | keyFault (context window service : Nat) (parity : HalfParity) (compare : Bool)
  | settingsLost
  | rightsChanged (r : RightsReport)
  | timeJump (step : Int) (clock : Nat) (offset : Int)
  | statsOutput (output tuneState : Nat) (c : OutputCounters)
  | statsRing (window : Nat) (state : RingState) (good bad corrected : Nat)
  | statsGuide (lastVersion : Option Nat) (entries events : Nat) (c : GuideCounters)
  | journal (r : JournalRecord)
  deriving DecidableEq, Repr

/-! ### Codes (R196, R138, 12.4) -/

/-- Gate reason codes: 01h EXPORT_DENIED to 08h PURCHASE, 09h IDLE. -/
def GateReason.code : GateReason → Nat
  | .exportDenied => 1
  | .region => 2
  | .notEntitled => 3
  | .rating => 4
  | .unknownRating => 5
  | .hours => 6
  | .budget => 7
  | .purchase => 8
  | .idle => 9

/-- Gate value codes. -/
def Gate.code : Gate → Nat
  | .opened => 0
  | .closed r => r.code

/-- Stall reason codes. -/
def StallReason.code : StallReason → Nat
  | .noSignal => 0x10
  | .gate r => r.code
  | .noKey => 0x11
  | .otherCause => 0x12

/-- GATE cause codes. -/
def GateCause.code : GateCause → Nat
  | .retune => 1
  | .parity => 2
  | .key => 3
  | .verdict => 4
  | .map => 5
  | .guide => 6
  | .rights => 7
  | .unlock => 8
  | .profile => 9
  | .budget => 10
  | .minute => 11

/-- Verdict codes. -/
def Verdict.code : Verdict → Nat
  | .entitled => 1
  | .preview => 2
  | .purchaseNeeded => 3
  | .notEntitled => 4

/-- Parity codes: 02h even, 03h odd. -/
def parityCode : HalfParity → Nat
  | .even => 2
  | .odd => 3

/-- Ring state codes. -/
def RingState.code : RingState → Nat
  | .silent => 0
  | .live => 1

/-- Journal record kind codes (12.4). -/
def JournalKind.code : JournalKind → Nat
  | .purchase => 1
  | .topup => 2
  | .collect => 3

/-- A flag as 00h or 01h: R195 gives these for the overrun mark; for the scrambled and saturated fields of R196, which its
table of codes leaves out, they are the model's (log entry 34, DESIGN CHOICE). -/
def flagCode (b : Bool) : Nat := if b then 1 else 0

/-- An optional byte: FFh when absent (R193). -/
def orFF (n : Option Nat) : Nat := n.getD 0xFF

/-- R185: a counter stood at its maximum. -/
def saturated (cs : List Nat) : Bool := cs.any (fun c => counterMax ≤ c)

/-- The counters of STATS_OUTPUT in the order of R196. -/
def OutputCounters.list (c : OutputCounters) : List Nat :=
  [c.descrambled, c.clear, c.gate, c.noKey, c.otherStream, c.partials]

/-- The guide counters in the order of R56. -/
def GuideCounters.list (c : GuideCounters) : List Nat :=
  [c.accepted, c.crcFailed, c.stale, c.evicted, c.dropped, c.malformed]

/-- Several numbers as fields of `n` bytes each. -/
def beList (n : Nat) (vs : List Nat) : List Byte := (vs.map (beBytes n)).flatten

/-- Notice kind codes (R196). -/
def Notice.kind : Notice → Nat
  | .ready .. => 0x01
  | .tuned .. => 0x02
  | .stalled .. => 0x03
  | .resumed .. => 0x04
  | .gate .. => 0x05
  | .offer .. => 0x06
  | .purchased .. => 0x07
  | .previewEnd .. => 0x08
  | .budgetWarn .. => 0x09
  | .lockout .. => 0x0A
  | .ring .. => 0x0B
  | .keyFault .. => 0x0C
  | .settingsLost => 0x0D
  | .rightsChanged .. => 0x0E
  | .timeJump .. => 0x0F
  | .statsOutput .. => 0x10
  | .statsRing .. => 0x11
  | .statsGuide .. => 0x12
  | .journal .. => 0x13

/-- The fields of a notice from byte 16 on (R196). Where the spec leaves a field open, the model chooses: a value too large
for its field (milliseconds from seek or stall start, an event end minute, a lockout end) is written as its low bytes
(log entry 29, DESIGN CHOICE), and the last map version of STATS_GUIDE is 0000h when there is none (log entry 32, DESIGN
CHOICE). -/
def Notice.fields : Notice → List Byte
  | .ready lr version unitId balance newest =>
    beList 1 [if lr then 2 else 1, 2] ++ beList 2 [0x4280, 1, version] ++ beBytes 4 unitId ++ beSigned 4 balance ++
      beBytes 4 newest
  | .tuned o w svc c scr ms =>
    beList 1 [o, w] ++ beBytes 2 svc ++ beList 1 [c, flagCode scr] ++ zeros 2 ++ beBytes 4 ms
  | .stalled o w svc c scr r => beList 1 [o, w] ++ beBytes 2 svc ++ beList 1 [c, flagCode scr, r.code]
  | .resumed o w svc c ms => beList 1 [o, w] ++ beBytes 2 svc ++ beList 1 [c] ++ zeros 3 ++ beBytes 4 ms
  | .gate o g =>
    beList 1 [o, g.value.code, g.previous.code, g.cause.code, g.window, g.context] ++ beBytes 2 g.service ++
      beList 1 [match g.governing with | none => 0 | some (p, _) => parityCode p,
        match g.governing with | none => 0 | some (_, v) => v.code,
        orFF g.rating, ofFlags [g.eventOverride, g.periodOverride]]
  | .offer r =>
    beList 1 [r.output, r.window] ++ beBytes 2 r.service ++ beList 4 [r.event, r.endMinute, r.price] ++
      beList 2 [0, r.overdraft] ++ beSigned 4 r.balance
  | .purchased o svc e price balance seq =>
    beList 1 [o, 0] ++ beBytes 2 svc ++ beList 4 [e, price] ++ beSigned 4 balance ++ beBytes 4 seq
  | .previewEnd o w svc e sec => beList 1 [o, w] ++ beBytes 2 svc ++ beBytes 4 e ++ beBytes 2 sec
  | .budgetWarn q inView used budget remaining =>
    beList 1 [q, ofFlags inView] ++ beList 2 [used, budget, remaining]
  | .lockout q kind o endTime => beList 1 [q, kind, orFF o, 0] ++ beBytes 4 endTime ++ beBytes 2 900
  | .ring w st => beList 1 [w, st.code]
  | .keyFault c w svc p cmp => beList 1 [c, w] ++ beBytes 2 svc ++ beList 1 [parityCode p, if cmp then 2 else 1]
  | .settingsLost => []
  | .rightsChanged r =>
    beList 1 [r.addressKind, r.items, r.kinds, r.packages] ++ beBytes 4 r.sequence ++ beSigned 4 r.balance ++
      beBytes 4 r.newest ++ beList 1 [r.region, r.mask] ++ beBytes 2 r.overdraft
  | .timeJump step clock offset => beSigned 4 step ++ beBytes 4 clock ++ beSigned 2 offset
  | .statsOutput o ts c => beList 1 [o, ts, flagCode (saturated c.list), 0] ++ beList 4 c.list
  | .statsRing w st good bad corrected =>
    beList 1 [w, st.code, flagCode (saturated [good, bad, corrected]), 0] ++ beList 4 [good, bad, corrected]
  | .statsGuide v entries events c =>
    beList 1 [ofFlags [saturated c.list, v.isSome], 0] ++ beList 2 [v.getD 0, entries, events] ++ beList 4 c.list
  | .journal r =>
    beList 1 [r.kind.code, orFF r.output] ++ zeros 2 ++ beBytes 4 r.seq ++ beSigned 4 r.amount ++
      beSigned 4 r.balanceAfter ++ beList 4 [r.event, r.endMinute, r.clock, r.upTo]

/-- The 64 bytes of a notice entry: the common header of R182 and R196, the fields, and 00h to the end. -/
def Notice.entry (n : Notice) (mark : Bool) (dropped now : Nat) (clock : Option Nat) : List Byte :=
  padTo 64 (beList 1 [n.kind, flagCode mark] ++ beBytes 2 dropped ++ beBytes 4 now ++ beBytes 4 (clock.getD 0) ++
    zeros 4 ++ n.fields)

end Sys2Proof.Machine
end

