-- ==== Sys2Proof/Machine/Flags.lean ====
section
/-! DEFINITION. What the part computes from its state without changing it: the clock's derived values, table lookups,
the governing half, in view, the ring's counts, dates, package validity, prices, the lamp conditions. -/

namespace Sys2Proof.Machine

/-- The six outputs, ascending. -/
def allOutputs : List (Fin 6) := [0, 1, 2, 3, 4, 5]

/-- The eight contexts, ascending. -/
def allContexts : List (Fin 8) := [0, 1, 2, 3, 4, 5, 6, 7]

/-- The four capture windows, ascending. -/
def allWindows : List (Fin 4) := [0, 1, 2, 3]

/-- The six profiles, ascending. -/
def allProfiles : List (Fin 6) := [0, 1, 2, 3, 4, 5]

/-! ### Part states -/

/-- The part states in which the blocks work: MOUNTING, ACTIVE, STANDBY (R36, R57, R79, R188). -/
def PartState.running : PartState → Bool
  | .mounting | .active | .standby => true
  | .start | .fault => false

/-- The mount is complete (R152, R189). -/
def PartState.mounted : PartState → Bool
  | .active | .standby => true
  | .start | .mounting | .fault => false

/-- Power is good and the blocks work. -/
def State.running (s : State) : Bool := s.powerGood && s.part.running

/-! ### Configuration (R1, R2, R60) -/

/-- The configuration of output `o`. -/
def State.outCfg (s : State) (o : Fin 6) : OutputCfg := s.cfg.outputs[o]

/-- R2: the output a tag is bound to, for the classes VIEWER and EXPORT. -/
def State.boundOutput (s : State) (tag : Fin 16) : Option (Fin 6) :=
  match s.cfg.requesters[tag] with
  | .other => none
  | .viewer o => some o
  | .exporter o => some o

/-- An address lies in a window of base `b` and size `n`. -/
def inRange (b n a : Nat) : Bool := b ≤ a && a < b + n

/-- R1: capture window `k` is configured and holds the address. -/
def State.inCapture (s : State) (k : Fin 4) (a : Nat) : Bool :=
  match s.cfg.windows[k] with
  | none => false
  | some w => inRange w.base w.size a

/-- R1: the window kind of an address under the loaded map. -/
def State.classify (s : State) (a : Nat) : WindowKind :=
  match allWindows.find? (fun k => s.inCapture k a) with
  | some k => .capture k
  | none =>
    if inRange s.cfg.msgBase 65536 a then .message
    else if inRange s.cfg.repBase 65536 a then .report
    else .plain

/-- 2.1: the slot that an address of the message window falls in. -/
def State.slotOf (s : State) (a : Nat) : Fin 256 := Fin.ofNat 256 ((a - s.cfg.msgBase) / 256)

/-- 2.1: the address of byte 0 of a slot. -/
def State.slotAddr (s : State) (n : Fin 256) : Nat := s.cfg.msgBase + 256 * n.val

/-- A request covers the byte at offset `i` of its 256-byte block. -/
def covers (r : Request) (i : Nat) : Bool := r.addr % 256 ≤ i && i < r.addr % 256 + r.len

/-- The bytes a request writes. -/
def writeData (r : Request) : List Byte :=
  match r.access with
  | .read _ => []
  | .write d => d

/-- A request is a write. -/
def isWrite (r : Request) : Bool :=
  match r.access with
  | .read _ => false
  | .write _ => true

/-! ### The clock (R37) -/

/-- Now-minute. -/
def Guide.nowMinute (g : Guide) : Option Nat := g.clock.map (· / 60)

/-- Local time in seconds. -/
def Guide.localTime (g : Guide) : Option Int := g.clock.map (fun c => (c : Int) + 60 * g.offset)

/-- The local date: local time divided by 86,400, rounded towards minus infinity. -/
def Guide.localDate (g : Guide) : Option Int := g.localTime.map (· / 86400)

/-- The local minute of day, 0 to 1,439. -/
def Guide.minuteOfDay (g : Guide) : Option Nat := g.localTime.map (fun t => ((t % 86400) / 60).toNat)

/-! ### Guide lookups (R42, R45, R48) -/

/-- R42: the map entry of a service. -/
def Guide.entry (g : Guide) (svc : Nat) : Option MapEntry := g.map.find? (fun e => e.service = svc)

/-- R45, R172: the map entry of a service, or its retained entry. -/
def Guide.attributes (g : Guide) (svc : Nat) : Option MapEntry :=
  (g.entry svc).or (g.retained.find? (fun e => e.service = svc))

/-- R47: the end of an event, formed without wrapping. -/
def GuideEvent.finish (e : GuideEvent) : Nat := e.start + e.duration

/-- R48: the current event of a service. -/
def Guide.currentEvent (g : Guide) (svc : Nat) : Option GuideEvent :=
  match g.nowMinute, g.entry svc with
  | some t, some _ => g.pool.find? (fun e => e.service = svc ∧ e.start ≤ t ∧ t < e.finish)
  | _, _ => none

/-! ### Contexts and halves -/

/-- What a context carries unless it is FREE. -/
def Context.tuning (c : Context) : Option Tuning :=
  match c.life with
  | .free => none
  | .staged t _ => some t
  | .active t => some t

/-- R58: the context is ACTIVE. -/
def Context.isActive (c : Context) : Bool :=
  match c.life with
  | .active _ => true
  | .free | .staged _ _ => false

/-- R58: the context is FREE. -/
def Context.isFree (c : Context) : Bool :=
  match c.life with
  | .free => true
  | .active _ | .staged _ _ => false

/-- The half of a parity. -/
def Context.half (c : Context) (p : HalfParity) : Option Half :=
  match p with
  | .even => c.even
  | .odd => c.odd

/-- R84: the governing half and its parity. -/
def Context.governing (c : Context) : Option (HalfParity × Half) :=
  let latest : Option (HalfParity × Half) :=
    match c.even, c.odd with
    | some e, some o => if e.order < o.order then some (.odd, o) else some (.even, e)
    | some e, none => some (.even, e)
    | none, some o => some (.odd, o)
    | none, none => none
  match c.parity with
  | none => latest
  | some p =>
    match c.half p with
    | some h => some (p, h)
    | none => latest

/-- R84: what identifies the governing half: its slot and its load order. -/
def Context.governingMark (c : Context) : Option (HalfParity × Nat) := c.governing.map (fun g => (g.1, g.2.order))

/-- The context of an output that is not IDLE (R60). -/
def State.contextOf (s : State) (o : Fin 6) : Option Context := (s.outs[o]).tune.map (fun t => s.ctxs[t.context])

/-- The governing half of an output's context (R92). -/
def State.governingOf (s : State) (o : Fin 6) : Option (HalfParity × Half) :=
  (s.contextOf o).bind Context.governing

/-- R59: the STAGED or ACTIVE context of a service and window. -/
def State.findContext (s : State) (svc : Nat) (w : Nat) : Option (Fin 8) :=
  allContexts.find? (fun c =>
    match (s.ctxs[c]).tuning with
    | some t => t.service = svc && t.window.val = w
    | none => false)

/-- R59: some context of the service is STAGED or ACTIVE. -/
def State.serviceRunning (s : State) (svc : Nat) : Bool :=
  allContexts.any (fun c =>
    match (s.ctxs[c]).tuning with
    | some t => t.service = svc
    | none => false)

/-- R53: the current event of each service that has an ACTIVE context. -/
def State.currentEvents (s : State) : List CurrentOf :=
  (allContexts.filterMap (fun c =>
    match (s.ctxs[c]).life with
    | .active t => some t.service
    | .free | .staged _ _ => none)).dedup.map
    (fun svc => ⟨svc, (s.guide.currentEvent svc).map (fun e => (e.id, e.rating))⟩)

/-- Members of those ACTIVE contexts that a test picks, ascending. -/
def State.membersWhere (s : State) (pick : Fin 8 → Context → Bool) : List (Fin 6) :=
  allOutputs.filter (fun o =>
    allContexts.any (fun c => (s.ctxs[c]).isActive && pick c s.ctxs[c] && (s.ctxs[c]).members.contains o))

/-- The members of the ACTIVE contexts of the listed services. -/
def State.membersOfServices (s : State) (svcs : List Nat) : List (Fin 6) :=
  s.membersWhere (fun _ c =>
    match c.tuning with
    | some t => svcs.contains t.service
    | none => false)

/-! ### Outputs -/

/-- R12: in view. The text of R165 says that a retune or a release takes the output out of view 2,000 ms after its last
delivery; R12 clears the last-delivery time on the way into SEEKING or IDLE and asks for PRESENTING. The model follows R12:
the output is out of view at once (log entry 37, DESIGN CHOICE). -/
def State.inView (s : State) (o : Fin 6) : Bool :=
  match (s.outs[o]).tune, (s.outs[o]).delivery.last with
  | some t, some l => t.phase = .presenting && s.ticks.now < l + 2000
  | _, _ => false

/-- The outputs bound to a profile (R153). -/
def State.boundTo (s : State) (q : Fin 6) : List (Fin 6) := allOutputs.filter (fun o => (s.outCfg o).profile = q)

/-- The outputs bound to a profile that are not IDLE. -/
def State.tunedOn (s : State) (q : Fin 6) : List (Fin 6) := (s.boundTo q).filter (fun o => (s.outs[o]).tune.isSome)

/-- Tune state codes (R196). -/
def Output.tuneCode (x : Output) : Nat :=
  match x.tune with
  | none => 0
  | some t =>
    match t.phase with
    | .seeking _ => 1
    | .presenting => 2
    | .stalled _ => 3

/-- R163: the present event of an output. -/
def State.presentEvent (s : State) (o : Fin 6) : Option Nat :=
  match (s.outs[o]).tune with
  | none => none
  | some t =>
    match s.guide.currentEvent t.service with
    | some e => some e.id
    | none =>
      match s.governingOf o with
      | some (_, h) =>
        match h.criteria with
        | .event e => some e.event
        | .freeToAir | .package _ => none
      | none => none

/-! ### Rights and prices -/

/-- R102: package `p` is valid. -/
def State.packageValid (s : State) (p : Nat) : Bool :=
  if h : p < 64 then
    match s.rights.packages[p] with
    | none => false
    | some k =>
      match k.expiry, s.guide.nowMinute with
      | none, _ => true
      | some _, none => true
      | some x, some t => t < x
  else false

/-- R102: the including package of EVENT criteria is named and valid. -/
def State.includedBy (s : State) (e : EventCriteria) : Bool :=
  match e.including with
  | none => false
  | some p => s.packageValid p

/-- R118, R126: the event is in the owned-events table. -/
def AccessUnit.owns (a : AccessUnit) (event : Nat) : Bool := a.owned.any (fun x => x.event = event)

/-- R128: the price of an event at now-minute `t`, or none when it has ended. -/
def EventCriteria.priceAt (e : EventCriteria) (t : Nat) : Option Nat :=
  let elapsed := min (t - e.start) e.duration
  if elapsed = e.duration then none
  else if !e.late || elapsed = 0 then some e.price
  else
    let prorated := (e.price * (e.duration - elapsed) + e.duration - 1) / e.duration
    let lowest := (e.price + 3) / 4
    some (max prorated lowest)

/-- R128: the price now; none with the clock unset. -/
def State.priceNow (s : State) (e : EventCriteria) : Option Nat := s.guide.nowMinute.bind e.priceAt

/-- R129: a debit is allowed. -/
def State.debitAllowed (s : State) (p : Nat) : Bool := -(s.rights.overdraft : Int) ≤ s.purse.balance - p

/-- The EVENT criteria of a half. -/
def Half.eventCriteria (h : Half) : Option EventCriteria :=
  match h.criteria with
  | .event e => some e
  | .freeToAir | .package _ => none

/-- The EVENT criteria of an output's governing half. -/
def State.offeredEvent (s : State) (o : Fin 6) : Option EventCriteria := (s.governingOf o).bind (fun g => g.2.eventCriteria)

/-! ### Journal (R136, R139) -/

/-- The newest sequence: that of the last record of the list, or 0. -/
def Purse.newest (p : Purse) : Nat :=
  match p.list.getLast? with
  | none => 0
  | some r => r.seq

/-- The sector index of a place. -/
def sectorOf (place : Nat) : Fin 8 := Fin.ofNat 8 (place / 128)

/-- The place after a place in ring order. -/
def nextPlace (place : Nat) : Nat := (place + 1) % 1024

/-- The flash address of a place: s × 1000h + j × 20h for sector s = 2 and up. -/
def placeAddr (place : Nat) : Nat := 0x2000 + 32 * place

/-- R103: the floor of an address kind: 0 UNIT, 1 GROUP. -/
def Purse.floor (p : Purse) (group : Bool) : Nat := if group then p.floorGroup else p.floorUnit

/-! ### Profiles -/

/-- R155: lockout remaining in whole seconds, rounded up. -/
def secondsUntil (now endTime : Nat) : Nat := (endTime - now + 999) / 1000

/-- R168: the window result of an allowed window at the local minute of day. -/
def windowResult (w : Option (Nat × Nat)) (m : Option Nat) : WindowResult :=
  match w, m with
  | none, _ => .pass
  | _, none => .pass
  | some (a, b), some m =>
    if a < b then (if a ≤ m ∧ m < b then .inside else .outside)
    else (if a ≤ m ∨ m < b then .inside else .outside)

/-- R169: the budget test fails. -/
def Profile.budgetFails (p : Profile) : Bool :=
  match p.budget with
  | none => false
  | some b => b ≤ p.minutesUsed

/-! ### The report ring (R181) -/

/-- The issued count. -/
def Writer.issued (w : Writer) : Nat := (w.writeIdx + 1023 - w.consIdx) % 1023

/-- The unconsumed count. -/
def Writer.unconsumed (w : Writer) : Nat := (w.pubIdx + 1023 - w.consIdx) % 1023

/-- The ring is full. -/
def Writer.full (w : Writer) : Bool := (w.writeIdx + 1) % 1023 = w.consIdx

/-- R183: a control-block write is issued and not yet completed. -/
def Port.controlBlockPending (p : Port) : Bool :=
  p.own.any (fun r => r.what = .controlBlock) ||
    match p.serving with
    | some (.own r) => r.what = .controlBlock
    | _ => false

/-- R185: the size of a statistics set. -/
def State.statsSize (s : State) : Nat :=
  (allOutputs.filter (fun o => (s.outCfg o).enabled)).length +
    (allWindows.filter (fun k => (s.cfg.windows[k]).isSome)).length + 1

/-! ### Lamps (R187) -/

/-- The length of a blink cycle in milliseconds. -/
def Image.blinkCycle (i : Image) : Nat := 1000 / i.blinkHz

/-- The lit share of the blink cycle. -/
def State.blinkLit (s : State) : Bool :=
  s.part.running && (s.ticks.now % s.cfg.blinkCycle) * 100 < s.cfg.duty * s.cfg.blinkCycle

/-- The reasons that light LOCK. -/
def Gate.locks : Gate → Bool
  | .closed .rating | .closed .unknownRating | .closed .hours | .closed .budget => true
  | .opened | .closed .exportDenied | .closed .region | .closed .notEntitled | .closed .purchase | .closed .idle => false

/-- The LOCK condition. -/
def State.lockCondition (s : State) : Bool :=
  s.part.mounted &&
    allOutputs.any (fun o => (s.outCfg o).enabled && !(s.outCfg o).isExport && (s.outs[o]).gate.locks)

/-- The OFFER condition. -/
def State.offerCondition (s : State) : Bool := s.part.mounted && allOutputs.any (fun o => (s.outs[o]).offer.isSome)

end Sys2Proof.Machine
end

