-- ==== Sys2Proof/Machine/Operands.lean ====
section
/-! DEFINITION. The operand forms of the eleven record kinds, read from the 256 bytes a slot fetch returns (12.1, R193):
kinds, the length check of R28, the fields of each body, the PIN scrub positions; and the layouts of the configuration
image (12.6, R197), the settings sector (12.5) and the journal place (12.4). -/

namespace Sys2Proof.Machine

/-! ### Kinds and outcome codes (chapter 2) -/

/-- The eleven record kinds (R22, R28). -/
inductive Kind where
  | key
  | tune
  | release
  | buy
  | pin
  | profile
  | power
  | rights
  | time
  | services
  | events
  deriving DecidableEq, Repr

/-- The record kind of a kind byte (R22, R28). -/
def kindOf (b : Byte) : Option Kind :=
  match b.toNat with
  | 0x01 => some .key
  | 0x02 => some .tune
  | 0x03 => some .release
  | 0x04 => some .buy
  | 0x05 => some .pin
  | 0x06 => some .profile
  | 0x07 => some .power
  | 0x10 => some .rights
  | 0x11 => some .time
  | 0x12 => some .services
  | 0x13 => some .events
  | _ => none

/-- R22: kinds 01h to 07h go to the urgent queue. -/
def urgentKind (b : Byte) : Bool := 1 ≤ b.toNat && b.toNat ≤ 7

/-- The outcome codes (2.4). -/
inductive Code where
  | accepted
  | badKind
  | badLength
  | badField
  | badCheck
  | tableFull
  | stale
  | notAddressed
  | unknownService
  | notBound
  | pinWrong
  | lockedOut
  | notOffered
  | alreadyOwned
  | insufficientCredit
  | journalFull
  | journalBusy
  | clockUnset
  | ceiling
  | ownedFull
  | priceChanged
  | standby
  | notReady
  | ignored
  deriving DecidableEq, Repr

/-- The status byte of an outcome code (2.4). -/
def Code.byte : Code → Nat
  | .accepted => 0x01
  | .badKind => 0x10
  | .badLength => 0x11
  | .badField => 0x12
  | .badCheck => 0x13
  | .tableFull => 0x14
  | .stale => 0x20
  | .notAddressed => 0x21
  | .unknownService => 0x30
  | .notBound => 0x33
  | .pinWrong => 0x40
  | .lockedOut => 0x41
  | .notOffered => 0x50
  | .alreadyOwned => 0x51
  | .insufficientCredit => 0x52
  | .journalFull => 0x53
  | .journalBusy => 0x54
  | .clockUnset => 0x55
  | .ceiling => 0x56
  | .ownedFull => 0x57
  | .priceChanged => 0x58
  | .standby => 0x60
  | .notReady => 0x61
  | .ignored => 0x70

/-- What an owning block, or Intake itself, answers a record with (R30, R194). -/
structure Outcome where
  code : Code
  detail : Nat
  deriving DecidableEq, Repr

/-- A record: the bytes of its slot as fetched (R27). -/
abbrev Record := List Byte

/-- The kind of a record. -/
def Record.kind (r : Record) : Option Kind := kindOf (byteAt r 0)

/-- A one-byte body field. -/
def Record.b1 (r : Record) (i : Nat) : Nat := u8 r (8 + i)

/-- A two-byte body field. -/
def Record.b2 (r : Record) (i : Nat) : Nat := field r (8 + i) 2

/-- A four-byte body field. -/
def Record.b4 (r : Record) (i : Nat) : Nat := field r (8 + i) 4

/-- The body length field of the header. -/
def Record.bodyLength (r : Record) : Nat := field r 1 2

/-- An optional rating or package: FFh when absent (R193). -/
def optionalByte (n : Nat) : Option Nat := if n = 0xFF then none else some n

/-- An optional value is absent or at most a limit. -/
def atMost (limit : Nat) (n : Option Nat) : Bool :=
  match n with
  | none => true
  | some v => v ≤ limit

/-! ### The length check (R28, R193) -/

/-- The bytes of `n` SERVICES items from body offset `i`: none where a stream count is outside 1 to 8. -/
def servicesBytes (r : Record) : Nat → Nat → Option Nat
  | 0, _ => some 0
  | n + 1, i =>
    if r.b1 i = 2 then (servicesBytes r n (i + 4)).map (· + 4)
    else
      let k := r.b1 (i + 1)
      if 1 ≤ k ∧ k ≤ 8 then (servicesBytes r n (i + 8 + 2 * k)).map (· + (8 + 2 * k)) else none

/-- The bytes of `n` events of an EVENTS record from body offset `i`: none where a title length is above 32. -/
def eventsBytes (r : Record) : Nat → Nat → Option Nat
  | 0, _ => some 0
  | n + 1, i =>
    let k := r.b1 (i + 15)
    if k ≤ 32 then (eventsBytes r n (i + 16 + k)).map (· + (16 + k)) else none

/-- The body length that a record's kind and counts require: none where a count is out of range. -/
def Record.requiredLength (r : Record) (k : Kind) : Option Nat :=
  match k with
  | .key => if 1 ≤ r.b1 3 ∧ r.b1 3 ≤ 2 then some (16 + 36 * r.b1 3) else none
  | .tune => some 6
  | .release => some 1
  | .buy => some 20
  | .pin => some 20
  | .profile => some 28
  | .power => some 1
  | .rights => if 1 ≤ r.b1 1 ∧ r.b1 1 ≤ 12 then some (20 + 12 * r.b1 1) else none
  | .time => some 8
  | .services => if 1 ≤ r.b1 2 ∧ r.b1 2 ≤ 10 then (servicesBytes r (r.b1 2) 4).map (4 + ·) else none
  | .events => if 1 ≤ r.b1 3 ∧ r.b1 3 ≤ 4 then (eventsBytes r (r.b1 3) 4).map (8 + ·) else none

/-- R28 check 2. -/
def Record.lengthOk (r : Record) (k : Kind) : Bool := r.bodyLength ≤ 248 && r.requiredLength k = some r.bodyLength

/-! ### Body fields (R193) -/

/-- A TUNE record. -/
structure TuneOp where
  output : Nat
  purpose : Nat
  window : Nat
  service : Nat
  deriving DecidableEq, Repr

/-- The TUNE layout. -/
def Record.tuneOp (r : Record) : TuneOp := ⟨r.b1 0, r.b1 1, r.b1 2, r.b2 4⟩

/-- A BUY record. -/
structure BuyOp where
  output : Nat
  event : Nat
  confirm : Nat
  pin : List Byte
  deriving DecidableEq, Repr

/-- The BUY layout. -/
def Record.buyOp (r : Record) : BuyOp := ⟨r.b1 0, r.b4 4, r.b4 8, slice r 20 8⟩

/-- A PIN record. -/
structure PinOp where
  output : Nat
  action : Nat
  minutes : Nat
  pin : List Byte
  newPin : List Byte
  deriving DecidableEq, Repr

/-- The PIN layout. -/
def Record.pinOp (r : Record) : PinOp := ⟨r.b1 0, r.b1 1, r.b2 2, slice r 12 8, slice r 20 8⟩

/-- A PROFILE record. -/
structure ProfileOp where
  target : Nat
  mask : Byte
  ceiling : Nat
  flags : Byte
  windowStart : Nat
  windowEnd : Nat
  budget : Nat
  master : List Byte
  newPin : List Byte
  deriving DecidableEq, Repr

/-- The PROFILE layout. -/
def Record.profileOp (r : Record) : ProfileOp :=
  ⟨r.b1 0, byteAt r 9, r.b1 2, byteAt r 11, r.b2 4, r.b2 6, r.b2 8, slice r 20 8, slice r 28 8⟩

/-- A half block of a KEY record. -/
structure KeyBlock where
  parity : Nat
  kind : Nat
  late : Bool
  rating : Option Nat
  package : Nat
  including : Option Nat
  preview : Nat
  event : Nat
  start : Nat
  duration : Nat
  price : Nat
  wrapped : BitVec 128
  deriving DecidableEq, Repr

/-- The KEY half block at body offset `i`. -/
def Record.keyBlock (r : Record) (i : Nat) : KeyBlock where
  parity := r.b1 i
  kind := r.b1 (i + 1)
  late := flag r (8 + i + 2) 0
  rating := optionalByte (r.b1 (i + 3))
  package := r.b1 (i + 4)
  including := optionalByte (r.b1 (i + 5))
  preview := r.b1 (i + 6)
  event := r.b4 (i + 8)
  start := r.b4 (i + 12)
  duration := r.b2 (i + 16)
  price := r.b2 (i + 18)
  wrapped := BitVec.ofNat 128 (field r (8 + i + 20) 16)

/-- The half blocks of a KEY record, in order. -/
def Record.keyBlocks (r : Record) : List KeyBlock := (List.range (r.b1 3)).map (fun k => r.keyBlock (16 + 36 * k))

/-- The parity a half block names. -/
def KeyBlock.half (b : KeyBlock) : Option HalfParity :=
  match b.parity with
  | 2 => some .even
  | 3 => some .odd
  | _ => none

/-- The criteria a half block carries: only the fields its kind uses (R85). -/
def KeyBlock.criteria (b : KeyBlock) : Option Criteria :=
  match b.kind with
  | 1 => some .freeToAir
  | 2 => some (.package b.package)
  | 3 => some (.event ⟨b.event, b.start, b.duration, b.price, b.preview, b.including, b.late⟩)
  | _ => none

/-- R85 check 2 on the criteria of one half block. -/
def KeyBlock.fieldsOk (b : KeyBlock) : Bool :=
  atMost 15 b.rating &&
    match b.kind with
    | 1 => true
    | 2 => b.package ≤ 63
    | 3 => 1 ≤ b.duration && b.duration ≤ 1440 && b.preview ≤ 60 && atMost 63 b.including
    | _ => false

/-- An item of a RIGHTS record, from the unwrapped bytes (R193). -/
inductive RightsItem where
  | packageSet (p : Nat) (expiry : Option Nat)
  | packageClear (p : Nat)
  | topup (amount : Nat)
  | overdraft (limit : Nat)
  | collect (upTo : Nat)
  | region (code : Nat)
  | pinReset (profile : Nat) (pin : List Byte)
  | mask (ceiling : Nat)
  | unknown (type : Nat)
  deriving DecidableEq, Repr

/-- Item `k` of the unwrapped bytes. -/
def rightsItem (bs : List Byte) (k : Nat) : RightsItem :=
  let i := 12 * k
  match u8 bs i with
  | 1 => .packageSet (u8 bs (i + 1)) (if flag bs (i + 2) 0 then some (field bs (i + 4) 4) else none)
  | 2 => .packageClear (u8 bs (i + 1))
  | 3 => .topup (field bs (i + 4) 4)
  | 4 => .overdraft (field bs (i + 4) 4)
  | 5 => .collect (field bs (i + 4) 4)
  | 6 => .region (u8 bs (i + 1))
  | 7 => .pinReset (u8 bs (i + 1)) (slice bs (i + 4) 8)
  | 8 => .mask (u8 bs (i + 1))
  | t => .unknown t

/-- The item type codes (R193). -/
def RightsItem.type : RightsItem → Nat
  | .packageSet .. => 1
  | .packageClear .. => 2
  | .topup .. => 3
  | .overdraft .. => 4
  | .collect .. => 5
  | .region .. => 6
  | .pinReset .. => 7
  | .mask .. => 8
  | .unknown t => t

/-- The item is one journal append: TOPUP or COLLECT (R105, R106). -/
def RightsItem.appends : RightsItem → Bool
  | .topup _ | .collect _ => true
  | .packageSet .. | .packageClear _ | .overdraft _ | .region _ | .pinReset .. | .mask _ | .unknown _ => false

/-- A RIGHTS record with its unwrapped items. -/
structure RightsOp where
  addressKind : Nat
  address : Nat
  sequence : Nat
  items : List RightsItem
  deriving DecidableEq, Repr

/-- The RIGHTS layout; the items come from the unwrap. -/
def Record.rightsOp (r : Record) (items : List Byte) : RightsOp :=
  ⟨r.b1 0, r.b4 4, r.b4 8, (List.range (r.b1 1)).map (rightsItem items)⟩

/-- An item of a SERVICES record. -/
inductive ServiceItem where
  | add (e : MapEntry)
  | remove (service : Nat)
  | unknown (service : Nat)
  deriving DecidableEq, Repr

/-- The SERVICES item at body offset `i`. -/
def Record.serviceItem (r : Record) (i : Nat) : ServiceItem :=
  match r.b1 i with
  | 1 => .add ⟨r.b2 (i + 2), (List.range (r.b1 (i + 1))).map (fun k => r.b2 (i + 8 + 2 * k)), flag r (8 + i + 4) 0,
      flag r (8 + i + 4) 1, BitVec.ofNat 16 (r.b2 (i + 6)), optionalByte (r.b1 (i + 5)), none⟩
  | 2 => .remove (r.b2 (i + 2))
  | _ => .unknown (r.b2 (i + 2))

/-- `n` SERVICES items from body offset `i`, placed as R193 counts them. -/
def Record.serviceItemsFrom (r : Record) : Nat → Nat → List ServiceItem
  | 0, _ => []
  | n + 1, i =>
    r.serviceItem i :: r.serviceItemsFrom n (if r.b1 i = 2 then i + 4 else i + 8 + 2 * r.b1 (i + 1))

/-- The items of a SERVICES record. -/
def Record.serviceItems (r : Record) : List ServiceItem := r.serviceItemsFrom (r.b1 2) 4

/-- R43: an item passes the checks made before any is applied. -/
def ServiceItem.ok : ServiceItem → Bool
  | .add e =>
    1 ≤ e.service && e.service ≤ 9999 && e.streams.all (· ≤ 8190) && e.streams.Nodup && atMost 15 e.rating
  | .remove s => 1 ≤ s && s ≤ 9999
  | .unknown _ => false

/-- One event of an EVENTS record, with the place of its title in the slot. -/
structure SectionEvent where
  event : GuideEvent
  paid : Bool
  preview : Nat
  titleAt : Nat
  titleLength : Nat
  deriving DecidableEq, Repr

/-- The event of service `svc` at body offset `i`. -/
def Record.sectionEvent (r : Record) (svc i : Nat) : SectionEvent :=
  ⟨⟨svc, r.b4 i, r.b4 (i + 4), r.b2 (i + 8), optionalByte (r.b1 (i + 10))⟩, flag r (8 + i + 11) 0, r.b1 (i + 14),
    8 + i + 16, r.b1 (i + 15)⟩

/-- `n` events from body offset `i`. -/
def Record.sectionEventsFrom (r : Record) (svc : Nat) : Nat → Nat → List SectionEvent
  | 0, _ => []
  | n + 1, i => r.sectionEvent svc i :: r.sectionEventsFrom svc n (i + 16 + r.b1 (i + 15))

/-- The events of an EVENTS record. -/
def Record.sectionEvents (r : Record) : List SectionEvent := r.sectionEventsFrom (r.b2 0) (r.b1 3) 4

/-- R49 check 2 on one event. The preview minutes belong to the paid block (log entry 15). -/
def SectionEvent.ok (e : SectionEvent) : Bool :=
  1 ≤ e.event.duration && e.event.duration ≤ 1440 && atMost 15 e.event.rating && (!e.paid || e.preview ≤ 60)

/-- The body bytes that the section CRC covers, in a record of this body length (R193). -/
def Record.sectionBytes (r : Record) : List Byte := slice r 8 (r.bodyLength - 4)

/-- The section CRC field. -/
def Record.sectionCrc (r : Record) : Nat := field r (8 + r.bodyLength - 4) 4

/-- R31, R193: the slot bytes of the PIN fields that Intake scrubs, one field after another. -/
def scrubFields (k : Kind) : List Nat :=
  match k with
  | .buy => [20]
  | .pin => [12, 20]
  | .profile => [20, 28]
  | .key | .tune | .release | .power | .rights | .time | .services | .events => []

/-! ### The configuration image (12.6, R17, R184, R185, R187, R197) -/

/-- The bytes of the image. -/
def imageLength : Nat := 512

/-- The window fields of capture window `k`. -/
def imageWindow (b : List Byte) (k : Nat) : Option CapWindow :=
  if u8 b (16 + 12 * k) = 0 then none else some ⟨field b (20 + 12 * k) 4, field b (24 + 12 * k) 4⟩

/-- The ranges of all configured windows: capture, message, report. -/
def imageRanges (b : List Byte) : List (Nat × Nat) :=
  ((List.range 4).filterMap (imageWindow b)).map (fun w => (w.base, w.size)) ++
    [(field b 64 4, 65536), (field b 68 4, 65536)]

/-- R1: the limits of the window map. -/
def windowsGood (b : List Byte) : Bool :=
  ((List.range 4).filterMap (imageWindow b)).all (fun w => 65536 ≤ w.size && w.size ≤ 4194304) &&
    (imageRanges b).all (fun r => r.1 % 65536 = 0 && r.2 % 65536 = 0 && r.1 + r.2 ≤ 2 ^ 30) &&
    decide ((imageRanges b).Pairwise (fun x y => x.1 + x.2 ≤ y.1 ∨ y.1 + y.2 ≤ x.1))

/-- The class of output `o` in the output table: EXPORT. -/
def imageExports (b : List Byte) (o : Nat) : Bool := flag b (88 + 4 * o) 1

/-- R17: a VIEWER or EXPORT tag is bound to an output 0 to 5 of its class. -/
def tagGood (b : List Byte) (t : Nat) : Bool :=
  let v := u8 b (72 + t)
  match v / 64 with
  | 1 => v % 8 ≤ 5 && !imageExports b (v % 8)
  | 2 => v % 8 ≤ 5 && imageExports b (v % 8)
  | _ => true

/-- R17: the image is good. -/
def imageGood (b : List Byte) : Bool :=
  field b 508 4 = crc32 (b.take 508) && windowsGood b && (List.range 16).all (tagGood b)

/-- The requester entry of tag `t`; a tag with no class is OTHER (R2). -/
def imageRequester (b : List Byte) (t : Nat) : Requester :=
  let v := u8 b (72 + t)
  match v / 64 with
  | 1 => .viewer (Fin.ofNat 6 (v % 8))
  | 2 => .exporter (Fin.ofNat 6 (v % 8))
  | _ => .other

/-- A profile number above 5 is taken as 0 (R197). -/
def imageProfile (v : Nat) : Fin 6 := if v ≤ 5 then Fin.ofNat 6 v else 0

/-- The output table entry of output `o` (R197). -/
def imageOutput (b : List Byte) (o : Nat) : OutputCfg :=
  ⟨flag b (88 + 4 * o) 0, flag b (88 + 4 * o) 1, imageProfile (u8 b (89 + 4 * o)), max 1 (u8 b (90 + 4 * o))⟩

/-- The factory profile `q` (R197). -/
def imageFactoryProfile (b : List Byte) (q : Nat) : FactoryProfile :=
  let i := 168 + 8 * q
  let start := field b (i + 2) 2
  let stop := field b (i + 4) 2
  let budget := field b (i + 6) 2
  { ceiling := if u8 b i ≤ 15 then u8 b i else 0
    blockUnknown := flag b (i + 1) 0
    purchasePin := flag b (i + 1) 1
    window := if flag b (i + 1) 2 ∧ start ≤ 1439 ∧ stop ≤ 1439 ∧ start ≠ stop then some (start, stop) else none
    budget := if flag b (i + 1) 3 then some (if budget ≤ 1440 then budget else 0) else none }

/-- The image as it is loaded, with its corrections. -/
def imageOf (b : List Byte) : Image where
  version := field b 0 2
  unitId := field b 4 4
  groupId := if u8 b 12 = 0 then none else some (field b 8 4)
  windows := Vector.ofFn (fun k => imageWindow b k.val)
  msgBase := field b 64 4
  repBase := field b 68 4
  requesters := Vector.ofFn (fun t => imageRequester b t.val)
  outputs := Vector.ofFn (fun o => imageOutput b o.val)
  mitCount := min 15 (max 1 (u8 b 112))
  mitDelay := min 1020 (field b 113 2) / 4 * 4
  statPeriod := min 3600 (field b 116 2)
  blinkHz := if [1, 2, 4, 8].contains (u8 b 118) then u8 b 118 else 2
  duty := if [25, 50, 75].contains (u8 b 119) then u8 b 119 else 50
  factoryRegion := if u8 b 120 ≤ 15 then u8 b 120 else 0
  factoryMask := if u8 b 121 ≤ 15 then u8 b 121 else 0
  factoryOverdraft := min 10000 (field b 122 2)
  defaultPin := (pinOf (slice b 124 8)).getD [0, 0, 0, 0]
  maskText := slice b 133 (min 32 (u8 b 132))
  factoryProfiles := Vector.ofFn (fun q => imageFactoryProfile b q.val)

/-! ### Journal places (12.4, R138) -/

/-- The 30 bytes of a journal record that its check covers. An event end minute above FFFFFFFFh, of which the spec says
nothing, is written as its low 32 bits (log entry 29, DESIGN CHOICE). -/
def JournalRecord.body (r : JournalRecord) : List Byte :=
  beBytes 4 r.seq ++ beList 1 [r.kind.code, orFF r.output] ++ beSigned 4 r.amount ++ beSigned 4 r.balanceAfter ++
    beList 4 [r.event, r.endMinute, r.clock, r.upTo]

/-- The 32 bytes of a journal record, its record check last. -/
def JournalRecord.bytes (r : JournalRecord) : List Byte := r.body ++ beBytes 2 (crc16 r.body)

/-- The journal kind of a code. -/
def journalKindOf (v : Nat) : Option JournalKind :=
  match v with
  | 1 => some .purchase
  | 2 => some .topup
  | 3 => some .collect
  | _ => none

/-- R138: the good record that 32 bytes hold, or none. -/
def journalRecordOf (b : List Byte) (place : Nat) : Option JournalRecord :=
  match journalKindOf (u8 b 4) with
  | none => none
  | some k =>
    if field b 30 2 = crc16 (slice b 0 30) ∧ -10000 ≤ signedField b 10 4 ∧ signedField b 10 4 ≤ 1000000 then
      some ⟨field b 0 4, k, signedField b 6 4, signedField b 10 4, field b 14 4, field b 18 4, field b 22 4,
        optionalByte (u8 b 5), field b 26 4, place⟩
    else none

/-! ### The settings sector (12.5, R146, R150) -/

/-- A window of minutes of day as two fields; zero bytes when there is none (log entry 16). -/
def windowFields (w : Option (Nat × Nat)) : List Byte :=
  match w with
  | none => zeros 4
  | some (a, b) => beList 2 [a, b]

/-- R146: lockout remaining, in whole seconds rounded up. -/
def Profile.lockoutRemaining (p : Profile) (now : Nat) : Nat :=
  match p.lockoutEnd with
  | none => 0
  | some e => secondsUntil now e

/-- The 32 bytes of a profile in the snapshot. -/
def Profile.bytes (p : Profile) (now : Nat) : List Byte :=
  padTo 32 (beList 1 [p.ceiling, ofFlags [p.blockUnknown, p.purchasePin, p.window.isSome, p.budget.isSome]] ++
    windowFields p.window ++ beList 2 [p.budget.getD 0, p.minutesUsed] ++ beList 1 [p.failures, 0] ++
    beBytes 2 (p.lockoutRemaining now) ++ pinField p.pin)

/-- The 5 bytes of a package entry in the snapshot. -/
def packageBytes (p : Option Package) : List Byte :=
  match p with
  | none => zeros 5
  | some k => beBytes 1 (ofFlags [true, k.expiry.isSome]) ++ beBytes 4 (k.expiry.getD 0)

/-- The budget date field: 7FFFFFFFh when unset. -/
def budgetDateField (d : Option Int) : List Byte :=
  match d with
  | none => beBytes 4 0x7FFFFFFF
  | some v => beSigned 4 v

/-- The bytes of the settings snapshot before its CRC. -/
def State.snapshotBody (s : State) : List Byte :=
  beList 4 [s.rights.unitSeq, s.rights.groupSeq] ++ beList 1 [s.rights.region, s.rights.mask] ++
    beBytes 2 s.rights.overdraft ++ zeros 4 ++ (s.rights.packages.toList.map packageBytes).flatten ++
    budgetDateField s.guide.budgetDate ++ zeros 4 ++
    (s.profiles.toList.map (fun p => p.bytes s.ticks.now)).flatten ++ zeros 484

/-- R146: the settings snapshot, 1,024 bytes with its CRC-32. -/
def State.snapshot (s : State) : List Byte := s.snapshotBody ++ beBytes 4 (crc32 s.snapshotBody)

/-- The package entry `p` of a settings sector. -/
def settingsPackage (b : List Byte) (p : Nat) : Option Package :=
  let i := 16 + 5 * p
  if flag b i 0 then some ⟨if flag b i 1 then some (field b (i + 1) 4) else none⟩ else none

/-- The rights of a settings sector. -/
def settingsRights (b : List Byte) : Rights where
  unitSeq := field b 0 4
  groupSeq := field b 4 4
  packages := Vector.ofFn (fun p => settingsPackage b p.val)
  region := u8 b 8
  overdraft := field b 10 2
  mask := u8 b 9

/-- The budget date of a settings sector. -/
def settingsBudgetDate (b : List Byte) : Option Int :=
  if field b 336 4 = 0x7FFFFFFF then none else some (signedField b 336 4)

/-- Profile `q` of a settings sector keeps the ranges of R150 and R153. -/
def settingsProfileOk (b : List Byte) (q : Nat) : Bool :=
  let i := 344 + 32 * q
  u8 b i ≤ 15 &&
    (!flag b (i + 1) 2 ||
      (field b (i + 2) 2 ≤ 1439 && field b (i + 4) 2 ≤ 1439 && field b (i + 2) 2 ≠ field b (i + 4) 2)) &&
    (!flag b (i + 1) 3 || field b (i + 6) 2 ≤ 1440) && field b (i + 8) 2 ≤ 1440 && u8 b (i + 10) ≤ 5 &&
    field b (i + 12) 2 ≤ 900 && (pinOf (slice b (i + 14) 8)).isSome

/-- R150: the settings sector is good. -/
def settingsGood (b : List Byte) : Bool :=
  field b 1020 4 = crc32 (b.take 1020) && u8 b 8 ≤ 15 && u8 b 9 ≤ 15 && field b 10 2 ≤ 10000 &&
    (List.range 6).all (settingsProfileOk b)

/-- R154: profile `q` as loaded from a good settings sector at part time `now`. -/
def settingsProfile (b : List Byte) (now q : Nat) : Profile :=
  let i := 344 + 32 * q
  let budget := if flag b (i + 1) 3 then some (field b (i + 6) 2) else none
  let used := field b (i + 8) 2
  let remaining := field b (i + 12) 2
  { ceiling := u8 b i
    blockUnknown := flag b (i + 1) 0
    window := if flag b (i + 1) 2 then some (field b (i + 2) 2, field b (i + 4) 2) else none
    budget := budget
    minutesUsed := used
    accumulator := 0
    pin := (pinOf (slice b (i + 14) 8)).getD []
    purchasePin := flag b (i + 1) 1
    failures := if remaining = 0 ∧ u8 b (i + 10) = 5 then 0 else u8 b (i + 10)
    lockoutEnd := if remaining = 0 then none else some (now + remaining * 1000)
    warned := match budget with
      | none => false
      | some v => 0 < v && v ≤ used + 5
    result := .pass }

end Sys2Proof.Machine
end

