-- ==== Sys2Proof/Machine/Ops.lean ====
section
/-! DEFINITION. The shared operations: updates of one output, context, profile or ring; the DRAM port (R15, R16); the
hand-over of a notice (R182); the link's answers; the flash port arbiter (R137, R145, R148); and `settle`, which ends
every command: lamps, flash arbiter, DRAM port arbiter. -/

namespace Sys2Proof.Machine

/-! ### Updates of one element -/

/-- Change output `o`. -/
def State.modOut (s : State) (o : Fin 6) (f : Output → Output) : State :=
  { s with outs := s.outs.set o (f s.outs[o]) }

/-- Change context `c`. -/
def State.modCtx (s : State) (c : Fin 8) (f : Context → Context) : State :=
  { s with ctxs := s.ctxs.set c (f s.ctxs[c]) }

/-- Change profile `q`. -/
def State.modProfile (s : State) (q : Fin 6) (f : Profile → Profile) : State :=
  { s with profiles := s.profiles.set q (f s.profiles[q]) }

/-- Change the ring of capture window `k`. -/
def State.modRing (s : State) (k : Fin 4) (f : Ring → Ring) : State :=
  { s with path := { s.path with rings := s.path.rings.set k (f s.path.rings[k]) } }

/-- Change the Purse and Journal. -/
def State.modPurse (s : State) (f : Purse → Purse) : State := { s with purse := f s.purse }

/-- Change Guide Tables. -/
def State.modGuide (s : State) (f : Guide → Guide) : State := { s with guide := f s.guide }

/-- Change Guide Tables' counters (R56). -/
def State.modGuideCounters (s : State) (f : GuideCounters → GuideCounters) : State :=
  { s with guide := { s.guide with counters := f s.guide.counters } }

/-- Change the Notice Writer. -/
def State.modWriter (s : State) (f : Writer → Writer) : State := { s with writer := f s.writer }

/-- Change Intake. -/
def State.modIntake (s : State) (f : Intake → Intake) : State := { s with intake := f s.intake }

/-- Count in an output's counters; a disabled output keeps none (R11). -/
def State.count (s : State) (o : Fin 6) (f : OutputCounters → OutputCounters) : State :=
  if (s.outCfg o).enabled then s.modOut o (fun x => { x with counters := f x.counters }) else s

/-! ### The DRAM port (R15, R16) -/

/-- Issue an own request: it joins the tail of the own FIFO. -/
def Port.issue (p : Port) (r : OwnReq) : Port := { p with own := p.own ++ [r] }

/-- Issue an own request. -/
def State.issue (s : State) (r : OwnReq) : State := { s with port := s.port.issue r }

/-- Present an upstream request: it joins the tail of the upstream FIFO. -/
def State.present (s : State) (u : UpReq) : State := { s with port := { s.port with up := s.port.up ++ [u] } }

/-- The request in service has completed: the port is free. -/
def State.freePort (s : State) : State := { s with port := { s.port with serving := none } }

/-- R16: the own head is a slot fetch, and an upstream write to that slot waits in the upstream FIFO. -/
def State.fetchWaits (s : State) : Bool :=
  match s.port.own with
  | [] => false
  | r :: _ =>
    match r.what with
    | .fetch n => s.port.up.any (fun u => u.kind = .message && isWrite u.req && s.slotOf u.req.addr = n)
    | _ => false

/-- R15: the arbiter's choice when the port is free; `waits` holds the own head back (R16). -/
def Port.serve (p : Port) (waits : Bool) : Port :=
  match p.serving with
  | some _ => p
  | none =>
    match p.up, p.own with
    | [], [] => p
    | u :: us, [] => { p with up := us, serving := some (.upstream u) }
    | [], r :: rs => { p with own := rs, pass := 0, serving := some (.own r) }
    | u :: us, r :: rs =>
      if waits || p.pass < 16 then { p with up := us, pass := p.pass + 1, serving := some (.upstream u) }
      else { p with own := rs, pass := 0, serving := some (.own r) }

/-- The upstream request in service, or none. -/
def State.servingUp (s : State) : Option UpReq :=
  match s.port.serving with
  | some (.upstream u) => some u
  | some (.own _) => none
  | none => none

/-- The own request in service, or none. -/
def State.servingOwn (s : State) : Option OwnReq :=
  match s.port.serving with
  | some (.own r) => some r
  | some (.upstream _) => none
  | none => none

/-- Answer a request on the link, unless a link reset has lost the link that asked (R14, R33). -/
def State.answer (s : State) (u : UpReq) (data : List Byte) : State :=
  if u.lost then s else { s with path := { s.path with answers := s.path.answers ++ [⟨u.req, data⟩] } }

/-- An upstream write completes at DRAM and is acknowledged (R3); the port is free. -/
def State.completeWrite (s : State) (u : UpReq) : State :=
  ((s.freePort).dramWrite u.req.addr (writeData u.req)).answer u []

/-- An own write completes at DRAM; the port is free. -/
def State.completeOwn (s : State) (r : OwnReq) : State := (s.freePort).dramWrite r.addr r.data

/-! ### Notices (R181, R182) -/

/-- The address of the notice entry of ring index `i` (R181). -/
def State.entryAddr (s : State) (i : Nat) : Nat := s.cfg.repBase + 64 * (i + 1)

/-- The own write of the overrun word (R182, 12.2). -/
def State.overrunWrite (s : State) : OwnReq := ⟨.overrun, s.cfg.repBase + 4, beBytes 4 1, false⟩

/-- The publishing write that carries a producer index, and an overrun flag of 0 (R182, 12.2). -/
def State.publishWrite (s : State) (i : Nat) : OwnReq :=
  ⟨.publish i, s.cfg.repBase, beBytes 4 i ++ beBytes 4 0, false⟩

/-- The own write of a notice's entry at the write index (R182). -/
def State.entryWrite (s : State) (n : Notice) : OwnReq :=
  ⟨.entry, s.entryAddr s.writer.writeIdx,
    n.entry s.writer.overrun s.writer.dropped s.ticks.now s.guide.clock, false⟩

/-- R182: a block hands a notice to the Notice Writer. -/
def State.notify (s : State) (n : Notice) : State :=
  let w := s.writer
  if w.full then
    let s1 := { s with writer := { w with overrun := true, dropped := min 65535 (w.dropped + 1) } }
    if w.overrun then s1 else s1.issue s.overrunWrite
  else
    let i := (w.writeIdx + 1) % 1023
    { s with
      writer := { w with writeIdx := i, overrun := false, dropped := 0 }
      port := (s.port.issue (s.entryWrite n)).issue (s.publishWrite i) }

/-- The control-block write: the whole of entry 0 with indices and overrun flag 0 (R181, R192). -/
def State.issueControlBlock (s : State) : State := s.issue ⟨.controlBlock, s.cfg.repBase, zeros 64, false⟩

/-! ### Settings marks (R147) -/

/-- A CHANGE mark. -/
def State.markChange (s : State) : State := { s with settings := { s.settings with dirty := .change } }

/-- A METERING mark: it leaves CHANGE as it is. -/
def State.markMetering (s : State) : State :=
  { s with settings := { s.settings with dirty := if s.settings.dirty = .change then .change else .metering } }

/-! ### Erase-ahead (R143, R144) -/

/-- R144: a record of the target does not hold the sector: it is collected and, if a purchase, its event has aged. -/
def State.recordSpent (s : State) (r : JournalRecord) : Bool :=
  r.seq ≤ s.purse.watermark &&
    match r.kind with
    | .purchase =>
      match s.guide.nowMinute with
      | none => false
      | some t => r.endMinute + 60 ≤ t
    | .topup | .collect => true

/-- R144: a target sector passes its check. -/
def State.sectorPasses (s : State) (k : Fin 8) : Bool :=
  s.purse.list.all (fun r => sectorOf r.place ≠ k || s.recordSpent r)

/-- R144: which sector is the erase-ahead target. -/
def Purse.findTarget (p : Purse) : Option (Fin 8) :=
  let k := sectorOf p.writePos
  if p.writePos % 128 = 0 ∧ !p.erased[k] then some k
  else if !p.erased[k + 1] then some (k + 1)
  else none

/-- An erase-ahead erase is in progress. -/
def FlashPort.erasing (f : FlashPort) : Bool :=
  match f.op with
  | some (.erase _) => true
  | _ => false

/-- R144: the target is found again and checked; while an erase is in progress no check is made. -/
def State.retarget (s : State) : State :=
  if s.flashPort.erasing then s
  else s.modPurse (fun p => { p with target := p.findTarget.map (fun k => ⟨k, s.sectorPasses k⟩) })

/-- R144: the check of the present target is repeated (a COLLECT append, a minute tick). -/
def State.recheckTarget (s : State) : State :=
  if s.flashPort.erasing then s
  else s.modPurse (fun p => { p with target := p.target.map (fun t => ⟨t.sector, s.sectorPasses t.sector⟩) })

/-! ### The flash port arbiter (R137, R145, R148) -/

/-- R148: the settings store is eligible for a new rewrite. -/
def State.rewriteEligible (s : State) : Bool :=
  s.settings.forced ||
    match s.settings.dirty with
    | .change => true
    | .metering => s.settings.lastStart + 900000 ≤ s.ticks.now
    | .none => false

/-- R137 case 3: the next step of the rewrite in progress, or the first step of a new one with its snapshot (R148). -/
def State.startRewrite (s : State) : State :=
  match s.settings.rewrite with
  | some w =>
    { s with
      flashPort := { s.flashPort with op := some (.rewritePage (Fin.ofNat 4 (w.started - 1))) }
      settings := { s.settings with rewrite := some { w with started := w.started + 1 } } }
  | none =>
    if s.rewriteEligible then
      { s with
        flashPort := { s.flashPort with op := some .rewriteErase }
        settings := ⟨.none, false, s.ticks.now, some ⟨s.snapshot, 1⟩⟩ }
    else s

/-- R145: the start check of a WAITING target: the erase starts, or the target becomes REFUSED and the arbiter goes on. -/
def State.startErase (s : State) (t : Target) : State :=
  if s.sectorPasses t.sector then { s with flashPort := { s.flashPort with op := some (.erase t.sector) } }
  else (s.modPurse (fun p => { p with target := some ⟨t.sector, false⟩ })).startRewrite

/-- R136, R137: the port may start a program or an erase. -/
def State.flashFree (s : State) : Bool :=
  s.powerGood && s.part.mounted && !s.flashPort.inhibited && s.flashPort.op.isNone

/-- R137: the arbiter's choice. -/
def State.chooseFlash (s : State) : State :=
  if s.flashFree then
    match s.purse.queue, s.purse.target with
    | r :: _, _ => { s with flashPort := { s.flashPort with op := some (.program r) } }
    | [], some t => if t.waiting then s.startErase t else s.startRewrite
    | [], none => s.startRewrite
  else s

/-! ### The end of every command -/

/-- R187: the lamp outputs follow their conditions. -/
def State.driveLamps (s : State) : State :=
  { s with
    lamps := { s.lamps with
      lock := s.lockCondition
      offer := s.offerCondition && s.lamps.phase
      standby := s.part = .standby } }

/-- R15: the DRAM port arbiter serves the next request if the port is free. -/
def State.serveDram (s : State) : State := { s with port := s.port.serve s.fetchWaits }

/-- The end of a command: lamps (R187), flash arbiter (R137), DRAM port arbiter (R15). Log entry 5. -/
def State.settle (s : State) : State := s.driveLamps.chooseFlash.serveDram

/-- A command answers the state its effect leaves, settled. -/
def done (s : State) : Result := .next s.settle

end Sys2Proof.Machine
end

