-- ==== Sys2Proof/Machine/Verdicts.lean ====
section
/-! DEFINITION. The Access Unit's verdicts and offers (R118 to R122, R134): what a half's criteria mean now, the preview
table's room, the recomputation of halves, and what a gate value does to an output's offer. -/

namespace Sys2Proof.Machine

/-! ### Halves by place -/

/-- The place of a half. -/
abbrev HalfPlace := Fin 8 × HalfParity

/-- Every half place in the order of R120: contexts 0 to 7, even before odd. -/
def allHalves : List HalfPlace := allContexts.flatMap (fun c => [(c, .even), (c, .odd)])

/-- The half at a place. -/
def State.halfAt (s : State) (l : HalfPlace) : Option Half := (s.ctxs[l.1]).half l.2

/-- A context with its half of a parity replaced or removed. -/
def Context.setHalf (c : Context) (p : HalfParity) (h : Option Half) : Context :=
  match p with
  | .even => { c with even := h }
  | .odd => { c with odd := h }

/-- Replace or remove the half at a place. -/
def State.setHalf (s : State) (l : HalfPlace) (h : Option Half) : State := s.modCtx l.1 (fun c => c.setHalf l.2 h)

/-- The half places whose half has EVENT criteria of an event (R120, R124). -/
def State.halvesOf (s : State) (event : Nat) : List HalfPlace :=
  allHalves.filter (fun l =>
    match (s.halfAt l).bind Half.eventCriteria with
    | some e => e.event = event
    | none => false)

/-! ### Verdicts (R118, R119) -/

/-- What a verdict computation gives: the tables after it, the verdict, and the event whose preview entry it replaced. -/
structure Judged where
  access : AccessUnit
  verdict : Verdict
  replaced : Option Nat
  deriving DecidableEq, Repr

/-- R119 step 4: of two replaceable entries, the one replaced first. -/
def PreviewEntry.before (a b : PreviewEntry) : Bool :=
  a.endMinute < b.endMinute || (a.endMinute = b.endMinute && a.event ≤ b.event)

/-- The first of a list of entries in the order of R119 step 4. -/
def firstReplaceable : List PreviewEntry → Option PreviewEntry
  | [] => none
  | e :: rest =>
    match firstReplaceable rest with
    | none => some e
    | some b => if e.before b then some e else some b

/-- R119 step 4: the entry to replace, at now-minute `t`; none with the clock unset. -/
def AccessUnit.replaceable (a : AccessUnit) (t : Option Nat) : Option PreviewEntry :=
  match t with
  | none => none
  | some t => firstReplaceable (a.previews.filter (fun e => e.endMinute ≤ t))

/-- R119: the event has ended (the clock set). -/
def EventCriteria.endedAt (e : EventCriteria) (t : Option Nat) : Bool :=
  match t with
  | none => false
  | some t => e.start + e.duration ≤ t

/-- R119: the verdict of an EVENT half that is not ENTITLED. -/
def AccessUnit.judgePreview (a : AccessUnit) (e : EventCriteria) (t : Option Nat) : Judged :=
  let fresh : PreviewEntry := ⟨e.event, 0, e.start + e.duration⟩
  if e.preview = 0 ∨ e.endedAt t then ⟨a, .purchaseNeeded, none⟩
  else
    match a.previews.find? (fun x => x.event = e.event) with
    | some x => ⟨a, if x.seconds < e.preview * 60 then .preview else .purchaseNeeded, none⟩
    | none =>
      if a.previews.length < 16 then ⟨{ a with previews := a.previews ++ [fresh] }, .preview, none⟩
      else
        match a.replaceable t with
        | some old =>
          ⟨{ a with previews := a.previews.map (fun x => if x.event = old.event then fresh else x) }, .preview,
            some old.event⟩
        | none => ⟨a, .purchaseNeeded, none⟩

/-- R118: the verdict of criteria. -/
def State.judge (s : State) (c : Criteria) : Judged :=
  match c with
  | .freeToAir => ⟨s.access, .entitled, none⟩
  | .package p => ⟨s.access, if s.packageValid p then .entitled else .notEntitled, none⟩
  | .event e =>
    if s.includedBy e || s.access.owns e.event then ⟨s.access, .entitled, none⟩
    else s.access.judgePreview e s.guide.nowMinute

/-- How deep a recomputation may follow replaced preview entries: each replacement takes one ended entry of the 16. -/
def recomputeDepth : Nat := 18

/-- R120: recompute the half at a place. A preview entry replaced on the way has the halves of its event recomputed at once, in
the order of R120, before the halves that remain of the recomputation under way: R119 step 4 says only that the event is then
handled under R120 (log entry 36, DESIGN CHOICE). -/
def State.recomputeHalf : Nat → State → HalfPlace → State
  | 0, s, _ => s
  | depth + 1, s, l =>
    match s.halfAt l with
    | none => s
    | some h =>
      let j := s.judge h.criteria
      let s1 := { s with access := j.access }.setHalf l (some { h with verdict := j.verdict })
      match j.replaced with
      | none => s1
      | some e => (s1.halvesOf e).foldl (fun s l => State.recomputeHalf depth s l) s1

/-- R120: recompute the halves at the listed places, in order. -/
def State.recompute (s : State) (ls : List HalfPlace) : State := ls.foldl (State.recomputeHalf recomputeDepth) s

/-- The verdict of a context's governing half. -/
def Context.governingVerdict (c : Context) : Option Verdict := c.governing.map (fun g => g.2.verdict)

/-- R120: the governing verdict of context `c` differs between two states. -/
def verdictChanged (before after : State) (c : Fin 8) : Bool :=
  decide ((before.ctxs[c]).governingVerdict ≠ (after.ctxs[c]).governingVerdict)

/-! ### Offers (R134) -/

/-- The OFFER notice of an output at a price (R134). -/
def State.offerNotice (s : State) (o : Fin 6) (e : EventCriteria) (price : Nat) : Notice :=
  .offer {
    output := o.val
    window := match (s.outs[o]).tune with
      | some t => t.window.val
      | none => 0
    service := match (s.outs[o]).tune with
      | some t => t.service
      | none => 0
    event := e.event
    endMinute := e.start + e.duration
    price := price
    overdraft := s.rights.overdraft
    balance := s.purse.balance }

/-- An OFFER is issued and the offer is outstanding with its event and price. -/
def State.makeOffer (s : State) (o : Fin 6) (e : EventCriteria) (price : Nat) : State :=
  (s.notify (s.offerNotice o e price)).modOut o (fun x => { x with offer := some ⟨e.event, price⟩ })

/-- An offer becomes none, without a notice. -/
def State.dropOffer (s : State) (o : Fin 6) : State := s.modOut o (fun x => { x with offer := none })

/-- An OFFER for the governing half's event if it has a price, otherwise no offer (R134, R135). -/
def State.offerOrNone (s : State) (o : Fin 6) : State :=
  match s.offeredEvent o with
  | none => s.dropOffer o
  | some e =>
    match s.priceNow e with
    | none => s.dropOffer o
    | some price => s.makeOffer o e price

/-- R134: the Gate hands the Access Unit the value it evaluated for an output. -/
def State.handValue (s : State) (o : Fin 6) (g : Gate) : State :=
  if g = .closed .purchase then
    match (s.outs[o]).offer with
    | none => s.offerOrNone o
    | some old => if (s.offeredEvent o).map (·.event) = some old.event then s else s.offerOrNone o
  else s.dropOffer o

end Sys2Proof.Machine
end

