-- ==== Sys2Proof/Machine/GateEval.lean ====
section
/-! DEFINITION. The Gate: inputs, effective rating, the eight tests with their overrides, evaluation, the GATE notice,
the move to IDLE (chapter 10). -/

namespace Sys2Proof.Machine

/-- The inputs of one evaluation (R172, R169). -/
structure GateInputs where
  isExport : Bool
  exportOk : Bool
  regionOk : Bool
  guideRating : Option Nat
  defaultRating : Option Nat
  governing : Option (HalfParity × Half)
  ceiling : Nat
  blockUnknown : Bool
  hoursFail : Bool
  budgetFail : Bool
  eventOverride : Bool
  periodOverride : Bool
  deriving DecidableEq, Repr

/-- R163: the EVENT unlock of an output is in force. -/
def State.eventUnlockInForce (s : State) (o : Fin 6) : Bool :=
  match (s.outs[o]).eventUnlock with
  | none => false
  | some e => s.presentEvent o = some e

/-- R163: at an evaluation, an EVENT unlock that is not in force is cleared. -/
def State.clearStaleUnlock (s : State) (o : Fin 6) : State :=
  if s.eventUnlockInForce o then s else s.modOut o (fun x => { x with eventUnlock := none })

/-- R172: the inputs of output `o` tuned as `t`, as they stand. A service with neither a map entry nor a retained entry
(no run reaches one, R172) admits no region and no export. -/
def State.gateInputs (s : State) (o : Fin 6) (t : Tuned) : GateInputs :=
  let p := s.profiles[(s.outCfg o).profile]
  let attrs := s.guide.attributes t.service
  { isExport := (s.outCfg o).isExport
    exportOk := match attrs with
      | some a => a.exportOk
      | none => false
    regionOk := match attrs with
      | some a => a.regions.getLsbD s.rights.region
      | none => false
    guideRating := (s.guide.currentEvent t.service).bind (fun e => e.rating)
    defaultRating := attrs.bind (fun a => a.rating)
    governing := (s.ctxs[t.context]).governing
    ceiling := p.ceiling
    blockUnknown := p.blockUnknown
    hoursFail := p.result = .outside
    budgetFail := p.budgetFails
    eventOverride := s.eventUnlockInForce o
    periodOverride := (s.outs[o]).periodUnlock.isSome }

/-- R173: the effective rating; none is unknown. -/
def effectiveRating (g h m : Option Nat) : Option Nat :=
  match g, h with
  | some a, some b => some (max a b)
  | some a, none => some a
  | none, some b => some b
  | none, none => m

/-- The effective rating of an evaluation. -/
def GateInputs.rating (i : GateInputs) : Option Nat :=
  effectiveRating i.guideRating (i.governing.bind (fun g => g.2.rating)) i.defaultRating

/-- The verdict of the governing half. -/
def GateInputs.verdict (i : GateInputs) : Option Verdict := i.governing.map (fun g => g.2.verdict)

/-- R175: RATING and UNKNOWN_RATING are lifted. -/
def GateInputs.ratingLifted (i : GateInputs) : Bool := i.eventOverride || i.periodOverride

/-- R174: the eight tests in order; the first that fails gives the reason. -/
def GateInputs.value (i : GateInputs) : Gate :=
  if i.isExport && !i.exportOk then .closed .exportDenied
  else if !i.regionOk then .closed .region
  else if i.verdict = some .notEntitled then .closed .notEntitled
  else if !i.ratingLifted && !atMost i.ceiling i.rating then .closed .rating
  else if !i.ratingLifted && i.rating.isNone && i.blockUnknown then .closed .unknownRating
  else if !i.periodOverride && i.hoursFail then .closed .hours
  else if !i.periodOverride && i.budgetFail then .closed .budget
  else if i.verdict = some .purchaseNeeded then .closed .purchase
  else .opened

/-- R177: the GATE notice of output `o`, tuned as `t`, with the inputs as they stand. -/
def State.gateReport (s : State) (o : Fin 6) (t : Tuned) (cause : GateCause) : Notice :=
  let i := s.gateInputs o t
  .gate o.val {
    value := (s.outs[o]).gate
    previous := (s.outs[o]).reported
    cause := cause
    window := t.window.val
    context := t.context.val
    service := t.service
    governing := i.governing.map (fun g => (g.1, g.2.verdict))
    rating := i.rating
    eventOverride := i.eventOverride
    periodOverride := i.periodOverride }

/-- R176 step 5, R177: a GATE notice when the gate value differs from the reported value, which then follows it. -/
def State.reportGate (s : State) (o : Fin 6) (cause : GateCause) : State :=
  match (s.outs[o]).tune with
  | none => s
  | some t =>
    if (s.outs[o]).gate = (s.outs[o]).reported then s
    else (s.notify (s.gateReport o t cause)).modOut o (fun x => { x with reported := x.gate })

/-- Set the gate value of an output. -/
def State.setGate (s : State) (o : Fin 6) (g : Gate) : State := s.modOut o (fun x => { x with gate := g })

/-- R171: an output's move to IDLE: both values CLOSED, IDLE, no notice, no offer. -/
def State.gateIdle (s : State) (o : Fin 6) : State :=
  s.modOut o (fun x => { x with gate := .closed .idle, reported := .closed .idle, offer := none })

/-- R176: one evaluation of output `o`. Within a minute tick's work the notice is deferred (R178). -/
def State.evaluate (s : State) (cause : GateCause) (deferred : Bool) (o : Fin 6) : State :=
  match (s.outs[o]).tune with
  | none => s.gateIdle o
  | some t =>
    let s1 := s.clearStaleUnlock o
    let g := (s1.gateInputs o t).value
    let s2 := s1.setGate o g
    let s3 := if deferred then s2 else s2.reportGate o cause
    s3.handValue o g

/-- R176: several outputs are evaluated one at a time, in the order of the list (ascending). -/
def State.evaluateAll (s : State) (cause : GateCause) (deferred : Bool) (os : List (Fin 6)) : State :=
  os.foldl (fun s o => s.evaluate cause deferred o) s

/-- R120: after a recomputation, the members of the ACTIVE contexts whose governing verdict changed, among those that
`pick` admits, are evaluated. -/
def State.evaluateChanged (s before : State) (deferred : Bool) (pick : Fin 8 → Bool) : State :=
  s.evaluateAll .verdict deferred (s.membersWhere (fun c _ => pick c && verdictChanged before s c))

/-- R120: every present half is recomputed, and gates follow. -/
def State.recomputeAndEvaluate (s : State) (deferred : Bool) : State :=
  (s.recompute allHalves).evaluateChanged s deferred (fun _ => true)

/-- R178: at the end of a tick's work, one GATE notice with cause MINUTE for each output whose two values differ. -/
def State.deferredNotices (s : State) : State := allOutputs.foldl (fun s o => s.reportGate o .minute) s

end Sys2Proof.Machine
end

