-- ==== Sys2Proof/Machine/Pool.lean ====
section
/-! DEFINITION. The Context Pool: allocation, staging, eviction, freeing (R58 to R71), the tune state machine (R72 to
R77), TUNE and RELEASE records (R61 to R68), and the step of a link reset or STANDBY entry (R80, R82). -/

namespace Sys2Proof.Machine

/-- The milliseconds of the pool's timers (R69, R72, R75). -/
def stagedLifetime : Nat := 60000

/-- R72: the key-wait. -/
def keyWait : Nat := 3000

/-- R75: how long after its last delivery a blanked output stalls. -/
def stallAfter : Nat := 3000

/-- The outcome ACCEPTED with a detail. -/
def accepted (detail : Nat) : Outcome := ⟨.accepted, detail⟩

/-- An outcome with detail 0. -/
def answered (c : Code) : Outcome := ⟨c, 0⟩

/-- An output number of a record, 0 to 5. -/
def outputOf (n : Nat) : Option (Fin 6) := if h : n < 6 then some ⟨n, h⟩ else none

/-- A window number of a record, 0 to 3. -/
def windowOf (n : Nat) : Option (Fin 4) := if h : n < 4 then some ⟨n, h⟩ else none

/-- A configured capture window of a record (R61). -/
def State.configuredWindow (s : State) (n : Nat) : Option (Fin 4) :=
  (windowOf n).bind (fun w => if (s.cfg.windows[w]).isSome then some w else none)

/-! ### Contexts -/

/-- A member set with an output added, ascending and without repeats (R58). -/
def withMember (o : Fin 6) (ms : List (Fin 6)) : List (Fin 6) := allOutputs.filter (fun x => x = o || ms.contains x)

/-- A member set with an output removed. -/
def withoutMember (o : Fin 6) (ms : List (Fin 6)) : List (Fin 6) := ms.filter (· ≠ o)

/-- R45: the retained entry of a service ends. -/
def State.endRetained (s : State) (svc : Nat) : State :=
  s.modGuide (fun g => { g with retained := g.retained.filter (fun e => e.service ≠ svc) })

/-- R71, R100: a context becomes FREE; a retained entry whose service runs no more ends. -/
def State.freeContext (s : State) (c : Fin 8) : State :=
  let s1 := s.modCtx c (fun _ => Context.free)
  match (s.ctxs[c]).tuning with
  | none => s1
  | some t => if s1.serviceRunning t.service then s1 else s1.endRetained t.service

/-- R66: the context an output leaves: without a member left it is STAGED from now. -/
def Context.leave (c : Context) (o : Fin 6) (now : Nat) : Context :=
  let ms := withoutMember o c.members
  match c.life with
  | .active t => if ms.isEmpty then { c with life := .staged t now, members := ms } else { c with members := ms }
  | .free | .staged _ _ => { c with members := ms }

/-- R66: an output leaves a context. -/
def State.leaveContext (s : State) (o : Fin 6) (c : Fin 8) : State := s.modCtx c (fun x => x.leave o s.ticks.now)

/-- R63 case 1: an output joins a context. -/
def Context.join (c : Context) (o : Fin 6) : Context :=
  match c.life with
  | .active _ | .free => { c with members := withMember o c.members }
  | .staged t _ => { c with life := .active t, members := withMember o c.members }

/-- R63 case 2: the lowest-numbered FREE context. -/
def State.lowestFree (s : State) : Option (Fin 8) := allContexts.find? (fun c => (s.ctxs[c]).isFree)

/-- The staged-since of a context, if it is STAGED. -/
def Context.stagedSince (c : Context) : Option Nat :=
  match c.life with
  | .staged _ t => some t
  | .free | .active _ => none

/-- The oldest STAGED context of a list; between equal ones the earlier in the list (R63 case 3). -/
def State.oldestOf (s : State) : List (Fin 8) → Option (Fin 8 × Nat)
  | [] => none
  | c :: rest =>
    match (s.ctxs[c]).stagedSince, s.oldestOf rest with
    | none, r => r
    | some t, none => some (c, t)
    | some t, some (d, u) => if t ≤ u then some (c, t) else some (d, u)

/-- R63 case 3: the STAGED context to evict. -/
def State.oldestStaged (s : State) : Option (Fin 8) := (s.oldestOf allContexts).map (·.1)

/-- How a TUNE obtained its context (R61). -/
inductive Means where
  | unchanged
  | joined
  | allocated
  | evicted
  deriving DecidableEq, Repr

/-- Means codes (R194). -/
def Means.code : Means → Nat
  | .unchanged => 0
  | .joined => 1
  | .allocated => 2
  | .evicted => 3

/-- R194: the outcome detail of an ACCEPTED TUNE. -/
def tuneDetail (c : Fin 8) (m : Means) : Nat := c.val * 16777216 + m.code * 65536

/-- R63 cases 2 and 3: a context to set up, FREE after an eviction (R65). None when all eight are ACTIVE, which no run
reaches (R63). -/
def State.takeContext (s : State) : Option (State × Fin 8 × Means) :=
  match s.lowestFree with
  | some c => some (s, c, .allocated)
  | none =>
    match s.oldestStaged with
    | some c => some (s.freeContext c, c, .evicted)
    | none => none

/-- R63: the tuning copied from the map entry. -/
def MapEntry.tuning (e : MapEntry) (w : Fin 4) : Tuning := ⟨e.service, w, e.streams, e.scrambled⟩

/-- R63: set up a context that was taken. -/
def State.setUp (s : State) (c : Fin 8) (life : Life) (ms : List (Fin 6)) : State :=
  s.modCtx c (fun _ => { Context.free with life := life, members := ms })

/-- R63: output `o` obtains a context for a service and window. -/
def State.obtainView (s : State) (o : Fin 6) (e : MapEntry) (w : Fin 4) : Option (State × Fin 8 × Means) :=
  match s.findContext e.service w.val with
  | some c => some (s.modCtx c (fun x => x.join o), c, .joined)
  | none => s.takeContext.map (fun r => (r.1.setUp r.2.1 (.active (e.tuning w)) [o], r.2.1, r.2.2))

/-- R67: a STAGE obtains or refreshes a context. -/
def State.obtainStage (s : State) (e : MapEntry) (w : Fin 4) : Option (State × Fin 8 × Means) :=
  match s.findContext e.service w.val with
  | some c =>
    some (s.modCtx c (fun x =>
      match x.life with
      | .staged t _ => { x with life := .staged t s.ticks.now }
      | .active _ | .free => x), c, .joined)
  | none => s.takeContext.map (fun r => (r.1.setUp r.2.1 (.staged (e.tuning w) s.ticks.now) [], r.2.1, r.2.2))

/-! ### The tune state machine -/

/-- R72: an output enters SEEKING on its new context; its gate is evaluated. -/
def State.enterSeeking (s : State) (o : Fin 6) (svc : Nat) (w : Fin 4) (c : Fin 8) : State :=
  (s.modOut o (fun x =>
    { x with
      tune := some ⟨.seeking (s.ticks.now + keyWait), svc, w, c, s.ticks.now⟩
      delivery := Delivery.cleared
      eventUnlock := none
      offer := none })).evaluate .retune false o

/-- The scrambled flag of a context (R58). -/
def Context.scrambled (c : Context) : Bool :=
  match c.tuning with
  | some t => t.scrambled
  | none => false

/-- R77: the reason of a stall, from the state as it stands. -/
def State.stallReason (s : State) (o : Fin 6) (t : Tuned) : StallReason :=
  if (s.path.rings[t.window]).state = .silent then .noSignal
  else
    match (s.outs[o]).gate with
    | .closed r => .gate r
    | .opened => if (s.outs[o]).delivery.lastBlank = some .noKey then .noKey else .otherCause

/-- R74, R75: an output stalls, with its STALLED notice. -/
def State.stall (s : State) (o : Fin 6) (t : Tuned) : State :=
  (s.modOut o (fun x => { x with tune := some { t with phase := .stalled s.ticks.now } })).notify
    (.stalled o.val t.window.val t.service t.context.val (s.ctxs[t.context]).scrambled (s.stallReason o t))

/-- R73, R76: what a delivery does to the tune state, after the delivery record is updated. The milliseconds that TUNED and
RESUMED carry are exact here; their 4-byte fields hold the low 32 bits (log entry 29, DESIGN CHOICE). -/
def State.tuneDelivery (s : State) (o : Fin 6) : State :=
  match (s.outs[o]).tune with
  | none => s
  | some t =>
    let present := s.modOut o (fun x => { x with tune := some { t with phase := .presenting } })
    match t.phase with
    | .seeking _ =>
      present.notify (.tuned o.val t.window.val t.service t.context.val (s.ctxs[t.context]).scrambled
        (s.ticks.now - t.seekStart))
    | .presenting => s
    | .stalled since =>
      if 2 ≤ (s.outs[o]).delivery.count then
        present.notify (.resumed o.val t.window.val t.service t.context.val (s.ticks.now - since))
      else s

/-- R75: what a blank does to the tune state, after the delivery record is updated. -/
def State.tuneBlank (s : State) (o : Fin 6) : State :=
  match (s.outs[o]).tune, (s.outs[o]).delivery.last with
  | some t, some l => if t.phase = .presenting ∧ l + stallAfter ≤ s.ticks.now then s.stall o t else s
  | _, _ => s

/-- R12: a delivery or a blank reaches the tune record: the delivery record, then the tune state. -/
def State.takeRead (s : State) (o : Fin 6) (e : ReadEvent) : State :=
  match e with
  | .delivery =>
    (s.modOut o (fun x =>
      { x with delivery := { x.delivery with last := some s.ticks.now, count := satInc x.delivery.count } })).tuneDelivery o
  | .blank r =>
    (s.modOut o (fun x => { x with delivery := { x.delivery with count := 0, lastBlank := some r } })).tuneBlank o

/-! ### Moves to IDLE -/

/-- R68 steps 2 to 7: the output's record becomes IDLE, its EVENT unlock and offer go, its gate is CLOSED, IDLE. -/
def Output.idle (x : Output) : Output :=
  { x with
    tune := none
    delivery := Delivery.cleared
    eventUnlock := none
    gate := .closed .idle
    reported := .closed .idle
    offer := none }

/-- R68: an output that is not IDLE leaves its context and becomes IDLE. -/
def State.moveToIdle (s : State) (o : Fin 6) : State :=
  match (s.outs[o]).tune with
  | none => s
  | some t => (s.leaveContext o t.context).modOut o Output.idle

/-- R80 step 3: both unlocks and the offer of an output are cleared. -/
def State.clearUnlocks (s : State) (o : Fin 6) : State :=
  s.modOut o (fun x => { x with eventUnlock := none, periodUnlock := none, offer := none })

/-- R80, R82: every output IDLE, every context FREE, unlocks, offers and retained entries ended. -/
def State.clearPool (s : State) : State :=
  let s1 := allOutputs.foldl (fun s o => ((s.moveToIdle o).gateIdle o).clearUnlocks o) s
  let s2 := allContexts.foldl State.freeContext s1
  s2.modGuide (fun g => { g with retained := [] })

/-! ### TUNE and RELEASE records -/

/-- R61: the checks of a TUNE record: the outcome of the first that fails, or the service's entry and the window. -/
def State.tuneChecks (s : State) (op : TuneOp) : Except Code (MapEntry × Fin 4) :=
  if op.purpose ≠ 1 ∧ op.purpose ≠ 2 then .error .badField
  else if op.purpose = 1 ∧ 5 < op.output then .error .badField
  else if op.purpose = 1 ∧ (outputOf op.output).any (fun o => !(s.outCfg o).enabled) then .error .notBound
  else
    match s.configuredWindow op.window with
    | none => .error .badField
    | some w =>
      if op.service < 1 ∨ 9999 < op.service then .error .badField
      else
        match s.guide.entry op.service with
        | none => .error .unknownService
        | some e => .ok (e, w)

/-- R62: the output is already on that service and window, on this context. -/
def State.alreadyOn (s : State) (o : Fin 6) (svc : Nat) (w : Fin 4) : Option (Fin 8) :=
  match (s.outs[o]).tune with
  | none => none
  | some t => if t.service = svc ∧ t.window = w then some t.context else none

/-- R62: leave the context the output was on before the retune. -/
def State.leaveOld (s : State) (o : Fin 6) (old : Option Tuned) : State :=
  match old with
  | none => s
  | some t => s.leaveContext o t.context

/-- R62: a VIEW that passed the checks. Responses of reads judged before it may still leave after it (R64). -/
def State.applyView (s : State) (o : Fin 6) (e : MapEntry) (w : Fin 4) : State × Outcome :=
  match s.alreadyOn o e.service w with
  | some c =>
    (s, accepted (tuneDetail c .unchanged))
  | none =>
    match s.obtainView o e w with
    | none => (s, answered .tableFull)
    | some (s1, c, m) =>
      ((s1.leaveOld o (s.outs[o]).tune).enterSeeking o e.service w c, accepted (tuneDetail c m))

/-- R61, R62: a TUNE record whose purpose is not STAGE. -/
def State.tuneView (s : State) (op : TuneOp) : State × Outcome :=
  match s.tuneChecks op with
  | .error c => (s, answered c)
  | .ok (e, w) =>
    match outputOf op.output with
    | none => (s, answered .badField)
    | some o => s.applyView o e w

/-- R61, R67: a TUNE record with purpose STAGE. -/
def State.tuneStage (s : State) (op : TuneOp) : State × Outcome :=
  match s.tuneChecks op with
  | .error c => (s, answered c)
  | .ok (e, w) =>
    match s.obtainStage e w with
    | none => (s, answered .tableFull)
    | some (s1, c, m) => (s1, accepted (tuneDetail c m))

/-- R68: a RELEASE record of an output number. -/
def State.release (s : State) (n : Nat) : State × Outcome :=
  match outputOf n with
  | none => (s, answered .badField)
  | some o => if (s.outCfg o).enabled then (s.moveToIdle o, accepted 0) else (s, answered .notBound)

/-! ### Timers -/

/-- R69: the staged lifetime of a context has run out. -/
def State.stagedDue (s : State) (c : Fin 8) : Bool :=
  match (s.ctxs[c]).stagedSince with
  | none => false
  | some t => s.running && t + stagedLifetime ≤ s.ticks.now

/-- R74: the key-wait of an output has run out. -/
def State.keyWaitDue (s : State) (o : Fin 6) : Bool :=
  match (s.outs[o]).tune with
  | none => false
  | some t =>
    match t.phase with
    | .seeking e => s.running && e ≤ s.ticks.now
    | .presenting | .stalled _ => false

/-- STAGED_LIFETIME_EXPIRY (R69, R71). -/
def execStagedLifetimeExpiry (c : Fin 8) (s : State) : Result :=
  if s.stagedDue c then done (s.freeContext c) else .next s

/-- KEY_WAIT_EXPIRY (R74, R77). -/
def execKeyWaitExpiry (o : Fin 6) (s : State) : Result :=
  match (s.outs[o]).tune with
  | none => .next s
  | some t => if s.keyWaitDue o then done (s.stall o t) else .next s

end Sys2Proof.Machine
end

