-- ==== Sys2Proof/Machine/Keys.lean ====
section
/-! DEFINITION. The Key Store: KEY records, loads and refreshes (R85 to R89), ageing and ECC discards (R93, R96, R97),
the parity flip (R9, R91). -/

namespace Sys2Proof.Machine

/-- R93: how long a half lasts after its last load or refresh. -/
def halfLifetime : Nat := 20000

/-- R96: one more corrected error in the count of a context's capture window. -/
def State.countCorrected (s : State) (c : Fin 8) : State :=
  match (s.ctxs[c]).tuning with
  | none => s
  | some t => s.modRing t.window (fun r => { r with corrected := satInc r.corrected })

/-- R84: after a change of halves on an ACTIVE context whose governing half changed, every member is evaluated. -/
def State.evaluateIfGoverningChanged (s : State) (before : Option (HalfParity × Nat)) (c : Fin 8) : State :=
  if (s.ctxs[c]).isActive ∧ (s.ctxs[c]).governingMark ≠ before then
    s.evaluateAll .key false (s.membersWhere (fun d _ => d = c))
  else s

/-- R93: a half is discarded; if it was governing, the members' gates are evaluated. -/
def State.discardHalf (s : State) (c : Fin 8) (p : HalfParity) : State :=
  (s.setHalf (c, p) none).evaluateIfGoverningChanged (s.ctxs[c]).governingMark c

/-- The KEY_FAULT notice of a half (R97). -/
def State.keyFaultNotice (s : State) (c : Fin 8) (p : HalfParity) (compare : Bool) : Notice :=
  match (s.ctxs[c]).tuning with
  | none => .keyFault c.val 0 0 p compare
  | some t => .keyFault c.val t.window.val t.service p compare

/-- R97: an uncorrectable error discards the half, issues KEY_FAULT, and evaluates gates if the half was governing. -/
def State.keyFault (s : State) (c : Fin 8) (p : HalfParity) (compare : Bool) : State :=
  ((s.setHalf (c, p) none).notify (s.keyFaultNotice c p compare)).evaluateIfGoverningChanged
    (s.ctxs[c]).governingMark c

/-- R95: one check of a key RAM word of a half: the state after it, and whether the word can be used. -/
def State.eccCheck (s : State) (c : Fin 8) (p : HalfParity) (compare : Bool) (f : EccFinding) : State × Bool :=
  match f with
  | .clean => (s, true)
  | .singleBit => (s.countCorrected c, true)
  | .uncorrectable => (s.keyFault c p compare, false)

/-- R9, R91: a parity flip: the current parity follows the packet, and every member is evaluated. -/
def State.flipParity (s : State) (c : Fin 8) (p : HalfParity) : State :=
  let s1 := s.modCtx c (fun x => { x with parity := some p })
  s1.evaluateAll .parity false (s1.membersWhere (fun d _ => d = c))

/-! ### KEY records -/

/-- R85: the checks of a KEY record. -/
def keyChecks (pass : Bool) (r : Record) : Option Code :=
  let bs := r.keyBlocks
  if !pass then some .badCheck
  else if r.b2 0 < 1 ∨ 9999 < r.b2 0 ∨ 3 < r.b1 2 then some .badField
  else if bs.any (fun b => b.half.isNone) then some .badField
  else if !decide ((bs.map (·.parity)).Nodup) then some .badField
  else if bs.any (fun b => !b.fieldsOk) then some .badField
  else none

/-- How the epoch of a record compares with the last key epoch of a context (R87). -/
inductive EpochOrder where
  | newer
  | equal
  | older
  deriving DecidableEq, Repr

/-- R87: the comparison wraps mod 65,536. -/
def epochOrder (n : Nat) (m : Option Nat) : EpochOrder :=
  match m with
  | none => .newer
  | some m =>
    let d := (n + 65536 - m) % 65536
    if d = 0 then .equal else if d ≤ 32767 then .newer else .older

/-- R88: compare the half blocks in order with the present halves. A comparison that fails ends it (log entry 10). -/
def State.compareBlocks (s : State) (c : Fin 8) : List KeyBlock → List EccFinding → State × Bool
  | [], _ => (s, true)
  | b :: bs, fs =>
    match b.half with
    | none => (s, false)
    | some p =>
      match s.halfAt (c, p) with
      | none => (s, false)
      | some h =>
        let (s1, usable) := s.eccCheck c p true (fs.headD .clean)
        if usable && h.wrapped = b.wrapped then s1.compareBlocks c bs fs.tail else (s1, false)

/-- R88: the ageing timer of a half restarts. -/
def State.refreshHalf (s : State) (c : Fin 8) (b : KeyBlock) : State :=
  match b.half with
  | none => s
  | some p => s.setHalf (c, p) ((s.halfAt (c, p)).map (fun h => { h with loaded := s.ticks.now }))

/-- R89: fill the slot of a half block. Its verdict is computed right after (R89 step 1). -/
def State.loadHalf (s : State) (c : Fin 8) (b : KeyBlock) (content : BitVec 128) : State :=
  match b.half, b.criteria with
  | some p, some cr =>
    { s with loadOrder := s.loadOrder + 1 }.setHalf (c, p)
      (some ⟨content, b.wrapped, cr, b.rating, .notEntitled, s.loadOrder + 1, s.ticks.now⟩)
  | _, _ => s

/-- R89: fill the slots of all half blocks, in their order. -/
def State.loadHalves (s : State) (c : Fin 8) : List KeyBlock → List (BitVec 128) → State
  | [], _ => s
  | b :: bs, ks => (s.loadHalf c b (ks.headD 0)).loadHalves c bs ks.tail

/-- The parities a record's blocks name, as the flags of R194. -/
def parityFlags (bs : List KeyBlock) : Nat :=
  ofFlags [bs.any (fun b => b.half = some .even), bs.any (fun b => b.half = some .odd)]

/-- R194: the outcome detail of an ACCEPTED KEY. -/
def keyDetail (c : Fin 8) (action : Nat) (bs : List KeyBlock) (governing : Nat) : Nat :=
  c.val * 16777216 + action * 65536 + parityFlags bs * 256 + governing

/-- R88: a refresh. -/
def State.keyRefresh (s : State) (c : Fin 8) (bs : List KeyBlock) (fs : List EccFinding) : State × Outcome :=
  match s.compareBlocks c bs fs with
  | (s1, true) => (bs.foldl (fun s b => s.refreshHalf c b) s1, accepted (keyDetail c 2 bs 0))
  | (s1, false) => (s1, answered .stale)

/-- The half places that a record's blocks name on a context, in the order of R120. -/
def loadedPlaces (c : Fin 8) (bs : List KeyBlock) : List HalfPlace :=
  [HalfParity.even, .odd].filterMap (fun p => if bs.any (fun b => b.half = some p) then some (c, p) else none)

/-- R89: a load: slots, epoch, verdicts, then the members once if the governing half changed. DESIGN CHOICE
(log entry 30): a preview entry that the verdicts replaced has its event's halves compared under R120 first, with cause
VERDICT: those of other contexts, and the governing half of this one where the load left it in place. -/
def State.keyLoad (s : State) (c : Fin 8) (epoch : Nat) (bs : List KeyBlock) (ks : List (BitVec 128)) :
    State × Outcome :=
  let s1 := (s.loadHalves c bs ks).modCtx c (fun x => { x with epoch := some epoch })
  let s2 := s1.recompute (loadedPlaces c bs)
  let changed := decide ((s.ctxs[c]).governingMark ≠ (s2.ctxs[c]).governingMark)
  let s3 := s2.evaluateChanged s1 false (fun d => d ≠ c || !changed)
  let s4 := s3.evaluateIfGoverningChanged (s.ctxs[c]).governingMark c
  let g := match (s4.ctxs[c]).governing with
    | none => 0
    | some (p, _) => parityCode p
  (s4, accepted (keyDetail c 1 bs g))

/-- R85 to R89: a KEY record. -/
def State.keyRecord (s : State) (u : KeyUnwrap) (r : Record) : State × Outcome :=
  match keyChecks u.pass r with
  | some c => (s, answered c)
  | none =>
    match s.findContext (r.b2 0) (r.b1 2) with
    | none => (s, answered .ignored)
    | some c =>
      match epochOrder (r.b2 4) (s.ctxs[c]).epoch with
      | .newer => s.keyLoad c (r.b2 4) r.keyBlocks u.content
      | .equal => s.keyRefresh c r.keyBlocks u.ecc
      | .older => (s, answered .stale)

/-- R93: the ageing timer of a half has run out. -/
def State.ageingDue (s : State) (c : Fin 8) (p : HalfParity) : Bool :=
  match s.halfAt (c, p) with
  | none => false
  | some h => s.running && h.loaded + halfLifetime ≤ s.ticks.now

/-- AGEING_EXPIRY (R93, R84). -/
def execAgeingExpiry (c : Fin 8) (p : HalfParity) (s : State) : Result :=
  if s.ageingDue c p then done (s.discardHalf c p) else .next s

end Sys2Proof.Machine
end

