-- ==== Sys2Proof/Machine/Path.lean ====
section
/-! DEFINITION. The Path Unit: upstream requests (R1 to R3, R17, R18, R23), capture-ring arrivals (R4, R5), cell reads
(R6 to R12), export pacing (R13), and the descrambled packet (R98, R99). -/

namespace Sys2Proof.Machine

/-! ### Upstream requests -/

/-- R23: Intake holds the slot as TAKEN. -/
def State.slotTaken (s : State) (n : Fin 256) : Bool := s.intake.taken[n]

/-- R3, R23: a classified request is held against its TAKEN slot, or presented to the DRAM port. -/
def State.presentOrHold (s : State) (u : UpReq) : State :=
  if u.kind = .message && isWrite u.req && s.slotTaken (s.slotOf u.req.addr) then
    s.modIntake (fun i => { i with held := i.held ++ [(s.slotOf u.req.addr, u)] })
  else s.present u

/-- R1, R17: a request arrives and is classified under the loaded map. -/
def State.arrive (s : State) (r : Request) : State := s.presentOrHold ⟨r, s.classify r.addr, none, false⟩

/-- R1, R17, R18: an upstream request by part state: held in START, passed in FAULT, classified otherwise. -/
def State.upstream (s : State) (r : Request) : State :=
  match s.part with
  | .start => { s with path := { s.path with startHeld := s.path.startHeld ++ [r] } }
  | .fault => s.present ⟨r, .plain, none, false⟩
  | .mounting | .active | .standby => s.arrive r

/-- UPSTREAM_REQUEST (R1, R3, R17, R18, R23). -/
def execUpstreamRequest (r : Request) (s : State) : Result :=
  if !r.addrOk then .fault .outsideMemory
  else if !r.wf then .refused .illFormed
  else if s.powerGood then done (s.upstream r)
  else .next s

/-! ### What the completion of the upstream request in service is -/

/-- The completions of upstream requests, each a row of the table. -/
inductive Completion where
  | pass
  | arrival (k : Fin 4) (good : Bool)
  | take (n : Fin 256) (kind : Byte)
  | consumer
  | cell (k : Fin 4) (o : Fin 6)
  deriving DecidableEq, Repr

/-- R195: a write of the report window covers a byte of the consumer-index word. -/
def State.coversConsumer (s : State) (r : Request) : Bool :=
  let o := r.addr - s.cfg.repBase
  o ≤ 11 && 8 < o + r.len

/-- Which completion an upstream request in service is (R3, R4, R6, R22, R195). -/
def State.completionOf (s : State) (u : UpReq) : Completion :=
  match u.kind with
  | .plain => .pass
  | .capture k =>
    if isWrite u.req then
      if covers u.req 4 then .arrival k (byteAt (writeData u.req) (4 - u.req.addr % 256) = 0x47) else .pass
    else
      match s.boundOutput u.req.tag with
      | none => .pass
      | some o => .cell k o
  | .message =>
    if isWrite u.req && covers u.req 0 && byteAt (writeData u.req) 0 ≠ 0 && !s.slotTaken (s.slotOf u.req.addr) then
      .take (s.slotOf u.req.addr) (byteAt (writeData u.req) 0)
    else .pass
  | .report => if isWrite u.req && s.coversConsumer u.req then .consumer else .pass

/-- R3, R6: a passed request completes: a write reaches DRAM, a read returns what DRAM holds. -/
def State.passComplete (s : State) (u : UpReq) : State :=
  if isWrite u.req then s.completeWrite u else (s.freePort).answer u (s.dramRead u.req.addr u.req.len)

/-- PASS_REQUEST_COMPLETE (R3, R6). -/
def execPassRequestComplete (s : State) : Result :=
  match s.servingUp with
  | none => .next s
  | some u => if s.completionOf u = .pass then done (s.passComplete u) else .next s

/-! ### Arrivals and rings (R4, R5) -/

/-- R5: how long a ring stays LIVE after its last good arrival. -/
def silenceTime : Nat := 1000

/-- R4, R5: what an arrival does to a ring. -/
def Ring.arrive (r : Ring) (good : Bool) (now : Nat) : Ring :=
  match good, r.state with
  | true, .silent =>
    { r with
      good := satInc r.good
      lastGood := some now
      goodRun := min 2 (r.goodRun + 1)
      state := if 1 ≤ r.goodRun then .live else .silent }
  | true, .live => { r with good := satInc r.good, lastGood := some now }
  | false, .silent => { r with bad := satInc r.bad, goodRun := 0 }
  | false, .live => { r with bad := satInc r.bad }

/-- R5: a RING notice when the state of a ring has changed. -/
def State.noteRing (s : State) (k : Fin 4) (before : RingState) : State :=
  if (s.path.rings[k]).state = before then s else s.notify (.ring k.val (s.path.rings[k]).state)

/-- R4, R5: a cell arrival in window `k`. -/
def State.arrival (s : State) (k : Fin 4) (good : Bool) : State :=
  (s.modRing k (fun r => r.arrive good s.ticks.now)).noteRing k (s.path.rings[k]).state

/-- CELL_ARRIVAL (R4, R5). -/
def execCellArrival (s : State) : Result :=
  match s.servingUp with
  | none => .next s
  | some u =>
    match s.completionOf u with
    | .arrival k good => done ((s.completeWrite u).arrival k good)
    | .pass | .take _ _ | .consumer | .cell _ _ => .next s

/-- R5: the silence timer of a window has run out. -/
def State.silenceDue (s : State) (k : Fin 4) : Bool :=
  match (s.path.rings[k]).lastGood with
  | none => false
  | some t => s.running && (s.path.rings[k]).state = .live && t + silenceTime ≤ s.ticks.now

/-- R5: a ring falls SILENT. -/
def State.fallSilent (s : State) (k : Fin 4) : State :=
  (s.modRing k (fun r => { r with state := .silent, goodRun := 0 })).notify (.ring k.val .silent)

/-- SILENCE_TIMER_EXPIRY (R5). -/
def execSilenceTimerExpiry (k : Fin 4) (s : State) : Result :=
  if s.silenceDue k then done (s.fallSilent k) else .next s

/-! ### Packets (R8, 12.3) -/

/-- The parity field of a packet (12.3). -/
inductive PacketParity where
  | clear
  | reserved
  | scrambled (p : HalfParity)
  deriving DecidableEq, Repr

/-- The fields of a packet that the part uses (R8). -/
structure Packet where
  sync : Nat
  stream : Nat
  parity : PacketParity
  adaptation : Bool
  payload : Bool
  adaptationLength : Nat
  deriving DecidableEq, Repr

/-- The parity of header byte 3. -/
def parityOf (b : Byte) : PacketParity :=
  match b.toNat / 64 with
  | 0 => .clear
  | 1 => .reserved
  | 2 => .scrambled .even
  | _ => .scrambled .odd

/-- The packet in a cell's bytes: cell bytes 4 to 191. -/
def packetOf (cell : List Byte) : Packet where
  sync := u8 cell 4
  stream := u8 cell 5 % 32 * 256 + u8 cell 6
  parity := parityOf (byteAt cell 7)
  adaptation := flag cell 7 5
  payload := flag cell 7 4
  adaptationLength := u8 cell 8

/-- R8: malformed. -/
def Packet.malformed (p : Packet) : Bool := p.sync ≠ 0x47 || (p.adaptation && 182 < p.adaptationLength)

/-- R98: the packet offset at which the payload begins. -/
def Packet.payloadStart (p : Packet) : Nat := if p.adaptation then 5 + p.adaptationLength else 4

/-- R98: the number of whole 8-byte blocks of the payload. -/
def Packet.blocks (p : Packet) : Nat := if p.payload then (188 - p.payloadStart) / 8 else 0

/-! ### The transform (R10, R98, R99) -/

/-- R99: the whole blocks of a payload, each from the content key, its own bytes and the result before it. -/
def decipher (key : BitVec 128) : BitVec 64 → Nat → List Byte → List Byte
  | _, 0, bs => bs
  | prev, n + 1, bs =>
    let out := Config.cipherBlock key (BitVec.ofNat 64 (ofBytes (bs.take 8))) prev
    beBytes 8 out.toNat ++ decipher key out n (bs.drop 8)

/-- R99: header byte 3 with its parity field set to clear. -/
def clearParity (b : Byte) : Byte := b &&& 0x3F

/-- R10 step 5, R99: the response bytes of a descrambled read, from the stored bytes. -/
def descrambled (key : BitVec 128) (cell : List Byte) : List Byte :=
  let p := packetOf cell
  let at' := 4 + p.payloadStart
  cell.take 7 ++ [clearParity (byteAt cell 7)] ++ (cell.take at').drop 8 ++
    decipher key Config.cipherStart p.blocks ((cell.drop at').take (192 - at')) ++ cell.drop 192

/-- R11, 12.3: the 188 bytes of a blank packet. -/
def blankPacket : List Byte := [0x47, 0x1F, 0xFF, 0x10] ++ List.replicate 184 0xFF

/-- R11: the response bytes of a blanked read: the stamp and the padding as stored. -/
def blanked (cell : List Byte) : List Byte := cell.take 4 ++ blankPacket ++ cell.drop 192

/-- R7: the response bytes of a partial read that starts at cell offset `off`. -/
def partialBytes (off : Nat) (stored : List Byte) : List Byte :=
  stored.zipIdx.map (fun x => if off + x.2 < 192 then 0xFF else x.1)

/-- R7: a cell read is taken whole. -/
def wholeRead (r : Request) : Bool := r.addr % 256 = 0 && 192 ≤ r.len

/-! ### The cell-read procedure (R8 to R12) -/

/-- R11: the counter of a blank's reason; IDLE blanks count with the GATE blanks. -/
def OutputCounters.blank (c : OutputCounters) (r : BlankReason) : OutputCounters :=
  match r with
  | .idle | .gate => { c with gate := satInc c.gate }
  | .noKey => { c with noKey := satInc c.noKey }
  | .otherStream => { c with otherStream := satInc c.otherStream }

/-- A cell read being judged: its output and the stored bytes. -/
structure Reading where
  output : Fin 6
  cell : List Byte
  deriving DecidableEq, Repr

/-- A cell read that has been judged: the state that judging it left, what it will be for the tune record, and the response
bytes. -/
structure JudgedRead where
  state : State
  event : ReadEvent
  data : List Byte

/-- R11: a blank of output `o` is counted. -/
def State.countBlank (s : State) (o : Fin 6) (r : BlankReason) : State := s.count o (fun c => c.blank r)

/-- R11, R13: a delivery of output `o` is counted, and paced for an EXPORT output. -/
def State.countDelivery (s : State) (o : Fin 6) (clear : Bool) : State :=
  (s.count o (fun c =>
      if clear then { c with clear := satInc c.clear } else { c with descrambled := satInc c.descrambled })).modOut o
    (fun x => { x with pace := if (s.outCfg o).isExport then x.pace + 1 else x.pace })

/-- A blank packet answers the read. -/
def State.readBlank (s : State) (x : Reading) (r : BlankReason) : JudgedRead :=
  ⟨s.countBlank x.output r, .blank r, blanked x.cell⟩

/-- The stored packet answers the read, a clear delivery. -/
def State.readClear (s : State) (x : Reading) : JudgedRead := ⟨s.countDelivery x.output true, .delivery, x.cell⟩

/-- R10 steps 3 to 5: a scrambled packet of a listed stream, with the gate OPEN. -/
def State.readScrambled (s : State) (x : Reading) (c : Fin 8) (p : HalfParity) (ecc : EccFinding) : JudgedRead :=
  match s.halfAt (c, p) with
  | none => s.readBlank x .noKey
  | some h =>
    match s.eccCheck c p false ecc with
    | (s1, false) => s1.readBlank x .noKey
    | (s1, true) => ⟨s1.countDelivery x.output false, .delivery, descrambled h.content x.cell⟩

/-- R10: a packet of a listed stream whose parity is not reserved. -/
def State.readListed (s : State) (x : Reading) (c : Fin 8) (pp : PacketParity) (ecc : EccFinding) : JudgedRead :=
  match (s.outs[x.output]).gate with
  | .closed _ => s.readBlank x .gate
  | .opened =>
    match pp with
    | .clear => s.readClear x
    | .reserved => s.readBlank x .otherStream
    | .scrambled p => s.readScrambled x c p ecc

/-- R9: a scrambled packet of another parity flips the context's parity first. -/
def State.flipIfNew (s : State) (c : Fin 8) (pp : PacketParity) : State :=
  match pp with
  | .clear | .reserved => s
  | .scrambled p => if (s.ctxs[c]).parity = some p then s else s.flipParity c p

/-- R8 step 3: a packet whose stream is not in the context's list. -/
def State.readForeign (s : State) (x : Reading) (pp : PacketParity) : JudgedRead :=
  match pp with
  | .scrambled _ => s.readBlank x .otherStream
  | .clear | .reserved =>
    match (s.outs[x.output]).gate with
    | .closed _ => s.readBlank x .gate
    | .opened => s.readClear x

/-- R8: a context's stream ID list holds a stream ID. -/
def Context.lists (c : Context) (stream : Nat) : Bool :=
  match c.tuning with
  | none => false
  | some t => t.streams.contains stream

/-- R8 to R10: the cell-read procedure. -/
def State.cellProcedure (s : State) (x : Reading) (ecc : EccFinding) : JudgedRead :=
  let p := packetOf x.cell
  match (s.outs[x.output]).tune with
  | none => s.readBlank x .idle
  | some t =>
    if p.malformed then s.readBlank x .otherStream
    else if !(s.ctxs[t.context]).lists p.stream then s.readForeign x p.parity
    else if p.parity = .reserved then s.readBlank x .otherStream
    else (s.flipIfNew t.context p.parity).readListed x t.context p.parity ecc

/-- R7: a partial read: counted, neither a delivery nor a blank. -/
def State.partialRead (s : State) (o : Fin 6) : State :=
  s.count o (fun c => { c with partials := satInc c.partials })

/-! ### Export pacing (R13) -/

/-- R13: an EXPORT output has reached its pace limit. -/
def State.paceFull (s : State) (o : Fin 6) : Bool := (s.outCfg o).isExport && (s.outCfg o).pace ≤ (s.outs[o]).pace

/-- Where in the list of held reads a read of hold order `n` stands. -/
def insertHeld (u : UpReq) (n : Nat) : List UpReq → List UpReq
  | [] => [u]
  | v :: vs => if n < v.firstHeld.getD 0 then u :: v :: vs else v :: insertHeld u n vs

/-- R13: a read at the limit is held on the link, in the order in which reads were first held. -/
def State.holdRead (s : State) (u : UpReq) : State :=
  match u.firstHeld with
  | some n => { s with path := { s.path with paceHeld := insertHeld u n s.path.paceHeld } }
  | none =>
    { s with path := { s.path with
        paceHeld := s.path.paceHeld ++ [{ u with firstHeld := some s.path.holdCount }]
        holdCount := s.path.holdCount + 1 } }

/-- R12: a judged read of output `o` is answered: its delivery or blank is taken now, and its response leaves on the
link. -/
def State.answerRead (s : State) (o : Fin 6) (e : ReadEvent) (u : UpReq) (data : List Byte) : State :=
  (s.takeRead o e).answer u data

/-- R6, R64: a judged read whose response is still to leave. -/
def State.keepRead (s : State) (l : Leaving) : State :=
  { s with path := { s.path with leaving := s.path.leaving ++ [l] } }

/-- R6 to R13: the DRAM read of a cell read of output `o` completes. A partial read and a read held for pacing have no
event of their own, so they are whole steps. -/
def State.cellRead (s : State) (u : UpReq) (o : Fin 6) (ecc : EccFinding) (atOnce : Bool) : State :=
  let stored := s.dramRead u.req.addr u.req.len
  let s0 := s.freePort
  if !wholeRead u.req then (s0.partialRead o).answer u (partialBytes (u.req.addr % 256) stored)
  else if s0.paceFull o then s0.holdRead u
  else
    let j := s0.cellProcedure ⟨o, stored⟩ ecc
    if atOnce then j.state.answerRead o j.event u j.data else j.state.keepRead ⟨o, j.event, u, j.data⟩

/-- The cell read in service, if there is one, completes. -/
def State.completeRead (s : State) (ecc : EccFinding) (atOnce : Bool) : Result :=
  match s.servingUp with
  | none => .next s
  | some u =>
    match s.completionOf u with
    | .cell _ o => done (s.cellRead u o ecc atOnce)
    | .pass | .take _ _ | .consumer | .arrival _ _ => .next s

/-- R12, R64: the response of the judged read at place `k` leaves. -/
def State.leaveRead (s : State) (k : Nat) : Result :=
  match s.path.leaving[k]? with
  | none => .next s
  | some l =>
    done (({ s with path := { s.path with leaving := s.path.leaving.eraseIdx k } }).answerRead l.output l.event l.read l.data)

/-- CELL_READ (R6 to R13, R64). -/
def execCellRead (x : ReadStep) (s : State) : Result :=
  match x with
  | .whole ecc => s.completeRead ecc true
  | .judged ecc => s.completeRead ecc false
  | .answered k => s.leaveRead k

/-- R13: a pace window begins at each multiple of 10 ms. -/
def State.paceDue (s : State) : Bool := s.powerGood && s.path.paceWindow < s.ticks.now / 10

/-- R13: pace counts return to 0 and held reads are presented again in the order of their first hold. R13 orders the held
reads of one output; how those of two EXPORT outputs interleave it leaves open, and the model presents all of them in one
common order of first hold (log entry 35, DESIGN CHOICE). -/
def State.openPace (s : State) : State :=
  { s with
    outs := s.outs.map (fun x => { x with pace := 0 })
    path := { s.path with paceHeld := [], paceWindow := s.ticks.now / 10 }
    port := { s.port with up := s.port.up ++ s.path.paceHeld } }

/-- PACE_WINDOW_OPEN (R13). -/
def execPaceWindowOpen (s : State) : Result := if s.paceDue then done s.openPace else .next s

/-! ### The part's own writes without behaviour of their own -/

/-- The own writes that OWN_WRITE_COMPLETE completes: notice entry, overrun word, scrub, title, CRC (R15). -/
def OwnKind.plain : OwnKind → Bool
  | .entry | .overrun | .scrub _ | .title _ | .crc _ => true
  | .fetch _ | .publish _ | .controlBlock | .outcome _ => false

/-- OWN_WRITE_COMPLETE (R15). -/
def execOwnWriteComplete (s : State) : Result :=
  match s.servingOwn with
  | none => .next s
  | some r => if r.what.plain then done (s.completeOwn r) else .next s

end Sys2Proof.Machine
end

