-- ==== Sys2Proof/Machine/Intake.lean ====
section
/-! DEFINITION. Intake: taking a slot (R22), selection (R26), the fetched record, its checks and screen (R28, R29), the
scrub and the outcome write (R31, R32), and what becomes of a record at a link reset (R34). -/

namespace Sys2Proof.Machine

/-! ### Taking and selecting -/

/-- Mark a slot FREE or TAKEN. -/
def Intake.mark (i : Intake) (n : Fin 256) (b : Bool) : Intake := { i with taken := i.taken.set n b }

/-- R22: a slot is taken: it joins the tail of the queue its kind byte chooses. -/
def Intake.take (i : Intake) (n : Fin 256) (kind : Byte) : Intake :=
  if urgentKind kind then { i.mark n true with urgent := i.urgent ++ [n] }
  else { i.mark n true with bulk := i.bulk ++ [n] }

/-- R27: the own read of a slot's 256 bytes. -/
def State.fetchRead (s : State) (n : Fin 256) : OwnReq := ⟨.fetch n, s.slotAddr n, [], false⟩

/-- R26: Intake's choice of the next slot number, or none when both queues are empty. -/
def Intake.choose (i : Intake) : Option (Fin 256 × Intake) :=
  match i.urgent, i.bulk with
  | [], [] => none
  | u :: us, [] => some (u, { i with urgent := us, streak := min 4 (i.streak + 1) })
  | [], b :: bs => some (b, { i with bulk := bs, streak := 0 })
  | u :: us, b :: bs =>
    if i.streak < 4 then some (u, { i with urgent := us, streak := i.streak + 1 })
    else some (b, { i with bulk := bs, streak := 0 })

/-- R26: with no record in processing, the next one is selected and its fetch issued. -/
def State.select (s : State) : State :=
  match s.intake.proc with
  | some _ => s
  | none =>
    match s.intake.choose with
    | none => s
    | some (n, i) => { s with intake := { i with proc := some ⟨n, .fetching⟩ } }.issue (s.fetchRead n)

/-- SLOT_TAKE (R22, R26). -/
def execSlotTake (s : State) : Result :=
  match s.servingUp with
  | none => .next s
  | some u =>
    match s.completionOf u with
    | .take n kind => done (((s.completeWrite u).modIntake (fun i => i.take n kind)).select)
    | .pass | .arrival _ _ | .consumer | .cell _ _ => .next s

/-! ### The record in processing -/

/-- A record whose fetch is complete: its slot, its bytes, and whether its slot is still held for it (R34). -/
structure Fetched where
  slot : Fin 256
  bytes : Record
  attached : Bool
  deriving DecidableEq, Repr

/-- The record that a record command acts on: that of the slot fetch in service, which completes now (R27), or the one
that a link reset detached with its fetch complete (R34). -/
def State.fetched (s : State) : Option Fetched :=
  match s.intake.proc with
  | none => none
  | some p =>
    match p.stage with
    | .decided => none
    | .detached bytes => some ⟨p.slot, bytes, false⟩
    | .fetching =>
      match s.servingOwn with
      | none => none
      | some r =>
        if r.what = .fetch p.slot ∧ r.void = false then some ⟨p.slot, s.dramRead (s.slotAddr p.slot) 256, true⟩ else none

/-- The fetch of an attached record completes and frees the port. -/
def State.fetchDone (s : State) (f : Fetched) : State := if f.attached then s.freePort else s

/-- An own write to a slot at a slot byte. -/
def State.slotWrite (s : State) (n : Fin 256) (what : OwnKind) (at' : Nat) (bs : List Byte) : OwnReq :=
  ⟨what, s.slotAddr n + at', bs, false⟩

/-- R31: the scrub writes of a record kind, one for each PIN field (log entry 12). -/
def State.scrubWrites (s : State) (n : Fin 256) (k : Kind) : List OwnReq :=
  (scrubFields k).map (fun i => s.slotWrite n (.scrub n) i (zeros 8))

/-- R32: the outcome write: slot bytes 3 to 7. -/
def State.outcomeWrite (s : State) (n : Fin 256) (out : Outcome) : OwnReq :=
  s.slotWrite n (.outcome n) 3 (beBytes 1 out.code.byte ++ beBytes 4 out.detail)

/-- Issue own requests in order. -/
def State.issueAll (s : State) (rs : List OwnReq) : State := { s with port := { s.port with own := s.port.own ++ rs } }

/-- Own writes of a record's owning block to its slot: a detached record issues none (R34). -/
def State.issueFor (s : State) (f : Fetched) (rs : List OwnReq) : State := if f.attached then s.issueAll rs else s

/-- R31, R32, R34: after the outcome is decided: the slot's writes are issued, or a detached record's processing ends. -/
def State.finishRecord (s : State) (f : Fetched) (writes : List OwnReq) (out : Outcome) : State :=
  if f.attached then
    (s.issueAll (writes ++ [s.outcomeWrite f.slot out])).modIntake (fun i => { i with proc := some ⟨f.slot, .decided⟩ })
  else (s.modIntake (fun i => { i with proc := none })).select

/-- R29: the answer of the part-state screen, or none where the record is dispatched. -/
def screen (k : Kind) (p : PartState) : Option Code :=
  match p, k with
  | .mounting, .key => some .ignored
  | .mounting, .tune => some .notReady
  | .mounting, .buy => some .notReady
  | .mounting, .pin => some .notReady
  | .mounting, .profile => some .notReady
  | .mounting, .power => some .notReady
  | .mounting, .rights => some .notReady
  | .standby, .key => some .standby
  | .standby, .tune => some .standby
  | .standby, .buy => some .standby
  | .standby, .pin => some .standby
  | _, _ => none

/-- R56: a guide record answered BAD_LENGTH raises the malformed counter when the outcome is written (log entry 17). -/
def State.countBadLength (s : State) (k : Kind) (attached : Bool) : State :=
  match k with
  | .time | .services | .events =>
    if attached then s.modGuideCounters (fun c => { c with malformed := satInc c.malformed }) else s
  | .key | .tune | .release | .buy | .pin | .profile | .power | .rights => s

/-- What an owning block does with a record (R30): the state after its immediate effect, and its outcome. -/
abbrev Effect := State → Fetched → State × Outcome

/-- R28, R29, R30: length check, part-state screen, dispatch. -/
def State.carryOut (s : State) (f : Fetched) (k : Kind) (effect : Effect) : State × Outcome :=
  if !f.bytes.lengthOk k then (s.countBadLength k f.attached, answered .badLength)
  else
    match screen k s.part with
    | some c => (s, answered c)
    | none => effect s f

/-- R27 to R32: a record of kind `k` for which `mine` holds is carried through its stages. -/
def State.processRecord (s : State) (k : Kind) (mine : Record → Bool) (effect : Effect) : Option State :=
  match s.fetched with
  | none => none
  | some f =>
    if f.bytes.kind = some k ∧ mine f.bytes then
      let r := (s.fetchDone f).carryOut f k effect
      some (r.1.finishRecord f (r.1.scrubWrites f.slot k) r.2)
    else none

/-- A record command: the record is carried out, or no such record is at hand and nothing changes. -/
def recordStep (s : State) (k : Kind) (mine : Record → Bool) (effect : Effect) : Result :=
  match s.processRecord k mine effect with
  | none => .next s
  | some t => done t

/-- The first body byte of an action or purpose field is `v`, or none of the listed ones (log entry 4). -/
def actionIs (v : Nat) (all : List Nat) (at' : Nat) (r : Record) : Bool := r.b1 at' = v || !all.contains (r.b1 at')

/-- R28: the outcome of a record of no kind. -/
def State.badKind (s : State) (f : Fetched) : State := (s.fetchDone f).finishRecord f [] (answered .badKind)

/-- RECORD_BAD_KIND (R28). -/
def execRecordBadKind (s : State) : Result :=
  match s.fetched with
  | none => .next s
  | some f => if f.bytes.kind = none then done (s.badKind f) else .next s

/-! ### TUNE, RELEASE and KEY records, the Context Pool's and the Key Store's (R30) -/

/-- TUNE_VIEW (R61, R62): a TUNE record whose purpose is not STAGE. -/
def execTuneView (s : State) : Result :=
  recordStep s .tune (actionIs 1 [1, 2] 1) (fun s f => s.tuneView f.bytes.tuneOp)

/-- TUNE_STAGE (R61, R67): a TUNE record whose purpose is not VIEW. -/
def execTuneStage (s : State) : Result :=
  recordStep s .tune (actionIs 2 [1, 2] 1) (fun s f => s.tuneStage f.bytes.tuneOp)

/-- RELEASE (R68). -/
def execRelease (s : State) : Result :=
  recordStep s .release (fun _ => true) (fun s f => s.release (f.bytes.b1 0))

/-- KEY (R85 to R89). -/
def execKey (u : KeyUnwrap) (s : State) : Result :=
  recordStep s .key (fun _ => true) (fun s f => s.keyRecord u f.bytes)

/-! ### The outcome write -/

/-- R24: the writes held against a slot are presented in the order of their arrival. -/
def State.releaseHeld (s : State) (n : Fin 256) (lost : Bool) : State :=
  { s with
    port := { s.port with
      up := s.port.up ++ (s.intake.held.filter (fun h => h.1 = n)).map (fun h => { h.2 with lost := h.2.lost || lost }) }
    intake := { s.intake with held := s.intake.held.filter (fun h => h.1 ≠ n) } }

/-- R32: the four effects of an outcome write's completion: FREE, release, processing ends, selection. -/
def State.outcomeDone (s : State) (n : Fin 256) : State :=
  ((((s.modIntake (fun i => i.mark n false)).releaseHeld n false).modIntake (fun i => { i with proc := none })).select)

/-- OUTCOME_WRITE_COMPLETE (R32); one that a link reset made void has none of the effects (R34). -/
def execOutcomeWriteComplete (s : State) : Result :=
  match s.servingOwn with
  | none => .next s
  | some r =>
    match r.what with
    | .outcome n => if r.void then done (s.completeOwn r) else done ((s.completeOwn r).outcomeDone n)
    | .fetch _ | .entry | .overrun | .publish _ | .controlBlock | .scrub _ | .title _ | .crc _ => .next s

/-- DISCARDED_FETCH_COMPLETE (R34): the data of an abandoned record's fetch is discarded and the port is free. -/
def execDiscardedFetchComplete (s : State) : Result :=
  match s.servingOwn with
  | none => .next s
  | some r =>
    match r.what with
    | .fetch _ => if r.void then done s.freePort else .next s
    | .entry | .overrun | .publish _ | .controlBlock | .outcome _ | .scrub _ | .title _ | .crc _ => .next s

/-! ### A link reset (R33, R34) -/

/-- The own writes that belong to a record (R34). -/
def OwnKind.ofRecord : OwnKind → Bool
  | .fetch _ | .outcome _ | .scrub _ | .title _ | .crc _ => true
  | .entry | .overrun | .publish _ | .controlBlock => false

/-- The own writes of the Notice Writer that a link reset withdraws (R192). -/
def OwnKind.ofNotices : OwnKind → Bool
  | .entry | .overrun | .publish _ => true
  | .fetch _ | .outcome _ | .scrub _ | .title _ | .crc _ | .controlBlock => false

/-- R34, R192: an own request that the reset withdraws if it is not yet served, and makes void if it is in service. -/
def OwnKind.resetVoids (k : OwnKind) : Bool := k.ofRecord || k.ofNotices

/-- R15, R34, R192: the own FIFO after a link reset; the own head's pass count starts again if the head is withdrawn. -/
def Port.withdraw (p : Port) : Port :=
  { p with
    own := p.own.filter (fun r => !r.what.resetVoids)
    pass := match p.own with
      | [] => p.pass
      | r :: _ => if r.what.resetVoids then 0 else p.pass }

/-- R14, R34, R192: the request in service after a link reset. -/
def Serving.afterReset : Serving → Serving
  | .upstream u => .upstream { u with lost := true }
  | .own r => .own { r with void := r.void || r.what.resetVoids }

/-- R15: the upstream FIFO is emptied and the request in service goes on without its link. -/
def Port.dropUpstream (p : Port) : Port := { p with up := [], serving := p.serving.map Serving.afterReset }

/-- R34: the record in processing at a link reset. `complete`: a fetch in service is taken as complete before it. -/
def State.detach (s : State) (complete : Bool) : State :=
  match s.intake.proc with
  | none => s
  | some p =>
    match p.stage with
    | .detached _ => s
    | .decided => s.modIntake (fun i => { i with proc := none })
    | .fetching =>
      match s.fetched with
      | none => s.modIntake (fun i => { i with proc := none })
      | some f =>
        if complete then
          (s.freePort).modIntake (fun i => { i with proc := some ⟨f.slot, .detached f.bytes⟩ })
        else s.modIntake (fun i => { i with proc := none })

/-- R33: slots FREE, queues empty, streak 0, held writes released slot by slot. -/
def State.resetIntake (s : State) : State :=
  (List.finRange 256).foldl (fun s n => s.releaseHeld n true)
    (s.modIntake (fun i => { i with taken := Vector.replicate 256 false, urgent := [], bulk := [], streak := 0 }))

end Sys2Proof.Machine
end

