-- ==== Sys2Proof/Machine/Guide.lean ====
section
/-! DEFINITION. Guide Tables: TIME, SERVICES and EVENTS records, the 1-second tick, the minute tick with the work of the
four blocks that act on it (R37 to R57, R121, R135, R167, R168, R178). -/

namespace Sys2Proof.Machine

/-- R56: one more malformed record. -/
def State.countMalformed (s : State) : State :=
  s.modGuideCounters (fun c => { c with malformed := satInc c.malformed })

/-! ### The work of a minute tick -/

/-- R53: the services of a list of current events whose current event is now another, or has another rating. -/
def State.changedCurrent (s : State) (before : List CurrentOf) : List Nat :=
  (before.filter (fun b =>
    decide (b.event ≠ (s.guide.currentEvent b.service).map (fun e => (e.id, e.rating))))).map (·.service)

/-- R53: the members of the contexts of services whose current event changed are evaluated. -/
def State.followCurrent (s : State) (before : List CurrentOf) (cause : GateCause) (deferred : Bool) : State :=
  s.evaluateAll cause deferred (s.membersOfServices (s.changedCurrent before))

/-- An end minute is aged: it lies 60 minutes or more before now-minute `t` (R52, R121). -/
def aged (finish t : Nat) : Bool := finish + 60 ≤ t

/-- R52: aged events leave the pool. -/
def Guide.age (g : Guide) : Guide :=
  match g.nowMinute with
  | none => g
  | some t => { g with pool := g.pool.filter (fun e => !aged e.finish t) }

/-- The outputs that are not IDLE and are bound to one of the listed profiles. -/
def State.tunedOnAny (s : State) (qs : List (Fin 6)) : List (Fin 6) :=
  allOutputs.filter (fun o => qs.contains (s.outCfg o).profile && (s.outs[o]).tune.isSome)

/-- R167: a profile at the start of a budget day. -/
def Profile.newDay (p : Profile) : Profile := { p with minutesUsed := 0, accumulator := 0, warned := false }

/-- R167: a new budget day. A rise of minutes-used that a 1-second tick has made due is kept: taken after this step, it is
the first minute of the new day; taken before it, its minute is cleared here (log entry 3). -/
def State.newBudgetDay (s : State) (deferred : Bool) : State :=
  let reached := allProfiles.filter (fun q => (s.profiles[q]).budgetFails)
  let s1 := { s with profiles := s.profiles.map Profile.newDay }
  s1.evaluateAll .minute deferred (s1.tunedOnAny reached)

/-- R41: the budget date becomes the local date, and the settings become dirty. -/
def State.setBudgetDate (s : State) (d : Int) : State :=
  (s.modGuide (fun g => { g with budgetDate := some d })).markChange

/-- R41: the budget date check. -/
def State.budgetDateCheck (s : State) (deferred : Bool) : State :=
  match s.guide.localDate, s.guide.budgetDate with
  | none, _ => s
  | some d, none => s.setBudgetDate d
  | some d, some b => if b < d then (s.newBudgetDay deferred).setBudgetDate d else s

/-- Guide Tables' own work for a minute tick (R40, R52, R53, R41). -/
def State.guideTick (s : State) (before : List CurrentOf) : State :=
  let s1 := (s.modGuide Guide.age).followCurrent before .minute true
  if s1.part.mounted then s1.budgetDateCheck true else s1

/-- R121 steps 1 and 2: aged owned events and preview entries leave their tables. -/
def AccessUnit.age (a : AccessUnit) (t : Option Nat) : AccessUnit :=
  match t with
  | none => a
  | some t =>
    { previews := a.previews.filter (fun e => !aged e.endMinute t)
      owned := a.owned.filter (fun e => !aged e.endMinute t) }

/-- R135: an outstanding offer is repriced. -/
def State.reprice (s : State) (o : Fin 6) (old : Offer) : State :=
  match s.offeredEvent o with
  | none => s.dropOffer o
  | some e =>
    match s.priceNow e with
    | none => s.dropOffer o
    | some p => if old = ⟨e.event, p⟩ then s else s.makeOffer o e p

/-- R135: the refresh of one output's offer. -/
def State.refreshOffer (s : State) (o : Fin 6) : State :=
  if (s.outs[o]).gate = .closed .purchase then
    match (s.outs[o]).offer with
    | none => s.offerOrNone o
    | some old => s.reprice o old
  else s

/-- R121: the Access Unit's work for a minute tick. The offers are refreshed output by output, ascending, an order R135
leaves open (log entry 33, DESIGN CHOICE). -/
def State.accessTick (s : State) : State :=
  let s1 := { s with access := s.access.age s.guide.nowMinute }
  allOutputs.foldl State.refreshOffer (s1.recomputeAndEvaluate true)

/-- R168: a profile's window result computed afresh at a local minute of day. -/
def Profile.judgeWindow (p : Profile) (m : Option Nat) : Profile := { p with result := windowResult p.window m }

/-- R168: every window result is computed afresh, and the outputs of profiles whose result changed are evaluated. -/
def State.windowTick (s : State) : State :=
  let m := s.guide.minuteOfDay
  let changed := allProfiles.filter (fun q => decide ((s.profiles[q]).result ≠ windowResult (s.profiles[q]).window m))
  let s1 := { s with profiles := s.profiles.map (fun p : Profile => p.judgeWindow m) }
  s1.evaluateAll .minute true (s1.tunedOnAny changed)

/-- One block's work for a minute tick (R40). -/
def State.tickBlock (before : List CurrentOf) (s : State) (b : TickBlock) : State :=
  match b with
  | .guide => s.guideTick before
  | .access => s.accessTick
  | .purse => s.recheckTarget
  | .profiles => s.windowTick

/-- R40, R178: the work of a minute tick in an order of the blocks, then the deferred GATE notices. -/
def State.minuteWork (s : State) (before : List CurrentOf) (order : List TickBlock) : State :=
  (order.foldl (State.tickBlock before) s).deferredNotices

/-- MINUTE_TICK (R40): the work of a minute tick that a 1-second tick raised. -/
def execMinuteTick (order : List TickBlock) (s : State) : Result :=
  if !tickOrderOk order then .refused .illFormed
  else
    match s.ticks.minuteDue with
    | none => .next s
    | some before => done (({ s with ticks := { s.ticks with minuteDue := none } }).minuteWork before order)

/-! ### The 1-second tick (R37, R123, R165) -/

/-- R37: the clock one second on; it stays at FFFFFFFFh. -/
def Guide.second (g : Guide) : Guide := { g with clock := g.clock.map (fun c => min counterMax (c + 1)) }

/-- R37, R40: the clock advances, and a minute tick is raised if now-minute changed. -/
def State.clockSecond (s : State) : State :=
  let s1 := s.modGuide Guide.second
  if s1.guide.nowMinute = s.guide.nowMinute then s1
  else { s1 with ticks := { s1.ticks with minuteDue := s1.ticks.minuteDue.or (some s.currentEvents) } }

/-- R123: the event gains a second at this tick. -/
def State.previewing (s : State) (event : Nat) : Bool :=
  allOutputs.any (fun o => s.inView o &&
    match s.governingOf o with
    | some (_, h) => h.verdict = .preview && h.eventCriteria.any (fun e => e.event = event)
    | none => false)

/-- R124: a half of the event is exhausted at a count of seconds. -/
def Half.exhaustedAt (h : Half) (event seconds : Nat) : Bool :=
  h.verdict = .preview && h.eventCriteria.any (fun e => e.event = event && e.preview * 60 ≤ seconds)

/-- R124: the places of the exhausted halves of an event. -/
def State.exhaustedHalves (s : State) (event seconds : Nat) : List HalfPlace :=
  allHalves.filter (fun l => (s.halfAt l).any (fun h => h.exhaustedAt event seconds))

/-- R122, R123: an entry after one second of viewing. -/
def PreviewEntry.gain (x : PreviewEntry) : PreviewEntry := { x with seconds := min 3600 (x.seconds + 1) }

/-- R123: preview accrual; the events whose halves it exhausts fall due (R124). -/
def State.accrue (s : State) : State :=
  let gained := s.access.previews.map (fun x => if s.previewing x.event then x.gain else x)
  let due := (gained.filter (fun x =>
    s.previewing x.event && !(s.exhaustedHalves x.event x.seconds).isEmpty)).map (·.event)
  { s with
    access := { s.access with previews := gained }
    ticks := { s.ticks with exhaustDue := s.ticks.exhaustDue ++ due.filter (fun e => !s.ticks.exhaustDue.contains e) } }

/-- R165: the outputs bound to a profile that are in view. -/
def State.viewersOn (s : State) (q : Fin 6) : List (Fin 6) := (s.boundTo q).filter s.inView

/-- R165: one profile's metering at a 1-second tick; at 60 seconds its rise of minutes-used falls due. -/
def State.meter (s : State) (q : Fin 6) : State :=
  let viewers := s.viewersOn q
  if viewers.isEmpty then s
  else if (s.profiles[q]).accumulator < 59 then
    s.modProfile q (fun p => { p with accumulator := p.accumulator + 1 })
  else
    { s.modProfile q (fun p => { p with accumulator := 0 }) with
      ticks := { s.ticks with riseDue := s.ticks.riseDue ++ [(q, viewers)] } }

/-- 00_scope.md Time: a whole second of part time has passed since the last 1-second tick. -/
def State.secondDue (s : State) : Bool := s.powerGood && s.ticks.seconds < s.ticks.now / 1000

/-- The effect of a 1-second tick: the clock, preview accrual, metering. -/
def State.secondTick (s : State) : State :=
  allProfiles.foldl State.meter
    (({ s with ticks := { s.ticks with seconds := s.ticks.seconds + 1 } }).clockSecond.accrue)

/-- ONE_SECOND_TICK (R37, R123, R165). -/
def execOneSecondTick (s : State) : Result := if s.secondDue then done s.secondTick else .next s

/-! ### TIME records (R38, R39) -/

/-- R39: a value held to the range of a signed 32-bit value. -/
def clampSigned (v : Int) : Int := max (-2147483648) (min 2147483647 v)

/-- R39: TIME_JUMP when the clock was set and the step is above 300 seconds either way. -/
def State.noteJump (s : State) (clock : Nat) (offset : Int) : State :=
  match s.guide.clock with
  | none => s
  | some c =>
    let step : Int := (clock : Int) - c
    if 300 < step ∨ step < -300 then s.notify (.timeJump (clampSigned step) clock offset) else s

/-- R40: a TIME record raises a minute tick. -/
def Guide.timeTicks (g : Guide) (clock : Nat) (offset : Int) : Bool :=
  match g.clock with
  | none => true
  | some c => c / 60 ≠ clock / 60 || g.offset ≠ offset

/-- R38: a TIME record. -/
def State.timeRecord (s : State) (order : List TickBlock) (clock : Nat) (offset : Int) : State × Outcome :=
  if offset < -720 ∨ 840 < offset then (s.countMalformed, answered .badField)
  else
    let s1 := (s.noteJump clock offset).modGuide (fun g => { g with clock := some clock, offset := offset })
    (if s.guide.timeTicks clock offset then s1.minuteWork s.currentEvents order else s1, accepted 0)

/-- TIME (R38). -/
def execTime (order : List TickBlock) (s : State) : Result :=
  if !tickOrderOk order then .refused .illFormed
  else recordStep s .time (fun _ => true) (fun s f => s.timeRecord order (f.bytes.b4 0) (signedField f.bytes 12 2))

/-! ### SERVICES records (R43 to R46) -/

/-- Insert a map entry in order of service number. -/
def insertEntry (e : MapEntry) : List MapEntry → List MapEntry
  | [] => [e]
  | x :: xs => if e.service < x.service then e :: x :: xs else x :: insertEntry e xs

/-- R44: the stream IDs and scrambled flag of the running contexts of a service follow its entry. -/
def Context.follow (c : Context) (e : MapEntry) : Context :=
  match c.life with
  | .free => c
  | .staged t since =>
    if t.service = e.service then { c with life := .staged { t with streams := e.streams, scrambled := e.scrambled } since }
    else c
  | .active t =>
    if t.service = e.service then { c with life := .active { t with streams := e.streams, scrambled := e.scrambled } }
    else c

/-- R44: every context follows a map entry. -/
def State.contextsFollow (s : State) (e : MapEntry) : State := { s with ctxs := s.ctxs.map (fun c => c.follow e) }

/-- R44: replace the map entry of a service; its section version is kept. -/
def Guide.replaceEntry (g : Guide) (e : MapEntry) : Guide :=
  { g with map := g.map.map (fun x => if x.service = e.service then { e with version := x.version } else x) }

/-- R44: make a map entry; a retained entry of the service is discarded. -/
def Guide.addEntry (g : Guide) (e : MapEntry) : Guide :=
  { g with map := insertEntry e g.map, retained := g.retained.filter (fun x => x.service ≠ e.service) }

/-- R44: an ADD/REPLACE item; none when it fails for lack of room. -/
def State.addService (s : State) (e : MapEntry) : Option State :=
  match s.guide.entry e.service with
  | some _ => some ((s.modGuide (fun g => g.replaceEntry e)).contextsFollow e)
  | none =>
    if s.guide.map.length < 512 then some ((s.modGuide (fun g => g.addEntry e)).contextsFollow e) else none

/-- R45: a removed entry becomes the retained entry of a service with running contexts. -/
def Guide.removeEntry (g : Guide) (e : MapEntry) (retain : Bool) : Guide :=
  { g with
    map := g.map.filter (fun x => x.service ≠ e.service)
    pool := g.pool.filter (fun x => x.service ≠ e.service)
    retained := if retain then g.retained ++ [{ e with version := none }] else g.retained }

/-- One applied item: the state after it, and the service it touched (R46). -/
def State.applyItem (s : State) (it : ServiceItem) : Option (State × Option Nat) :=
  match it with
  | .add e => (s.addService e).map (fun t => (t, some e.service))
  | .remove svc =>
    match s.guide.entry svc with
    | none => some (s, none)
    | some e => some (s.modGuide (fun g => g.removeEntry e (s.serviceRunning svc)), some svc)
  | .unknown _ => some (s, none)

/-- What the application of a record's items leaves: the state, the touched services, the number of items applied, and
whether all were (R43). -/
structure Applied where
  state : State
  touched : List Nat
  count : Nat
  all : Bool

/-- R43: items are applied in order, up to the first that fails. -/
def State.applyItems (s : State) : List ServiceItem → Applied
  | [] => ⟨s, [], 0, true⟩
  | it :: rest =>
    match s.applyItem it with
    | none => ⟨s, [], 0, false⟩
    | some (t, svc) =>
      let a := t.applyItems rest
      { a with touched := svc.toList ++ a.touched, count := a.count + 1 }

/-- R43, R46: a SERVICES record. -/
def State.servicesRecord (s : State) (version : Nat) (items : List ServiceItem) : State × Outcome :=
  if !items.all ServiceItem.ok then (s.countMalformed, answered .badField)
  else
    let a := s.applyItems items
    let s1 := a.state.modGuide (fun g => { g with lastVersion := some version })
    (s1.evaluateAll .map false (s1.membersOfServices a.touched),
      ⟨if a.all then .accepted else .tableFull, version * 65536 + a.count * 256⟩)

/-- SERVICES (R43). -/
def execServices (s : State) : Result :=
  recordStep s .services (fun _ => true) (fun s f => s.servicesRecord (f.bytes.b2 0) f.bytes.serviceItems)

/-! ### EVENTS records (R49 to R55) -/

/-- R49: the checks of an EVENTS record; a refused record's counter is raised. -/
def State.eventsCheck (s : State) (r : Record) : Option (State × Outcome) :=
  if r.sectionCrc ≠ crc32 r.sectionBytes then
    some (s.modGuideCounters (fun c => { c with crcFailed := satInc c.crcFailed }), answered .badCheck)
  else if r.b2 0 < 1 ∨ 9999 < r.b2 0 ∨ 31 < r.b1 2 ∨ !r.sectionEvents.all SectionEvent.ok then
    some (s.countMalformed, answered .badField)
  else
    match s.guide.entry (r.b2 0) with
    | none => some (s.countMalformed, answered .unknownService)
    | some e =>
      if e.version = some (r.b1 2) then
        some (s.modGuideCounters (fun c => { c with stale := satInc c.stale }), answered .stale)
      else none

/-- Two events share a minute (R47). -/
def GuideEvent.overlaps (a b : GuideEvent) : Bool := a.start < b.finish && b.start < a.finish

/-- R50 step 2: a stored event gives way to an incoming one. -/
def GuideEvent.yields (x e : GuideEvent) : Bool := x.service = e.service && (x.overlaps e || x.id = e.id)

/-- Insert an event in order of service and start. -/
def insertEvent (e : GuideEvent) : List GuideEvent → List GuideEvent
  | [] => [e]
  | x :: xs =>
    if e.service < x.service ∨ (e.service = x.service ∧ e.start < x.start) then e :: x :: xs
    else x :: insertEvent e xs

/-- R51: the stored event with the latest start; of equal ones that of the lowest service number. -/
def latestStart : List GuideEvent → Option GuideEvent
  | [] => none
  | e :: rest =>
    match latestStart rest with
    | none => some e
    | some b => if e.start < b.start ∨ (e.start = b.start ∧ b.service < e.service) then some b else some e

/-- The application of an EVENTS record in progress: Guide Tables, and the record's events still in the pool (R55). -/
structure Storing where
  guide : Guide
  kept : List GuideEvent
  deriving DecidableEq, Repr

/-- R50, R51: an incoming event is dropped. -/
def Storing.drop (w : Storing) : Storing :=
  { w with guide := { w.guide with counters := { w.guide.counters with dropped := satInc w.guide.counters.dropped } } }

/-- R50: the events an incoming event removes leave the pool. -/
def Storing.clearFor (w : Storing) (e : GuideEvent) : Storing :=
  ⟨{ w.guide with pool := w.guide.pool.filter (fun x => !x.yields e) }, w.kept.filter (fun x => !x.yields e)⟩

/-- R50: an event joins the pool. -/
def Storing.insert (w : Storing) (e : GuideEvent) : Storing :=
  ⟨{ w.guide with pool := insertEvent e w.guide.pool }, w.kept ++ [e]⟩

/-- R51: a stored event is evicted. -/
def Storing.evict (w : Storing) (x : GuideEvent) : Storing :=
  ⟨{ w.guide with
      pool := w.guide.pool.filter (· ≠ x)
      counters := { w.guide.counters with evicted := satInc w.guide.counters.evicted } }, w.kept.filter (· ≠ x)⟩

/-- R51: an incoming event meets a full pool. -/
def Storing.squeeze (w : Storing) (e : GuideEvent) : Storing :=
  match latestStart w.guide.pool with
  | none => w.drop
  | some x => if e.start < x.start then (w.evict x).insert e else w.drop

/-- R47: the size of the pool. -/
def poolSize : Nat := 4096

/-- R50: the application of one event. -/
def Storing.store (w : Storing) (e : GuideEvent) : Storing :=
  if w.guide.nowMinute.any (aged e.finish) then w.drop
  else
    let v := w.clearFor e
    if v.guide.pool.length < poolSize then v.insert e else v.squeeze e

/-- R50: the section version of a service. -/
def Guide.setVersion (g : Guide) (svc version : Nat) : Guide :=
  { g with map := g.map.map (fun x => if x.service = svc then { x with version := some version } else x) }

/-- R50: the events of a record are applied in order, and the section version follows. -/
def Guide.storeSection (g : Guide) (svc version : Nat) (es : List GuideEvent) : Storing :=
  let w := es.foldl Storing.store ⟨g, []⟩
  { w with guide := w.guide.setVersion svc version }

/-- R54: the mask text at a title's length, filled with spaces. -/
def maskedTitle (text : List Byte) (n : Nat) : List Byte := text.take n ++ List.replicate (n - text.length) 0x20

/-- R54: an event's title is masked with at least one byte. -/
def SectionEvent.masked (e : SectionEvent) (ceiling : Nat) : Bool := !atMost ceiling e.event.rating && 0 < e.titleLength

/-- Bytes written over a byte string from an offset. -/
def overwrite (bs : List Byte) (at' : Nat) (new : List Byte) : List Byte :=
  bs.take at' ++ new ++ bs.drop (at' + new.length)

/-- R54, R55: the own writes of masked titles, and of the section CRC over the masked body. -/
def State.maskWrites (s : State) (f : Fetched) (es : List SectionEvent) : List OwnReq :=
  let hit := es.filter (fun e => e.masked s.rights.mask)
  let text := fun e : SectionEvent => maskedTitle s.cfg.maskText e.titleLength
  let body := hit.foldl (fun bs e => overwrite bs e.titleAt (text e)) f.bytes
  if hit.isEmpty then []
  else
    hit.map (fun e => s.slotWrite f.slot (.title f.slot) e.titleAt (text e)) ++
      [s.slotWrite f.slot (.crc f.slot) (8 + f.bytes.bodyLength - 4) (beBytes 4 (crc32 (Record.sectionBytes body)))]

/-- R50, R53, R54, R55: an EVENTS record that passed its checks. -/
def State.applyEvents (s : State) (f : Fetched) : State × Outcome :=
  let es := f.bytes.sectionEvents
  let w := s.guide.storeSection (f.bytes.b2 0) (f.bytes.b1 2) (es.map (·.event))
  let s1 := ({ s with guide := w.guide }).modGuideCounters (fun c => { c with accepted := satInc c.accepted })
  ((s1.issueFor f (s1.maskWrites f es)).followCurrent s.currentEvents .guide false, accepted w.kept.length)

/-- R49: an EVENTS record. -/
def State.eventsRecord (s : State) (f : Fetched) : State × Outcome :=
  match s.eventsCheck f.bytes with
  | some r => r
  | none => s.applyEvents f

/-- EVENTS (R49 to R55). -/
def execEvents (s : State) : Result := recordStep s .events (fun _ => true) (fun s f => s.eventsRecord f)

end Sys2Proof.Machine
end

