-- ==== Sys2Proof/Machine/Profiles.lean ====
section
/-! DEFINITION. The Profile Table: PIN comparisons and lockout (R155, R156), PIN and PROFILE records (R157 to R162), the
end of a PERIOD unlock (R164), the rise of minutes-used (R165, R166). -/

namespace Sys2Proof.Machine

/-- The output a record names: above 5 is BAD_FIELD, a disabled one NOT_BOUND (R130, R157). -/
def State.namedOutput (s : State) (n : Nat) : Except Code (Fin 6) :=
  match outputOf n with
  | none => .error .badField
  | some o => if (s.outCfg o).enabled then .ok o else .error .notBound

/-- The profile an output is bound to (R153). -/
def State.profileOf (s : State) (o : Fin 6) : Fin 6 := (s.outCfg o).profile

/-! ### PIN comparisons (R155) -/

/-- R155: the length of a lockout in milliseconds. -/
def lockoutLength : Nat := 900000

/-- The kind codes that a LOCKOUT notice gives (R155, R193). -/
def buyCode : Nat := 4
/-- The kind code of a PIN record. -/
def pinCode : Nat := 5
/-- The kind code of a PROFILE record. -/
def profileCode : Nat := 6

/-- R155: a match: the failure count becomes 0; a change of it marks the settings. -/
def State.pinMatched (s : State) (q : Fin 6) : State :=
  if (s.profiles[q]).failures = 0 then s
  else (s.modProfile q (fun p => { p with failures := 0 })).markChange

/-- R155: the fifth failure starts a lockout and issues LOCKOUT. -/
def State.lockOut (s : State) (q : Fin 6) (kind : Nat) (o : Option Nat) : State :=
  (s.modProfile q (fun p => { p with lockoutEnd := some (s.ticks.now + lockoutLength) })).notify
    (.lockout q.val kind o (s.ticks.now + lockoutLength))

/-- R155: a mismatch: the failure count rises, and the fifth failure locks the profile. -/
def State.pinFailed (s : State) (q : Fin 6) (kind : Nat) (o : Option Nat) : State × Outcome :=
  let n := min 5 ((s.profiles[q]).failures + 1)
  let s1 := (s.modProfile q (fun p => { p with failures := n })).markChange
  (if n = 5 then s1.lockOut q kind o else s1, ⟨.pinWrong, n⟩)

/-- R155: a PIN comparison against profile `q`: the state after it, and the outcome of a record that does not pass. -/
def State.comparePin (s : State) (q : Fin 6) (pin : List Byte) (kind : Nat) (o : Option Nat) :
    State × Option Outcome :=
  match (s.profiles[q]).lockoutEnd with
  | some e => (s, some ⟨.lockedOut, secondsUntil s.ticks.now e⟩)
  | none =>
    if pinOf pin = some (s.profiles[q]).pin then (s.pinMatched q, none)
    else ((s.pinFailed q kind o).1, some (s.pinFailed q kind o).2)

/-- What a record does once its PIN comparison passes; a failed comparison answers it. -/
def afterPin (r : State × Option Outcome) (go : State → State × Outcome) : State × Outcome :=
  match r.2 with
  | some out => (r.1, out)
  | none => go r.1

/-! ### PIN records (R157 to R160) -/

/-- An output's gate is evaluated if it is not IDLE. -/
def State.evaluateTuned (s : State) (cause : GateCause) (o : Fin 6) : State :=
  match (s.outs[o]).tune with
  | none => s
  | some _ => s.evaluate cause false o

/-- R157 check 4: the record's PIN against the profile bound to the output. -/
def State.comparePinRecord (s : State) (o : Fin 6) (op : PinOp) : State × Option Outcome :=
  s.comparePin (s.profileOf o) op.pin pinCode (some o.val)

/-- R158: an EVENT unlock is set. -/
def State.unlockEvent (s : State) (o : Fin 6) (e : Nat) : State × Outcome :=
  ((s.modOut o (fun x => { x with eventUnlock := some e })).evaluate .unlock false o, accepted e)

/-- R159: a PERIOD unlock is set. -/
def State.unlockPeriod (s : State) (o : Fin 6) (m : Nat) : State × Outcome :=
  ((s.modOut o (fun x => { x with periodUnlock := some (s.ticks.now + m * 60000) })).evaluateTuned .unlock o, accepted m)

/-- R160: a profile's PIN is replaced. -/
def State.changePin (s : State) (q : Fin 6) (pin : List Nat) : State × Outcome :=
  ((s.modProfile q (fun p => { p with pin := pin })).markChange, accepted 0)

/-- R157, R158: a PIN record with action UNLOCK_EVENT, or with none of the three actions. -/
def State.pinUnlockEvent (s : State) (op : PinOp) : State × Outcome :=
  match s.namedOutput op.output with
  | .error c => (s, answered c)
  | .ok o =>
    if op.action ≠ 1 then (s, answered .badField)
    else
      match s.presentEvent o with
      | none => (s, answered .badField)
      | some e => afterPin (s.comparePinRecord o op) (fun t => t.unlockEvent o e)

/-- R157, R159: a PIN record with action UNLOCK_PERIOD, or with none of the three actions. -/
def State.pinUnlockPeriod (s : State) (op : PinOp) : State × Outcome :=
  match s.namedOutput op.output with
  | .error c => (s, answered c)
  | .ok o =>
    if op.action ≠ 2 ∨ op.minutes < 1 ∨ 240 < op.minutes then (s, answered .badField)
    else afterPin (s.comparePinRecord o op) (fun t => t.unlockPeriod o op.minutes)

/-- R157, R160: a PIN record with action CHANGE, or with none of the three actions. -/
def State.pinChange (s : State) (op : PinOp) : State × Outcome :=
  match s.namedOutput op.output with
  | .error c => (s, answered c)
  | .ok o =>
    if op.action ≠ 3 then (s, answered .badField)
    else
      match pinOf op.newPin with
      | none => (s, answered .badField)
      | some pin => afterPin (s.comparePinRecord o op) (fun t => t.changePin (t.profileOf o) pin)

/-- PIN_UNLOCK_EVENT (R157, R158). -/
def execPinUnlockEvent (s : State) : Result :=
  recordStep s .pin (actionIs 1 [1, 2, 3] 1) (fun s f => s.pinUnlockEvent f.bytes.pinOp)

/-- PIN_UNLOCK_PERIOD (R157, R159). -/
def execPinUnlockPeriod (s : State) : Result :=
  recordStep s .pin (actionIs 2 [1, 2, 3] 1) (fun s f => s.pinUnlockPeriod f.bytes.pinOp)

/-- PIN_CHANGE (R157, R160). -/
def execPinChange (s : State) : Result :=
  recordStep s .pin (actionIs 3 [1, 2, 3] 1) (fun s f => s.pinChange f.bytes.pinOp)

/-! ### PROFILE records (R161, R162) -/

/-- The mask bit of a PROFILE field (R193). -/
def ProfileOp.names (op : ProfileOp) (b : Nat) : Bool := op.mask.getLsbD b

/-- R161 check 1: the mask sets no bit that names no field. -/
def ProfileOp.maskOk (op : ProfileOp) : Bool := !op.names 6 && !op.names 7

/-- R161 check 2: an allowed window that is to be set. -/
def ProfileOp.windowOk (op : ProfileOp) : Bool :=
  op.windowStart ≤ 1439 && op.windowEnd ≤ 1439 && op.windowStart ≠ op.windowEnd

/-- R161 check 2: every present field lies in its range. -/
def ProfileOp.fieldsOk (op : ProfileOp) : Bool :=
  (!op.names 0 || op.ceiling ≤ 15) && (!op.names 2 || !op.flags.getLsbD 2 || op.windowOk) &&
    (!op.names 3 || !op.flags.getLsbD 3 || op.budget ≤ 1440) && (!op.names 5 || (pinOf op.newPin).isSome)

/-- R162 steps 1 and 2: every present field is stored; a new PIN ends failures and lockout, a budget clears the warning. -/
def Profile.edit (p : Profile) (op : ProfileOp) : Profile :=
  { p with
    ceiling := if op.names 0 then op.ceiling else p.ceiling
    blockUnknown := if op.names 1 then op.flags.getLsbD 0 else p.blockUnknown
    window := if op.names 2 then (if op.flags.getLsbD 2 then some (op.windowStart, op.windowEnd) else none) else p.window
    budget := if op.names 3 then (if op.flags.getLsbD 3 then some op.budget else none) else p.budget
    purchasePin := if op.names 4 then op.flags.getLsbD 1 else p.purchasePin
    pin := if op.names 5 then (pinOf op.newPin).getD p.pin else p.pin
    failures := if op.names 5 then 0 else p.failures
    lockoutEnd := if op.names 5 then none else p.lockoutEnd
    warned := if op.names 3 then false else p.warned }

/-- R162 steps 1 to 3: the edit, and the window result if the window was present. -/
def Profile.apply (p : Profile) (op : ProfileOp) (m : Option Nat) : Profile :=
  if op.names 2 then (p.edit op).judgeWindow m else p.edit op

/-- R162: a PROFILE record that passed its checks. -/
def State.editProfile (s : State) (q : Fin 6) (op : ProfileOp) : State × Outcome :=
  let s1 := (s.modProfile q (fun p => p.apply op s.guide.minuteOfDay)).markChange
  (s1.evaluateAll .profile false (s1.tunedOn q), accepted 0)

/-- R161: a PROFILE record. -/
def State.profileRecord (s : State) (op : ProfileOp) : State × Outcome :=
  match outputOf op.target with
  | none => (s, answered .badField)
  | some q =>
    if !op.maskOk || !op.fieldsOk then (s, answered .badField)
    else afterPin (s.comparePin 0 op.master profileCode none) (fun t => t.editProfile q op)

/-- PROFILE (R161, R162). -/
def execProfile (s : State) : Result :=
  recordStep s .profile (fun _ => true) (fun s f => s.profileRecord f.bytes.profileOp)

/-! ### Timers (R156, R164) -/

/-- R156: the lockout timer of a profile has run out. -/
def State.lockoutDue (s : State) (q : Fin 6) : Bool :=
  match (s.profiles[q]).lockoutEnd with
  | none => false
  | some e => s.running && e ≤ s.ticks.now

/-- R156: a lockout ends. -/
def State.endLockout (s : State) (q : Fin 6) : State :=
  (s.modProfile q (fun p => { p with lockoutEnd := none, failures := 0 })).markChange

/-- LOCKOUT_TIMER_EXPIRY (R156). -/
def execLockoutTimerExpiry (q : Fin 6) (s : State) : Result :=
  if s.lockoutDue q then done (s.endLockout q) else .next s

/-- R164: the PERIOD unlock timer of an output has run out. -/
def State.unlockDue (s : State) (o : Fin 6) : Bool :=
  match (s.outs[o]).periodUnlock with
  | none => false
  | some e => s.running && e ≤ s.ticks.now

/-- R164: a PERIOD unlock ends. -/
def State.endUnlock (s : State) (o : Fin 6) : State :=
  (s.modOut o (fun x => { x with periodUnlock := none })).evaluateTuned .unlock o

/-- PERIOD_UNLOCK_EXPIRY (R164). -/
def execPeriodUnlockExpiry (o : Fin 6) (s : State) : Result :=
  if s.unlockDue o then done (s.endUnlock o) else .next s

/-! ### The rise of minutes-used (R165, R166) -/

/-- R166: the warning is due. -/
def Profile.warns (p : Profile) : Bool :=
  match p.budget with
  | none => false
  | some b => 0 < b && !p.warned && b ≤ p.minutesUsed + 5

/-- The BUDGET_WARN notice of a profile (R166). -/
def State.warnNotice (s : State) (q : Fin 6) (viewers : List (Fin 6)) : Notice :=
  let p := s.profiles[q]
  .budgetWarn q.val (allOutputs.map viewers.contains) p.minutesUsed (p.budget.getD 0) (p.budget.getD 0 - p.minutesUsed)

/-- R166 test 1. -/
def State.warn (s : State) (q : Fin 6) (viewers : List (Fin 6)) : State :=
  if (s.profiles[q]).warns then
    (s.notify (s.warnNotice q viewers)).modProfile q (fun p => { p with warned := true })
  else s

/-- R166 test 2. -/
def State.budgetReached (s : State) (q : Fin 6) : State :=
  if (s.profiles[q]).budget = some (s.profiles[q]).minutesUsed then s.evaluateAll .budget false (s.tunedOn q) else s

/-- R165, R166: minutes-used rises unless it is already 1,440, and the two tests follow a rise. -/
def State.rise (s : State) (q : Fin 6) (viewers : List (Fin 6)) : State :=
  if (s.profiles[q]).minutesUsed < 1440 then
    ((((s.modProfile q (fun p => { p with minutesUsed := p.minutesUsed + 1 })).markMetering).warn q viewers).budgetReached q)
  else s

/-- The first rise of a profile that a 1-second tick has made due. -/
def State.dueRise (s : State) (q : Fin 6) : Option (Fin 6 × List (Fin 6)) := s.ticks.riseDue.find? (fun d => d.1 = q)

/-- MINUTES_USED_RISE (R165, R166). -/
def execMinutesUsedRise (q : Fin 6) (s : State) : Result :=
  match s.dueRise q with
  | none => .next s
  | some d => done (({ s with ticks := { s.ticks with riseDue := s.ticks.riseDue.erase d } }).rise q d.2)

end Sys2Proof.Machine
end

