-- ==== Sys2Proof/Machine/Journal.lean ====
section
/-! DEFINITION. The Purse and Journal and the settings store: the append and the journal question (R140, R141, R106), the
completions of flash operations (R142, R145, R149), the metering pace and the flash inhibit (R148, R136), the mount
(R127, R150 to R152, R189). -/

namespace Sys2Proof.Machine

/-! ### The append (R140) -/

/-- R140 steps 1 and 2, as if `k` appends had been made before: the code an append fails with. -/
def Purse.appendFails (p : Purse) (k : Nat) : Option Code :=
  let place := (p.writePos + k) % 1024
  if 8 ≤ p.queue.length + k then some .journalBusy
  else if (place % 128 = 0 && !p.erased[sectorOf place]) || p.newest + k = counterMax then some .journalFull
  else none

/-- R103: a TOPUP or COLLECT record raises the floor of its address kind to its rights sequence. A good record whose
address kind field is neither 0 nor 1, of which the spec says nothing, raises the GROUP floor (log entry 31, DESIGN
CHOICE). -/
def Purse.raiseFloor (p : Purse) (r : JournalRecord) : Purse :=
  if r.endMinute = 0 then { p with floorUnit := max p.floorUnit r.event }
  else { p with floorGroup := max p.floorGroup r.event }

/-- R103, R143, R151: what a record that joins the list raises: floors and watermark. -/
def Purse.raise (p : Purse) (r : JournalRecord) : Purse :=
  match r.kind with
  | .purchase => p
  | .topup => p.raiseFloor r
  | .collect => { p.raiseFloor r with watermark := max p.watermark r.upTo }

/-- R140 step 3: a record joins list and queue at the write position. -/
def Purse.join (p : Purse) (r : JournalRecord) : Purse :=
  ({ p with
      list := p.list ++ [r]
      queue := p.queue ++ [r]
      erased := if p.writePos % 128 = 0 then p.erased.set (sectorOf p.writePos) false else p.erased
      writePos := nextPlace p.writePos
      balance := r.balanceAfter }).raise r

/-- What the asker of an append gives (R132, R109, R111). -/
structure Entry where
  kind : JournalKind
  amount : Int
  event : Nat
  endMinute : Nat
  output : Option Nat
  upTo : Nat
  deriving DecidableEq, Repr

/-- The journal record of an append (R138). -/
def State.journalRecord (s : State) (e : Entry) : JournalRecord where
  seq := s.purse.newest + 1
  kind := e.kind
  amount := e.amount
  balanceAfter := s.purse.balance + e.amount
  event := e.event
  endMinute := e.endMinute
  clock := s.guide.clock.getD 0
  output := e.output
  upTo := e.upTo
  place := s.purse.writePos

/-- R140: the target is found again when the write position has moved into another sector. -/
def State.followPosition (s : State) (old : Nat) : State :=
  if sectorOf s.purse.writePos = sectorOf old then s else s.retarget

/-- R143: a COLLECT append repeats the target's check. -/
def State.followCollect (s : State) (k : JournalKind) : State :=
  match k with
  | .collect => s.recheckTarget
  | .purchase | .topup => s

/-- R140 step 3, R141, R143: an append that the journal's rule allows. -/
def State.append (s : State) (e : Entry) : State :=
  let r := s.journalRecord e
  (((s.modPurse (fun p => p.join r)).followPosition s.purse.writePos).followCollect e.kind).notify (.journal r)

/-! ### Completions of flash operations -/

/-- The port is free again. -/
def State.freeFlash (s : State) : State := { s with flashPort := { s.flashPort with op := none } }

/-- R142: a page program completes: the place holds the record, which leaves the queue. -/
def State.programmed (s : State) (r : JournalRecord) : State :=
  ((s.freeFlash).flashWrite (placeAddr r.place) r.bytes).modPurse (fun p => { p with queue := p.queue.tail })

/-- PAGE_PROGRAM_COMPLETE (R142). -/
def execPageProgramComplete (s : State) : Result :=
  match s.flashPort.op with
  | some (.program r) => done (s.programmed r)
  | some .imageRead | some .settingsRead | some .journalRead | some (.erase _) | some .rewriteErase
  | some (.rewritePage _) | none => .next s

/-- R145: the erased flag is set and the sector's records leave the list. -/
def Purse.eraseDone (p : Purse) (k : Fin 8) : Purse :=
  { p with erased := p.erased.set k true, list := p.list.filter (fun r => sectorOf r.place ≠ k) }

/-- R145: an erase-ahead erase completes. -/
def State.erasedSector (s : State) (k : Fin 8) : State :=
  (((s.freeFlash).flashErase (k.val + 2)).modPurse (fun p => p.eraseDone k)).retarget

/-- ERASE_COMPLETE (R145). -/
def execEraseComplete (s : State) : Result :=
  match s.flashPort.op with
  | some (.erase k) => done (s.erasedSector k)
  | some .imageRead | some .settingsRead | some .journalRead | some (.program _) | some .rewriteErase
  | some (.rewritePage _) | none => .next s

/-- The 256 bytes of a snapshot page. -/
def Rewrite.page (w : Rewrite) (p : Fin 4) : List Byte := slice w.snapshot (256 * p.val) 256

/-- The flash address of a page of the settings sector. -/
def settingsPage (p : Fin 4) : Nat := 0x1000 + 256 * p.val

/-- R149: a page of the rewrite is programmed; after page 3 the rewrite has ended. -/
def State.pageWritten (s : State) (p : Fin 4) : State :=
  match s.settings.rewrite with
  | none => s.freeFlash
  | some w =>
    let s1 := (s.freeFlash).flashWrite (settingsPage p) (w.page p)
    if p = 3 then { s1 with settings := { s1.settings with rewrite := none } } else s1

/-- SETTINGS_REWRITE_STEP_COMPLETE (R149). -/
def execSettingsRewriteStepComplete (s : State) : Result :=
  match s.flashPort.op with
  | some .rewriteErase => done ((s.freeFlash).flashErase 1)
  | some (.rewritePage p) => done (s.pageWritten p)
  | some .imageRead | some .settingsRead | some .journalRead | some (.program _) | some (.erase _) | none => .next s

/-- R148: the metering pace has passed, and with the port free the arbiter has its choice. -/
def State.paceElapsed (s : State) : Bool :=
  s.flashFree && s.settings.dirty = .metering && s.settings.rewrite.isNone &&
    s.settings.lastStart + 900000 ≤ s.ticks.now

/-- METERING_PACE_ELAPSED (R148): the arbiter chooses again. -/
def execMeteringPaceElapsed (s : State) : Result := if s.paceElapsed then done s else .next s

/-- R136: 100 ms of part time have passed since power-good. -/
def State.inhibitEnds (s : State) : Bool := s.powerGood && s.flashPort.inhibited && 100 ≤ s.ticks.now

/-- FLASH_INHIBIT_END (R136). -/
def execFlashInhibitEnd (s : State) : Result :=
  if s.inhibitEnds then done { s with flashPort := { s.flashPort with inhibited := false } } else .next s

/-! ### The settings mount (R150, R154) -/

/-- R154: a profile with its factory settings and a default PIN. -/
def FactoryProfile.profile (f : FactoryProfile) (pin : List Nat) : Profile :=
  ⟨f.ceiling, f.blockUnknown, f.window, f.budget, 0, 0, pin, f.purchasePin, 0, Option.none, false, .pass⟩

/-- R150: a profile with the locked defaults. -/
def lockedProfile (pin : List Nat) : Profile := ⟨0, true, none, some 0, 0, 0, pin, true, 0, none, false, .pass⟩

/-- R101: the rights table with no rights, an overdraft limit, and the factory region code and mask ceiling. -/
def Image.emptyRights (i : Image) (overdraft : Nat) : Rights :=
  ⟨0, 0, Vector.replicate 64 Option.none, i.factoryRegion, overdraft, i.factoryMask⟩

/-- R101: the factory rights defaults. -/
def Image.factoryRights (i : Image) : Rights := i.emptyRights i.factoryOverdraft

/-- R154: the factory settings of every profile. -/
def Image.profiles (i : Image) : Vector Profile 6 :=
  i.factoryProfiles.map (fun f : FactoryProfile => f.profile i.defaultPin)

/-- R150: a blank settings sector: the factory defaults. -/
def State.settingsBlank (s : State) : State :=
  { s with rights := s.cfg.factoryRights, profiles := s.cfg.profiles, guide := { s.guide with budgetDate := none } }

/-- R150: a good settings sector: the snapshot is loaded. -/
def State.settingsLoaded (s : State) (b : List Byte) : State :=
  { s with
    rights := settingsRights b
    profiles := Vector.ofFn (fun q => settingsProfile b s.ticks.now q.val)
    guide := { s.guide with budgetDate := settingsBudgetDate b } }

/-- R150: a corrupt settings sector: the locked defaults, SETTINGS_LOST, CHANGE. -/
def State.settingsCorrupt (s : State) : State :=
  ({ s with
      rights := s.cfg.emptyRights 0
      profiles := Vector.replicate 6 (lockedProfile s.cfg.defaultPin)
      guide := { s.guide with budgetDate := none } }.notify .settingsLost).markChange

/-- R150: the settings sector reads all FFh. -/
def State.settingsIsBlank (s : State) : Bool := Memory.blank flashDefault s.flash 0x1000 4096

/-- R150: what the settings sector holds, handed to the owning blocks. -/
def State.settingsMount (s : State) : State :=
  if s.settingsIsBlank then s.settingsBlank
  else if settingsGood (s.flashRead 0x1000 1024) then s.settingsLoaded (s.flashRead 0x1000 1024)
  else s.settingsCorrupt

/-- R168: the window results are computed afresh at the hand-over of the settings mount. -/
def State.judgeWindows (s : State) : State :=
  { s with profiles := s.profiles.map (fun p : Profile => p.judgeWindow s.guide.minuteOfDay) }

/-- SETTINGS_READ_COMPLETE (R150): the settings mount hands on to the journal mount. -/
def execSettingsReadComplete (s : State) : Result :=
  match s.flashPort.op with
  | some .settingsRead =>
    done ({ s.settingsMount.judgeWindows with flashPort := { s.flashPort with op := some .journalRead } })
  | some .imageRead | some .journalRead | some (.program _) | some (.erase _) | some .rewriteErase
  | some (.rewritePage _) | none => .next s

/-! ### The journal mount (R151, R152) -/

/-- The 32 bytes at a place. -/
def State.placeBytes (s : State) (place : Nat) : List Byte := s.flashRead (placeAddr place) 32

/-- R138: a place is free. -/
def State.placeFree (s : State) (place : Nat) : Bool := Memory.blank flashDefault s.flash (placeAddr place) 32

/-- R151: a good record joins the list in ascending sequence; a second one with the same sequence does not. -/
def insertRecord (r : JournalRecord) : List JournalRecord → List JournalRecord
  | [] => [r]
  | x :: xs =>
    if r.seq = x.seq then x :: xs else if r.seq < x.seq then r :: x :: xs else x :: insertRecord r xs

/-- R151: the good records of sectors 2 to 9, in the order they are read. -/
def State.goodRecords (s : State) : List JournalRecord :=
  (List.range 1024).filterMap (fun place => journalRecordOf (s.placeBytes place) place)

/-- R152: the write position after the newest record's place: the first free place after it in its sector, or slot 0 of
the next sector. -/
def State.positionAfter (s : State) (n : Nat) : Nat :=
  match ((List.range (127 - n % 128)).map (fun k => n + 1 + k)).find? s.placeFree with
  | some place => place
  | none => (n / 128 + 1) * 128 % 1024

/-- R151, R152: the journal state rebuilt from flash, before the target is found. -/
def State.mountedPurse (s : State) : Purse :=
  let list := s.goodRecords.foldl (fun l r => insertRecord r l) []
  let base : Purse :=
    { balance := match list.getLast? with
        | none => 0
        | some r => r.balanceAfter
      list := list
      writePos := match list.getLast? with
        | none => 0
        | some r => s.positionAfter r.place
      erased := Vector.ofFn (fun k : Fin 8 => Memory.blank flashDefault s.flash ((k.val + 2) * 4096) 4096)
      queue := []
      watermark := 0
      target := none
      floorUnit := 0
      floorGroup := 0 }
  list.foldl Purse.raise base

/-! ### Owned events rebuilt (R127) -/

/-- R127: a PURCHASE record is taken back. -/
def State.takesBack (s : State) (r : JournalRecord) : Bool :=
  match r.kind with
  | .topup | .collect => false
  | .purchase =>
    match s.guide.nowMinute with
    | none => true
    | some t => t < r.endMinute + 60

/-- R127: of several records of an event the one with the highest sequence is taken: the last in the list. -/
def lastPerEvent : List JournalRecord → List JournalRecord
  | [] => []
  | r :: rest => if rest.any (fun x => x.event = r.event) then lastPerEvent rest else r :: lastPerEvent rest

/-- R127: `y` is kept before `x`: its end is later, or equal with the higher sequence. -/
def JournalRecord.outranks (y x : JournalRecord) : Bool :=
  x.endMinute < y.endMinute || (x.endMinute = y.endMinute && x.seq < y.seq)

/-- R126: the size of the owned-events table. -/
def ownedSize : Nat := 64

/-- R127: the owned-events table rebuilt from the journal list. -/
def State.rebuiltOwned (s : State) : List OwnedEntry :=
  let rs := lastPerEvent (s.purse.list.filter s.takesBack)
  (rs.filter (fun x => (rs.filter (fun y => y.outranks x)).length < ownedSize)).map
    (fun r => ⟨r.event, r.endMinute, r.seq⟩)

/-! ### Mount complete (R152, R189) -/

/-- The READY notice (R189). -/
def State.readyNotice (s : State) (linkReset : Bool) : Notice :=
  .ready linkReset s.cfg.version s.cfg.unitId s.purse.balance s.purse.newest

/-- R185: the statistics timer starts from the present part time if the period is above 0. -/
def State.startStatistics (s : State) : State :=
  if s.cfg.statPeriod = 0 then s
  else s.modWriter (fun w => { w with statsEnd := some (s.ticks.now + s.cfg.statPeriod * 1000) })

/-- R189, R41: ACTIVE, the statistics timer, READY, and the one budget date check. -/
def State.mountComplete (s : State) : State :=
  let s1 := ({ s with part := .active }).startStatistics
  (s1.notify (s1.readyNotice false)).budgetDateCheck true

/-- R151, R152: the journal mount. -/
def State.journalMount (s : State) : State :=
  let s1 := ({ s.freeFlash with purse := s.mountedPurse }).retarget
  ({ s1 with access := { s1.access with owned := s1.rebuiltOwned } }).mountComplete

/-- JOURNAL_MOUNT (R151, R152, R189). -/
def execJournalMount (s : State) : Result :=
  match s.flashPort.op with
  | some .journalRead => done s.journalMount
  | some .imageRead | some .settingsRead | some (.program _) | some (.erase _) | some .rewriteErase
  | some (.rewritePage _) | none => .next s

end Sys2Proof.Machine
end

