-- ==== Sys2Proof/Machine/Access.lean ====
section
/-! DEFINITION. The Access Unit's PREVIEW_EXHAUSTION (R124) and BUY records (R130 to R132), and the Rights Table's RIGHTS
records (R104 to R115). -/

namespace Sys2Proof.Machine

/-! ### Preview exhaustion (R124) -/

/-- R124: the governing half of context `c` is among the listed places. -/
def State.governedBy (s : State) (c : Fin 8) (ls : List HalfPlace) : Bool :=
  (s.ctxs[c]).governing.any (fun g => ls.contains (c, g.1))

/-- R124: a half's verdict becomes PURCHASE_NEEDED. -/
def State.exhaustHalf (s : State) (l : HalfPlace) : State :=
  s.setHalf l ((s.halfAt l).map (fun h => { h with verdict := .purchaseNeeded }))

/-- R124 step 1: the PREVIEW_END notice of an output. -/
def State.previewEnd (s : State) (o : Fin 6) (event seconds : Nat) : State :=
  match (s.outs[o]).tune with
  | none => s
  | some t => s.notify (.previewEnd o.val t.window.val t.service event seconds)

/-- R124 step 1: PREVIEW_END to the members of each listed context: the contexts in the order of their numbers and the
members of each ascending, an order the spec leaves open (log entry 33, DESIGN CHOICE). -/
def State.previewEnds (s : State) (cs : List (Fin 8)) (event seconds : Nat) : State :=
  cs.foldl (fun s c => (s.ctxs[c]).members.foldl (fun s o => s.previewEnd o event seconds) s) s

/-- R124: the exhaustion of an entry's halves. -/
def State.exhaust (s : State) (x : PreviewEntry) : State :=
  let ls := s.exhaustedHalves x.event x.seconds
  let cs := allContexts.filter (fun c => (s.ctxs[c]).isActive && s.governedBy c ls)
  let s1 := (ls.foldl State.exhaustHalf s).previewEnds cs x.event x.seconds
  s1.evaluateAll .verdict false (s1.membersWhere (fun c _ => cs.contains c))

/-- PREVIEW_EXHAUSTION (R124): an event whose halves a 1-second tick exhausted. -/
def execPreviewExhaustion (event : Nat) (s : State) : Result :=
  if s.ticks.exhaustDue.contains event then
    let s1 := { s with ticks := { s.ticks with exhaustDue := s.ticks.exhaustDue.filter (· ≠ event) } }
    match s1.access.previews.find? (fun x => x.event = event) with
    | none => done s1
    | some x => done (s1.exhaust x)
  else .next s

/-! ### BUY records (R130 to R132) -/

/-- R130 check 6: the PIN, if the profile requires one. -/
def State.purchasePin (s : State) (o : Fin 6) (op : BuyOp) : State × Option Outcome :=
  if (s.profiles[s.profileOf o]).purchasePin then s.comparePin (s.profileOf o) op.pin buyCode (some o.val)
  else (s, none)

/-- R132: the PURCHASED notice. -/
def State.purchasedNotice (s : State) (o : Fin 6) (e : EventCriteria) (price : Nat) : Notice :=
  .purchased o.val (match (s.outs[o]).tune with
    | some t => t.service
    | none => 0) e.event price s.purse.balance s.purse.newest

/-- R132: the append of a purchase. Its event end minute is the exact sum S + D, also above FFFFFFFFh (log entry 29, DESIGN
CHOICE). -/
def purchaseEntry (o : Fin 6) (e : EventCriteria) (price : Nat) : Entry :=
  ⟨.purchase, -(price : Int), e.event, e.start + e.duration, some o.val, 0⟩

/-- R132: a BUY that passed every check. -/
def State.purchase (s : State) (o : Fin 6) (e : EventCriteria) (price : Nat) : State × Outcome :=
  let s1 := s.append (purchaseEntry o e price)
  let x : OwnedEntry := ⟨e.event, e.start + e.duration, s1.purse.newest⟩
  let s2 := { s1 with access := { s1.access with owned := s1.access.owned ++ [x] } }
  let s3 := s2.notify (s2.purchasedNotice o e price)
  (s3.recomputeAndEvaluate false, accepted s1.purse.newest)

/-- R131: checks 7 to 10, then the purchase. -/
def State.buyPriced (s : State) (o : Fin 6) (e : EventCriteria) (price confirm : Nat) : State × Outcome :=
  if price ≠ confirm then (s, ⟨.priceChanged, price⟩)
  else if !s.debitAllowed price then (s, ⟨.insufficientCredit, price⟩)
  else if ownedSize ≤ s.access.owned.length then (s, answered .ownedFull)
  else
    match s.purse.appendFails 0 with
    | some c => (s, answered c)
    | none => s.purchase o e price

/-- R130 checks 3 to 6 for an output with the clock set. -/
def State.buyOffered (s : State) (o : Fin 6) (op : BuyOp) : State × Outcome :=
  match s.offeredEvent o with
  | none => (s, answered .notOffered)
  | some e =>
    if e.event ≠ op.event then (s, answered .notOffered)
    else
      match s.priceNow e with
      | none => (s, answered .notOffered)
      | some price =>
        match s.access.owned.find? (fun x => x.event = op.event) with
        | some x => (s, ⟨.alreadyOwned, x.seq⟩)
        | none => afterPin (s.purchasePin o op) (fun t => t.buyPriced o e price op.confirm)

/-- R130: a BUY record. -/
def State.buyRecord (s : State) (op : BuyOp) : State × Outcome :=
  match s.namedOutput op.output with
  | .error c => (s, answered c)
  | .ok o =>
    match s.guide.clock with
    | none => (s, answered .clockUnset)
    | some _ => s.buyOffered o op

/-- BUY (R130 to R132). -/
def execBuy (s : State) : Result := recordStep s .buy (fun _ => true) (fun s f => s.buyRecord f.bytes.buyOp)

/-! ### RIGHTS records: the checks (R104 to R106) -/

/-- R104 check 3: the record is addressed to this unit. -/
def State.addressed (s : State) (op : RightsOp) : Bool :=
  if op.addressKind = 1 then op.address = s.cfg.unitId else s.cfg.groupId = some op.address

/-- R104 check 4: what the record's sequence must be above. -/
def State.rightsBar (s : State) (group : Bool) : Nat :=
  max (if group then s.rights.groupSeq else s.rights.unitSeq) (s.purse.floor group)

/-- A record addressed to a group (R104). -/
def RightsOp.group (op : RightsOp) : Bool := op.addressKind = 2

/-- R104: the header checks. -/
def State.rightsHeader (s : State) (pass : Bool) (op : RightsOp) : Option Code :=
  if !pass then some .badCheck
  else if op.addressKind ≠ 1 ∧ op.addressKind ≠ 2 then some .badField
  else if !s.addressed op then some .notAddressed
  else if op.sequence ≤ s.rightsBar op.group then some .stale
  else none

/-- R105: the trial of a record's own effects. -/
structure Trial where
  balance : Int
  newest : Nat
  deriving DecidableEq, Repr

/-- A trial that goes on, if a field is in range. -/
def Trial.keep (t : Trial) (inRange : Bool) : Except Code Trial := if inRange then .ok t else .error .badField

/-- R105: the check of one item against the trial. -/
def RightsItem.check (it : RightsItem) (t : Trial) : Except Code Trial :=
  match it with
  | .packageSet p _ => t.keep (p ≤ 63)
  | .packageClear p => t.keep (p ≤ 63)
  | .topup a =>
    if a = 0 ∨ 100000 < a then .error .badField
    else if 1000000 < t.balance + a then .error .ceiling
    else .ok ⟨t.balance + a, t.newest + 1⟩
  | .overdraft l => t.keep (l ≤ 10000)
  | .collect u => if t.newest < u then .error .badField else .ok ⟨t.balance, t.newest + 1⟩
  | .region c => t.keep (c ≤ 15)
  | .pinReset q pin => t.keep (q ≤ 5 && (pinOf pin).isSome)
  | .mask c => t.keep (c ≤ 15)
  | .unknown _ => .error .badField

/-- R105: the items are checked in order from item number `k`: the first failure. -/
def checkItems (t : Trial) : Nat → List RightsItem → Option Outcome
  | _, [] => none
  | k, it :: rest =>
    match it.check t with
    | .error c => some ⟨c, k⟩
    | .ok t1 => checkItems t1 (k + 1) rest

/-- R106: the first append of the items from item number `k` that would fail, `made` appends before it. -/
def Purse.checkAppends (p : Purse) : Nat → Nat → List RightsItem → Option Outcome
  | _, _, [] => none
  | k, made, it :: rest =>
    if it.appends then
      match p.appendFails made with
      | some c => some ⟨c, k⟩
      | none => p.checkAppends (k + 1) (made + 1) rest
    else p.checkAppends (k + 1) made rest

/-- R104 to R106: the outcome of a refused record, or none. -/
def State.rightsCheck (s : State) (pass : Bool) (op : RightsOp) : Option Outcome :=
  match s.rightsHeader pass op with
  | some c => some (answered c)
  | none => (checkItems ⟨s.purse.balance, s.purse.newest⟩ 1 op.items).or (s.purse.checkAppends 1 0 op.items)

/-! ### RIGHTS records: the application (R107 to R115) -/

/-- Change the Rights Table. -/
def State.modRights (s : State) (f : Rights → Rights) : State := { s with rights := f s.rights }

/-- R108: a package entry is set or cleared. -/
def Rights.setPackage (r : Rights) (p : Nat) (k : Option Package) : Rights :=
  if h : p < 64 then { r with packages := r.packages.set p k h } else r

/-- R109, R111: the append of a TOPUP or COLLECT item. -/
def RightsOp.entry (op : RightsOp) (kind : JournalKind) (amount : Int) (upTo : Nat) : Entry :=
  ⟨kind, amount, op.sequence, if op.group then 1 else 0, none, upTo⟩

/-- R113: a profile's PIN is replaced, its failures and lockout end. -/
def State.pinReset (s : State) (q : Nat) (pin : List Byte) : State :=
  match outputOf q with
  | none => s
  | some q =>
    s.modProfile q (fun p => { p with pin := (pinOf pin).getD p.pin, failures := 0, lockoutEnd := none })

/-- R108 to R113: one item is applied. -/
def State.applyRight (op : RightsOp) (s : State) (it : RightsItem) : State :=
  match it with
  | .packageSet p x => s.modRights (fun r => r.setPackage p (some ⟨x⟩))
  | .packageClear p => s.modRights (fun r => r.setPackage p none)
  | .topup a => s.append (op.entry .topup a 0)
  | .overdraft l => s.modRights (fun r => { r with overdraft := l })
  | .collect u => s.append (op.entry .collect 0 u)
  | .region c => s.modRights (fun r => { r with region := c })
  | .pinReset q pin => s.pinReset q pin
  | .mask c => s.modRights (fun r => { r with mask := c })
  | .unknown _ => s

/-- R115 step 3: some REGION item of the list changes the region code, which stands at `code` before it. -/
def regionChanges : Nat → List RightsItem → Bool
  | _, [] => false
  | code, .region c :: rest => c ≠ code || regionChanges c rest
  | code, _ :: rest => regionChanges code rest

/-- R107 step 2: the record's sequence is stored. -/
def Rights.store (r : Rights) (op : RightsOp) : Rights :=
  if op.group then { r with groupSeq := op.sequence } else { r with unitSeq := op.sequence }

/-- R114: the RIGHTS_CHANGED notice. -/
def State.rightsNotice (s : State) (op : RightsOp) : Notice :=
  .rightsChanged {
    addressKind := op.addressKind
    items := op.items.length
    kinds := ofFlags ((List.range 8).map (fun t => op.items.any (fun it => it.type = t + 1)))
    packages := (s.rights.packages.toList.filter (·.isSome)).length
    sequence := op.sequence
    balance := s.purse.balance
    newest := s.purse.newest
    region := s.rights.region
    mask := s.rights.mask
    overdraft := s.rights.overdraft }

/-- R115 step 3: the outputs that are not IDLE and were not evaluated under step 2. -/
def State.tunedBut (s : State) (os : List (Fin 6)) : List (Fin 6) :=
  allOutputs.filter (fun o => (s.outs[o]).tune.isSome && !os.contains o)

/-- R115: verdicts, gates of changed verdicts, gates after a region change. -/
def State.rightsFollow (s : State) (region : Bool) : State :=
  let s1 := s.recompute allHalves
  let os := s1.membersWhere (fun c _ => verdictChanged s s1 c)
  let s2 := s1.evaluateAll .verdict false os
  if region then s2.evaluateAll .rights false (s2.tunedBut os) else s2

/-- R107: a RIGHTS record that passed its checks. -/
def State.applyRights (s : State) (op : RightsOp) : State × Outcome :=
  let s1 := (op.items.foldl (State.applyRight op) s).modRights (fun r => r.store op)
  let s2 := s1.markChange
  ((s2.notify (s2.rightsNotice op)).rightsFollow (regionChanges s.rights.region op.items),
    accepted (op.items.length * 256 + (op.items.filter RightsItem.appends).length))

/-- R104 to R107: a RIGHTS record. -/
def State.rightsRecord (s : State) (pass : Bool) (op : RightsOp) : State × Outcome :=
  match s.rightsCheck pass op with
  | some out => (s, out)
  | none => s.applyRights op

/-- RIGHTS (R104 to R115). -/
def execRights (u : RightsUnwrap) (s : State) : Result :=
  recordStep s .rights (fun _ => true) (fun s f => s.rightsRecord u.pass (f.bytes.rightsOp u.items))

end Sys2Proof.Machine
end

