-- ==== Sys2Proof/Machine/Writer.lean ====
section
/-! DEFINITION. The Notice Writer and Statistics: publication, the consumer index, the notice line (R183, R184, R195),
statistics sets (R185, R186), the blink cycle (R187). -/

namespace Sys2Proof.Machine

/-! ### The notice line (R184) -/

/-- R184: the line is asserted and the timer stopped. -/
def Writer.assert (w : Writer) : Writer := { w with line := true, delayEnd := none }

/-- R184: the effect of a publication, where the unconsumed count stood at `before`. -/
def Writer.published (w : Writer) (before count delay now : Nat) : Writer :=
  if w.line then w
  else if count ≤ w.unconsumed then w.assert
  else if before = 0 ∧ 0 < w.unconsumed then
    (if delay = 0 then w.assert else { w with delayEnd := some (now + delay) })
  else w

/-- R182, R184: a publishing write that carries an index completes. -/
def State.published (s : State) (i : Nat) : State :=
  s.modWriter (fun w =>
    ({ w with pubIdx := i }).published w.unconsumed s.cfg.mitCount s.cfg.mitDelay s.ticks.now)

/-- PUBLISHING_WRITE_COMPLETE (R182, R184); one issued before a link reset has no effect but the write (R192). -/
def execPublishingWriteComplete (s : State) : Result :=
  match s.servingOwn with
  | none => .next s
  | some r =>
    match r.what with
    | .publish i => if r.void then done (s.completeOwn r) else done ((s.completeOwn r).published i)
    | .fetch _ | .entry | .overrun | .controlBlock | .outcome _ | .scrub _ | .title _ | .crc _ => .next s

/-- CONTROL_BLOCK_WRITE_COMPLETE (R195). -/
def execControlBlockWriteComplete (s : State) : Result :=
  match s.servingOwn with
  | none => .next s
  | some r =>
    match r.what with
    | .controlBlock => done ((s.completeOwn r).modWriter (fun w => { w with consumerCopy := [0, 0, 0, 0] }))
    | .fetch _ | .entry | .overrun | .publish _ | .outcome _ | .scrub _ | .title _ | .crc _ => .next s

/-- R184: the effect of a taken consumer value. -/
def Writer.consumed (w : Writer) (count delay now : Nat) : Writer :=
  if w.unconsumed = 0 then { w with line := false, delayEnd := none }
  else if w.line then w
  else if count ≤ w.unconsumed ∨ delay = 0 then w.assert
  else { w with delayEnd := some (now + delay) }

/-! ### Statistics (R185, R186) -/

/-- R186: the STATS_OUTPUT notice of an enabled output; its counters are zeroed. -/
def State.statsOutput (s : State) (o : Fin 6) : State :=
  if (s.outCfg o).enabled then
    (s.notify (.statsOutput o.val (s.outs[o]).tuneCode (s.outs[o]).counters)).modOut o
      (fun x => { x with counters := OutputCounters.zero })
  else s

/-- R4, R96: a ring's counters at zero. -/
def Ring.zero (r : Ring) : Ring := { r with good := 0, bad := 0, corrected := 0 }

/-- The STATS_RING notice of a capture window (R185). -/
def State.ringNotice (s : State) (k : Fin 4) : Notice :=
  let r := s.path.rings[k]
  .statsRing k.val r.state r.good r.bad r.corrected

/-- R186: the STATS_RING notice of a configured capture window; its counters are zeroed. -/
def State.statsRing (s : State) (k : Fin 4) : State :=
  if (s.cfg.windows[k]).isSome then (s.notify (s.ringNotice k)).modRing k Ring.zero else s

/-- R186: STATS_GUIDE; the guide counters are zeroed. -/
def State.statsGuide (s : State) : State :=
  (s.notify (.statsGuide s.guide.lastVersion s.guide.map.length s.guide.pool.length s.guide.counters)).modGuideCounters
    (fun _ => GuideCounters.zero)

/-- R186: a statistics set is written. -/
def State.writeStats (s : State) : State :=
  (allWindows.foldl State.statsRing (allOutputs.foldl State.statsOutput s)).statsGuide

/-- R186: the ring has room for a whole set. -/
def State.statsFit (s : State) : Bool := s.statsSize ≤ 1022 - s.writer.issued

/-- R186: a deferred set is retried. -/
def State.retryStats (s : State) : State :=
  if s.writer.statsDeferred ∧ s.statsFit then (s.modWriter (fun w => { w with statsDeferred := false })).writeStats else s

/-- R185, R186: a set falls due; an expiry that finds a set deferred adds nothing. -/
def State.statsFallDue (s : State) : State :=
  if s.writer.statsDeferred then s
  else if s.statsFit then s.writeStats
  else s.modWriter (fun w => { w with statsDeferred := true })

/-- R185: the statistics timer has run out. -/
def State.statsDue (s : State) : Bool :=
  match s.writer.statsEnd with
  | none => false
  | some e => s.running && e ≤ s.ticks.now

/-- R185: the statistics timer runs on for another period. -/
def State.rearmStatistics (s : State) : State :=
  s.modWriter (fun w => { w with statsEnd := w.statsEnd.map (· + s.cfg.statPeriod * 1000) })

/-- STATISTICS_TIMER_EXPIRY (R185, R186). -/
def execStatisticsTimerExpiry (s : State) : Result :=
  if s.statsDue then done (s.rearmStatistics.statsFallDue) else .next s

/-! ### The consumer index (R183, R195) -/

/-- R195: byte `i` of the consumer-index copy after a write: the byte it covers, or the byte as it stood. -/
def State.copyByte (s : State) (r : Request) (i : Nat) : Byte :=
  let a := s.cfg.repBase + 8 + i
  if r.addr ≤ a ∧ a < r.addr + r.len then byteAt (writeData r) (a - r.addr) else byteAt s.writer.consumerCopy i

/-- R195: the copy after a completed write. -/
def State.newCopy (s : State) (r : Request) : List Byte := (List.range 4).map (s.copyByte r)

/-- R183: a value that the Notice Writer takes. -/
def State.takeConsumer (s : State) (v : Nat) : State :=
  (s.modWriter (fun w => ({ w with consIdx := v }).consumed s.cfg.mitCount s.cfg.mitDelay s.ticks.now)).retryStats

/-- R183: a value is handed to the Notice Writer. -/
def State.handConsumer (s : State) (v : Nat) : State :=
  if 1022 < v || s.port.controlBlockPending then s else s.takeConsumer v

/-- R183, R195: a completed write of the consumer-index word. -/
def State.consumerWritten (s : State) (r : Request) : State :=
  (s.modWriter (fun w => { w with consumerCopy := s.newCopy r })).handConsumer (ofBytes (s.newCopy r))

/-- CONSUMER_INDEX_WRITE (R3, R183, R195). -/
def execConsumerIndexWrite (s : State) : Result :=
  match s.servingUp with
  | none => .next s
  | some u =>
    match s.completionOf u with
    | .consumer => done ((s.completeWrite u).consumerWritten u.req)
    | .pass | .arrival _ _ | .take _ _ | .cell _ _ => .next s

/-! ### Timers of the line and the lamps -/

/-- R184: the delay timer has run out. -/
def State.mitigationDue (s : State) : Bool :=
  match s.writer.delayEnd with
  | none => false
  | some e => s.running && e ≤ s.ticks.now

/-- MITIGATION_DELAY_EXPIRY (R184). -/
def execMitigationDelayExpiry (s : State) : Result :=
  if s.mitigationDue then done (s.modWriter Writer.assert) else .next s

/-- R187: the blink cycle has reached its boundary or the end of its lit share. -/
def State.blinkDue (s : State) : Bool := s.running && s.lamps.phase != s.blinkLit

/-- BLINK_CYCLE (R187). -/
def execBlinkCycle (s : State) : Result :=
  if s.blinkDue then done { s with lamps := { s.lamps with phase := s.blinkLit } } else .next s

end Sys2Proof.Machine
end

