-- ==== Sys2Proof/Machine/Power.lean ====
section
/-! DEFINITION. Power and part states: POWER_GOOD and the configuration image (R17, R18, R188), POWER_LOSS (R142, R145,
R149), LINK_RESET (R14, R19, R33, R34, R80, R192), POWER records (R190, R191). -/

namespace Sys2Proof.Machine

/-! ### Power-good (R17, R136) -/

/-- Every field at its power-on value; DRAM and flash keep their bytes (log entry 9), and the commands still wait. -/
def State.powerOff (s : State) : State := { State.reset with dram := s.dram, flash := s.flash, pending := s.pending }

/-- R17: power-good: START, and the read of the configuration image. -/
def State.powerOn (s : State) : State :=
  { s.powerOff with powerGood := true, flashPort := ⟨some .imageRead, true⟩ }

/-- POWER_GOOD (R17). -/
def execPowerGood (s : State) : Result := if s.powerGood then .next s else done s.powerOn

/-! ### Power loss (R142, R145, R149) -/

/-- The flash range that an interrupted operation leaves disturbed: its address and length. -/
def FlashOp.range : FlashOp → Option (Nat × Nat)
  | .imageRead | .settingsRead | .journalRead => none
  | .program r => some (placeAddr r.place, 32)
  | .erase k => some ((k.val + 2) * 4096, 4096)
  | .rewriteErase => some (0x1000, 4096)
  | .rewritePage p => some (settingsPage p, 256)

/-- Flash after an interrupted operation left bytes in its range. -/
def State.disturb (s : State) (r : Nat × Nat) (remains : List Byte) : State := s.flashWrite r.1 remains

/-- R145: every good record that journal sector `k` reads in `t` is one it held in `s`: an interrupted erase leaves records
that were collected, and makes none. -/
def State.stillReads (s t : State) (k : Fin 8) : Bool :=
  (List.range 128).all (fun j =>
    let place := 128 * k.val + j
    match journalRecordOf (t.placeBytes place) place with
    | none => true
    | some r => journalRecordOf (s.placeBytes place) place = some r)

/-- R142, R145, R149: the bytes are ones that the spec lets an interrupted operation leave: a torn place, a
journal sector neither intact nor all FFh that reads no good record but its own, a corrupt settings sector, a settings
sector that is not good (log entry 23). -/
def State.remainsOk (s : State) (op : FlashOp) (r : Nat × Nat) (remains : List Byte) : Bool :=
  let t := s.disturb r remains
  remains.length = r.2 &&
    match op with
    | .imageRead | .settingsRead | .journalRead => true
    | .program j => !t.placeFree j.place && (journalRecordOf (t.placeBytes j.place) j.place).isNone
    | .erase k => remains ≠ s.flashRead r.1 r.2 && !Memory.blank flashDefault t.flash r.1 r.2 && s.stillReads t k
    | .rewriteErase => !t.settingsIsBlank && !settingsGood (t.flashRead 0x1000 1024)
    | .rewritePage _ => !settingsGood (t.flashRead 0x1000 1024)

/-- What a power loss leaves in flash: none for bytes that the spec excludes. -/
def State.losePower (s : State) (remains : List Byte) : Option State :=
  match s.flashPort.op with
  | none => some s.powerOff
  | some op =>
    match op.range with
    | none => some s.powerOff
    | some r => if s.remainsOk op r remains then some (s.disturb r remains).powerOff else none

/-- POWER_LOSS (R149, R142, R145). -/
def execPowerLoss (remains : List Byte) (s : State) : Result :=
  if !s.powerGood then .next s
  else
    match s.losePower remains with
    | none => .refused .impossibleRemains
    | some t => .next t

/-! ### The configuration image (R17, R18, R188) -/

/-- R17: the requests held in START are released in their order of arrival and classified afresh. -/
def State.releaseStart (s : State) : State :=
  s.path.startHeld.foldl State.arrive { s with path := { s.path with startHeld := [] } }

/-- R17, R154, R101, R188: a good image is loaded and the part enters MOUNTING. -/
def State.loadImage (s : State) (i : Image) : State :=
  let s1 := { s with
    cfg := i
    rights := i.factoryRights
    profiles := i.profiles
    part := .mounting
    flashPort := { s.flashPort with op := some .settingsRead } }
  s1.issueControlBlock.releaseStart

/-- R18: the part enters FAULT, and the held requests pass unchanged. -/
def State.enterFault (s : State) : State :=
  let held := s.path.startHeld
  held.foldl (fun s r => s.present ⟨r, .plain, none, false⟩)
    { s.freeFlash with part := .fault, path := { s.path with startHeld := [] } }

/-- The 512 bytes of the configuration image (12.6). -/
def State.imageBytes (s : State) : List Byte := s.flashRead 0 imageLength

/-- CONFIG_IMAGE_READ_COMPLETE (R17, R18, R188). -/
def execConfigImageReadComplete (s : State) : Result :=
  match s.flashPort.op with
  | some .imageRead =>
    if imageGood s.imageBytes then done (s.loadImage (imageOf s.imageBytes)) else done s.enterFault
  | some .settingsRead | some .journalRead | some (.program _) | some (.erase _) | some .rewriteErase
  | some (.rewritePage _) | none => .next s

/-! ### Link reset -/

/-- R4, R11, R56, R96, R19: the counters reported in statistics are zeroed. -/
def State.zeroCounters (s : State) : State :=
  { s with
    outs := s.outs.map (fun x : Output => { x with counters := OutputCounters.zero })
    path := { s.path with rings := s.path.rings.map Ring.zero }
    guide := { s.guide with counters := GuideCounters.zero } }

/-- R192 steps 2 and 4: the ring empty, the line deasserted and its timer stopped. The copy follows the control-block
write (R195). -/
def Writer.restart (w : Writer) : Writer :=
  { w with
    writeIdx := 0, pubIdx := 0, consIdx := 0, overrun := false, dropped := 0, line := false, delayEnd := none
    statsDeferred := false }

/-- R192 steps 6 and 7: STANDBY becomes ACTIVE; READY in ACTIVE. -/
def State.readyAfterReset (s : State) : State :=
  match s.part with
  | .standby | .active =>
    let s1 := { s with part := .active }
    s1.notify (s1.readyNotice true)
  | .start | .mounting | .fault => s

/-- R192 steps 2 to 7, after the withdrawal of step 1. -/
def State.restartNotices (s : State) : State :=
  let s1 := (s.modWriter Writer.restart).issueControlBlock
  (if s1.part.mounted then s1.startStatistics else s1).readyAfterReset

/-- R14: an export read held for pacing is answered as a blank of reason IDLE, its stamp and padding FFh. -/
def State.answerHeld (s : State) (u : UpReq) : State :=
  match s.boundOutput u.req.tag with
  | none => s
  | some o => (s.countBlank o .idle).answerRead o (.blank .idle) u (blanked (List.replicate u.req.len 0xFF))

/-- R14: every export read held for pacing is answered at once, those of several outputs in one common order of first hold
(log entry 35, DESIGN CHOICE). -/
def State.answerAllHeld (s : State) : State :=
  s.path.paceHeld.foldl State.answerHeld { s with path := { s.path with paceHeld := [] } }

/-- R15, R34, R192: the FIFOs at a link reset: the upstream FIFO emptied, void own writes withdrawn (log entry 11). -/
def State.resetPort (s : State) : State := { s with port := s.port.withdraw.dropUpstream }

/-- R14: the responses of judged reads are not returned: the link that asked for them has been reset (log entry 28). -/
def State.dropLeaving (s : State) : State := { s with path := { s.path with leaving := [] } }

/-- A link reset in MOUNTING, ACTIVE or STANDBY (R34, R15, R33, R19, R80, R192, R14, in this order: log entry 13). -/
def State.linkReset (s : State) (fetchComplete : Bool) : State :=
  ((s.detach fetchComplete).resetPort.dropLeaving.resetIntake.zeroCounters.clearPool.restartNotices).answerAllHeld

/-- LINK_RESET (R33; R17 in START, R18 in FAULT). -/
def execLinkReset (fetchComplete : Bool) (s : State) : Result :=
  if !s.powerGood then .next s
  else
    match s.part with
    | .start => .next s
    | .fault => done { s with port := s.port.dropUpstream }
    | .mounting | .active | .standby => done (s.linkReset fetchComplete)

/-! ### POWER records (R190, R191) -/

/-- R147, R190 step 2: the forced flag is set if the settings are dirty. -/
def State.forceSettings (s : State) : State :=
  if s.settings.dirty = .none then s else { s with settings := { s.settings with forced := true } }

/-- R190: a STANDBY action. -/
def State.enterStandby (s : State) : State := { s.clearPool.forceSettings with part := .standby }

/-- R190: a POWER record whose action is not WAKE. -/
def State.powerStandby (s : State) (action : Nat) : State × Outcome :=
  if action ≠ 1 then (s, answered .badField)
  else if s.part = .standby then (s, accepted 0)
  else (s.enterStandby, accepted 1)

/-- R191: a POWER record whose action is not STANDBY. -/
def State.powerWake (s : State) (action : Nat) : State × Outcome :=
  if action ≠ 2 then (s, answered .badField)
  else if s.part = .standby then ({ s with part := .active }, accepted 1)
  else (s, accepted 0)

/-- POWER_STANDBY (R190). -/
def execPowerStandby (s : State) : Result :=
  recordStep s .power (actionIs 1 [1, 2] 0) (fun s f => s.powerStandby (f.bytes.b1 0))

/-- POWER_WAKE (R191). -/
def execPowerWake (s : State) : Result :=
  recordStep s .power (actionIs 2 [1, 2] 0) (fun s f => s.powerWake (f.bytes.b1 0))

end Sys2Proof.Machine
end

