-- ==== Sys2Proof/Machine/Dispatch.lean ====
section
/-! DEFINITION. One arm for each command: a direct call of its meaning. -/

namespace Sys2Proof.Machine

/-- The effect of a command on everything but the queue. -/
def exec (i : Instr) (s : State) : Host.Outcome State Fault Refusal :=
  match i with
  | .powerGood => Sys2Proof.Machine.execPowerGood s
  | .powerLoss remains => Sys2Proof.Machine.execPowerLoss remains s
  | .linkReset fetchComplete => Sys2Proof.Machine.execLinkReset fetchComplete s
  | .configImageReadComplete => Sys2Proof.Machine.execConfigImageReadComplete s
  | .upstreamRequest r => Sys2Proof.Machine.execUpstreamRequest r s
  | .passRequestComplete => Sys2Proof.Machine.execPassRequestComplete s
  | .cellArrival => Sys2Proof.Machine.execCellArrival s
  | .silenceTimerExpiry w => Sys2Proof.Machine.execSilenceTimerExpiry w s
  | .cellRead read => Sys2Proof.Machine.execCellRead read s
  | .paceWindowOpen => Sys2Proof.Machine.execPaceWindowOpen s
  | .ownWriteComplete => Sys2Proof.Machine.execOwnWriteComplete s
  | .slotTake => Sys2Proof.Machine.execSlotTake s
  | .recordBadKind => Sys2Proof.Machine.execRecordBadKind s
  | .outcomeWriteComplete => Sys2Proof.Machine.execOutcomeWriteComplete s
  | .time order => Sys2Proof.Machine.execTime order s
  | .oneSecondTick => Sys2Proof.Machine.execOneSecondTick s
  | .previewExhaustion event => Sys2Proof.Machine.execPreviewExhaustion event s
  | .minutesUsedRise q => Sys2Proof.Machine.execMinutesUsedRise q s
  | .minuteTick order => Sys2Proof.Machine.execMinuteTick order s
  | .services => Sys2Proof.Machine.execServices s
  | .events => Sys2Proof.Machine.execEvents s
  | .tuneView => Sys2Proof.Machine.execTuneView s
  | .tuneStage => Sys2Proof.Machine.execTuneStage s
  | .release => Sys2Proof.Machine.execRelease s
  | .keyWaitExpiry o => Sys2Proof.Machine.execKeyWaitExpiry o s
  | .stagedLifetimeExpiry c => Sys2Proof.Machine.execStagedLifetimeExpiry c s
  | .key u => Sys2Proof.Machine.execKey u s
  | .ageingExpiry c p => Sys2Proof.Machine.execAgeingExpiry c p s
  | .buy => Sys2Proof.Machine.execBuy s
  | .rights u => Sys2Proof.Machine.execRights u s
  | .pinUnlockEvent => Sys2Proof.Machine.execPinUnlockEvent s
  | .pinUnlockPeriod => Sys2Proof.Machine.execPinUnlockPeriod s
  | .pinChange => Sys2Proof.Machine.execPinChange s
  | .lockoutTimerExpiry q => Sys2Proof.Machine.execLockoutTimerExpiry q s
  | .periodUnlockExpiry o => Sys2Proof.Machine.execPeriodUnlockExpiry o s
  | .profile => Sys2Proof.Machine.execProfile s
  | .powerStandby => Sys2Proof.Machine.execPowerStandby s
  | .powerWake => Sys2Proof.Machine.execPowerWake s
  | .publishingWriteComplete => Sys2Proof.Machine.execPublishingWriteComplete s
  | .controlBlockWriteComplete => Sys2Proof.Machine.execControlBlockWriteComplete s
  | .consumerIndexWrite => Sys2Proof.Machine.execConsumerIndexWrite s
  | .mitigationDelayExpiry => Sys2Proof.Machine.execMitigationDelayExpiry s
  | .statisticsTimerExpiry => Sys2Proof.Machine.execStatisticsTimerExpiry s
  | .settingsReadComplete => Sys2Proof.Machine.execSettingsReadComplete s
  | .journalMount => Sys2Proof.Machine.execJournalMount s
  | .flashInhibitEnd => Sys2Proof.Machine.execFlashInhibitEnd s
  | .pageProgramComplete => Sys2Proof.Machine.execPageProgramComplete s
  | .eraseComplete => Sys2Proof.Machine.execEraseComplete s
  | .meteringPaceElapsed => Sys2Proof.Machine.execMeteringPaceElapsed s
  | .settingsRewriteStepComplete => Sys2Proof.Machine.execSettingsRewriteStepComplete s
  | .blinkCycle => Sys2Proof.Machine.execBlinkCycle s
  | .discardedFetchComplete => Sys2Proof.Machine.execDiscardedFetchComplete s

end Sys2Proof.Machine
end

