-- ==== Sys2Proof/Machine/Step.lean ====
section
/-! DEFINITION. The step: the command at the front of the queue, or, on an empty queue, the part's own time (log entries
2 and 3). -/

namespace Sys2Proof.Machine

/-- The commands of the listed ones that are due. -/
def dueOf {α : Type} (all : List α) (due : α → Bool) (command : α → Instr) : List Instr := (all.filter due).map command

/-- One command if it is due. -/
def dueIf (due : Bool) (command : Instr) : List Instr := if due then [command] else []

/-- The order in which the part queues the four blocks' work of a minute tick. -/
def tickOrder : List TickBlock := [.guide, .access, .purse, .profiles]

/-- The part's own events that are due, as commands in one fixed order (log entry 2). -/
def State.dueEvents (s : State) : List Instr :=
  dueIf s.inhibitEnds .flashInhibitEnd ++
  dueOf allWindows s.silenceDue .silenceTimerExpiry ++
  dueIf s.paceDue .paceWindowOpen ++
  dueIf s.secondDue .oneSecondTick ++
  s.ticks.exhaustDue.map .previewExhaustion ++
  s.ticks.riseDue.map (fun d => .minutesUsedRise d.1) ++
  dueIf s.ticks.minuteDue.isSome (.minuteTick tickOrder) ++
  dueOf allOutputs s.keyWaitDue .keyWaitExpiry ++
  dueOf allContexts s.stagedDue .stagedLifetimeExpiry ++
  dueOf allHalves (fun l => s.ageingDue l.1 l.2) (fun l => .ageingExpiry l.1 l.2) ++
  dueOf allProfiles s.lockoutDue .lockoutTimerExpiry ++
  dueOf allOutputs s.unlockDue .periodUnlockExpiry ++
  dueIf s.statsDue .statisticsTimerExpiry ++
  dueIf s.mitigationDue .mitigationDelayExpiry ++
  dueIf s.paceElapsed .meteringPaceElapsed ++
  dueIf s.blinkDue .blinkCycle

/-- A millisecond of part time (00_scope.md, Time). -/
def State.millisecond (s : State) : State := { s with ticks := { s.ticks with now := s.ticks.now + 1 } }

/-- What the part does while no command waits: events that are due join the queue, or a millisecond passes. Without
power it idles. -/
def State.idle (s : State) : State :=
  if !s.powerGood then s
  else if s.dueEvents.isEmpty then s.millisecond
  else { s with pending := s.dueEvents }

/-- One step. -/
def step (s : State) : Host.Outcome State Fault Refusal :=
  match s.pending with
  | [] => .next s.idle
  | c :: rest => exec c { s with pending := rest }

/-- `s` with a command at the front of its queue. -/
def State.push (s : State) (c : Instr) : State := { s with pending := c :: s.pending }

/-- `s` with the command that a word spells at the front of its queue: no row gives bits, so no word spells one. -/
def State.withFetchWord (s : State) (nbits w : Nat) : State :=
  match decodeTableWord nbits w with
  | none => s
  | some c => s.push c

end Sys2Proof.Machine
end

