-- ==== Sys2Proof/Safety.lean ====
section
/-! DEFINITION. The terms that the statements use: what a command leaves unchanged, which notices it hands over, how a
record is answered, and the invariants that every step keeps. -/

namespace Sys2Proof.Machine

/-! ### Frames -/

/-- Everything that waits at or occupies the upstream side of the DRAM port, in order of service. -/
def Port.upAll (p : Port) : List UpReq :=
  match p.serving with
  | some (.upstream u) => u :: p.up
  | _ => p.up

/-- Everything that waits at or occupies the own side of the DRAM port, in order of service. -/
def Port.ownAll (p : Port) : List OwnReq :=
  match p.serving with
  | some (.own r) => r :: p.own
  | _ => p.own

/-- The kinds of state. The lamps are in none of them: they follow the rest at the end of every command (R187). -/
inductive Area where
  | power
  | time
  | config
  | path
  | upstream
  | own
  | intake
  | guide
  | contexts
  | outputs
  | rights
  | access
  | journal
  | flashWork
  | profiles
  | writer
  | dram
  | flash
  | queue
  deriving DecidableEq, Repr

/-- The Purse and Journal without the erase-ahead target, which the flash arbiter may set (R144, R145). -/
def Purse.untargeted (p : Purse) : Purse := { p with target := none }

/-- One kind of state is the same in two states. The requests at the DRAM port are the same if the same ones wait or are
in service, since the arbiter chooses at the end of a command (R15). The work of the flash port is the same if the port
was not free to start an operation, since the flash arbiter chooses there too (R137). -/
def Area.same (a : Area) (s t : State) : Prop :=
  match a with
  | .power => t.powerGood = s.powerGood ∧ t.part = s.part
  | .time => t.ticks = s.ticks
  | .config => t.cfg = s.cfg
  | .path => t.path = s.path
  | .upstream => t.port.upAll = s.port.upAll
  | .own => t.port.ownAll = s.port.ownAll
  | .intake => t.intake = s.intake
  | .guide => t.guide = s.guide
  | .contexts => t.ctxs = s.ctxs ∧ t.loadOrder = s.loadOrder
  | .outputs => t.outs = s.outs
  | .rights => t.rights = s.rights
  | .access => t.access = s.access
  | .journal => t.purse.untargeted = s.purse.untargeted
  | .flashWork => s.flashFree = false →
      t.flashPort = s.flashPort ∧ t.settings = s.settings ∧ t.purse.target = s.purse.target
  | .profiles => t.profiles = s.profiles
  | .writer => t.writer = s.writer
  | .dram => t.dram = s.dram
  | .flash => t.flash = s.flash
  | .queue => t.pending = s.pending

/-- Nothing but the listed kinds of state changes. -/
def onlyChanges (as : List Area) (s t : State) : Prop := ∀ a : Area, a ∉ as → a.same s t

/-- Every output but one is as it was. -/
def otherOutputs (o : Fin 6) (s t : State) : Prop := ∀ x : Fin 6, x ≠ o → t.outs[x] = s.outs[x]

/-- Every context but one is as it was. -/
def otherContexts (c : Fin 8) (s t : State) : Prop := ∀ x : Fin 8, x ≠ c → t.ctxs[x] = s.ctxs[x]

/-- Every profile but one is as it was. -/
def otherProfiles (q : Fin 6) (s t : State) : Prop := ∀ x : Fin 6, x ≠ q → t.profiles[x] = s.profiles[x]

/-- Exactly the listed notices were handed over, in this order: the ring and the own writes are those that handing them
over one by one leaves (R182). -/
def handedOver (ns : List Notice) (s t : State) : Prop :=
  t.writer = (ns.foldl State.notify s).writer ∧ t.port.ownAll = (ns.foldl State.notify s).port.ownAll

/-- Every byte of DRAM is as it was, but those of a range, which hold the listed bytes. -/
def dramHolds (a : Nat) (bs : List Byte) (s t : State) : Prop :=
  ∀ x : Nat, t.dramByte x = if a ≤ x ∧ x < a + bs.length then bs.getD (x - a) 0 else s.dramByte x

/-- Every byte of flash is as it was, but those of a range, which hold the listed bytes. -/
def flashHolds (a : Nat) (bs : List Byte) (s t : State) : Prop :=
  ∀ x : Nat, t.flashByte x = if a ≤ x ∧ x < a + bs.length then bs.getD (x - a) 0 else s.flashByte x

/-- Every byte of flash is as it was, but those of a sector, which read FFh (R136). -/
def flashErased (sector : Nat) (s t : State) : Prop :=
  ∀ x : Nat, t.flashByte x =
    if sector * 4096 ≤ x ∧ x < sector * 4096 + 4096 then 0xFF else s.flashByte x

/-- The answers on the link are those before, and one more with the given bytes, unless the request's link is lost (R33). -/
def answersOne (u : UpReq) (data : List Byte) (s t : State) : Prop :=
  t.path = { s.path with answers := s.path.answers ++ if u.lost then [] else [⟨u.req, data⟩] }

/-! ### Records -/

/-- A record of kind `k` is at hand, attached to its slot, of the right length, and dispatched in the present part state
(R27 to R30): its fetch is in service and completes now. -/
def atHand (s : State) (k : Kind) (f : Fetched) : Prop :=
  s.fetched = some f ∧ f.attached = true ∧ f.bytes.kind = some k ∧ f.bytes.lengthOk k = true ∧ screen k s.part = none

/-- An attached record is answered (R31, R32): the own requests that follow are those of `u`, the state its effect
leaves, then the scrub writes of its kind, then the outcome write; the slot is still TAKEN and processing goes on. -/
def answersWith (f : Fetched) (k : Kind) (out : Outcome) (u t : State) : Prop :=
  t.port.ownAll = u.port.own ++ u.scrubWrites f.slot k ++ [u.outcomeWrite f.slot out] ∧
    t.intake = { u.intake with proc := some ⟨f.slot, .decided⟩ }

/-- An attached record is answered after notices (R182, R31, R32): the Notice Writer's own writes of its effect come
first, then the scrub writes of its kind, then the outcome write; the slot is still TAKEN and processing goes on. -/
def answeredAfter (f : Fetched) (k : Kind) (out : Outcome) (s t : State) : Prop :=
  (∃ rs : List OwnReq, (∀ r ∈ rs, r.what.ofNotices = true) ∧
    t.port.ownAll = s.port.own ++ rs ++ s.scrubWrites f.slot k ++ [s.outcomeWrite f.slot out]) ∧
    t.intake = { s.intake with proc := some ⟨f.slot, .decided⟩ }

/-- A record is answered and nothing else happens: the fetch has left the port, the scrub writes and the outcome write
wait. -/
def onlyAnswers (f : Fetched) (k : Kind) (out : Outcome) (s t : State) : Prop :=
  answersWith f k out s.freePort t ∧ onlyChanges [.own, .intake] s t

/-- R34, R26: the processing of a detached record ends. Nothing is written to its slot, no slot changes between FREE and
TAKEN, and the next record is selected, whose fetch alone joins the own requests: the urgent head while the streak is below
4 or no bulk record waits, otherwise the bulk head, and none with both queues empty. -/
def endsDetached (s t : State) : Prop :=
  (s.intake.urgent = [] → s.intake.bulk = [] →
    t.intake = { s.intake with proc := none } ∧ t.port.ownAll = s.port.ownAll) ∧
  (∀ (x : Fin 256) (xs : List (Fin 256)), s.intake.urgent = x :: xs → s.intake.streak < 4 ∨ s.intake.bulk = [] →
    t.intake = { s.intake with
      urgent := xs, streak := min 4 (s.intake.streak + 1), proc := some ⟨x, .fetching⟩ } ∧
    t.port.ownAll = s.port.ownAll ++ [s.fetchRead x]) ∧
  (∀ (x : Fin 256) (xs : List (Fin 256)), s.intake.bulk = x :: xs → 4 ≤ s.intake.streak ∨ s.intake.urgent = [] →
    t.intake = { s.intake with bulk := xs, streak := 0, proc := some ⟨x, .fetching⟩ } ∧
    t.port.ownAll = s.port.ownAll ++ [s.fetchRead x])

/-! ### Contexts -/

/-- R63 cases 2 and 3, R65, R45: context `c` is taken: the lowest-numbered FREE one, which leaves Guide Tables as they are;
or, with none FREE, the STAGED one with the oldest staged-since, of two the lower-numbered, whose service's retained entry
ends unless another context runs that service. -/
def contextTaken (c : Fin 8) (m : Means) (s t : State) : Prop :=
  (m = .allocated ∧ (s.ctxs[c]).isFree = true ∧ (∀ d : Fin 8, d < c → (s.ctxs[d]).isFree = false) ∧ t.guide = s.guide) ∨
  (m = .evicted ∧ (∀ d : Fin 8, (s.ctxs[d]).isFree = false) ∧
    ∃ (x : Tuning) (since : Nat), (s.ctxs[c]).life = .staged x since ∧
      (∀ (d : Fin 8) (y : Tuning) (n : Nat), (s.ctxs[d]).life = .staged y n → since < n ∨ since = n ∧ c ≤ d) ∧
      ((∃ (d : Fin 8) (y : Tuning), d ≠ c ∧ (s.ctxs[d]).tuning = some y ∧ y.service = x.service) → t.guide = s.guide) ∧
      ((∀ (d : Fin 8) (y : Tuning), d ≠ c → (s.ctxs[d]).tuning = some y → y.service ≠ x.service) →
        t.guide = { s.guide with retained := s.guide.retained.filter (fun e => e.service ≠ x.service) }))

/-- Output `x` is a member of an ACTIVE context of a service of which `P` holds. -/
def memberOfService (P : Nat → Prop) (t : State) (x : Fin 6) : Prop :=
  ∃ (c : Fin 8) (u : Tuning), (t.ctxs[c]).life = .active u ∧ x ∈ (t.ctxs[c]).members ∧ P u.service

/-- R46: an applied item, one of the first `count` of the record, added, replaced or removed the service's entry. -/
def serviceTouched (items : List ServiceItem) (count : Nat) (s : State) (svc : Nat) : Prop :=
  (∃ e : MapEntry, .add e ∈ items.take count ∧ e.service = svc) ∨
  (.remove svc ∈ items.take count ∧ (s.guide.entry svc).isSome = true)

/-- R53: the current event of the service is another than before, or has another rating. -/
def currentChanged (s t : State) (svc : Nat) : Prop :=
  (t.guide.currentEvent svc).map (fun e => (e.id, e.rating)) ≠ (s.guide.currentEvent svc).map (fun e => (e.id, e.rating))

/-! ### Cell reads -/

/-- R11, R12, R75, R77: the whole cell read `u` of output `o` is answered with a blank of reason `r` between the stored
stamp and padding. The blank is counted (an IDLE one with GATE) and recorded; a PRESENTING output whose last delivery lies
3,000 ms or more back stalls now, with one STALLED notice; nothing else changes. -/
def blankedRead (u : UpReq) (o : Fin 6) (r : BlankReason) (s t : State) : Prop :=
  ∃ (tune : Option Tuned) (ns : List Notice),
    answersOne u ((s.dramRead u.req.addr u.req.len).take 4 ++ blankPacket ++ (s.dramRead u.req.addr u.req.len).drop 192)
      s t ∧
    t.outs[o] = { s.outs[o] with
      tune := tune
      delivery := { (s.outs[o]).delivery with count := 0, lastBlank := some r }
      counters :=
        if (s.outCfg o).enabled then
          match r with
          | .idle | .gate => { (s.outs[o]).counters with gate := satInc (s.outs[o]).counters.gate }
          | .noKey => { (s.outs[o]).counters with noKey := satInc (s.outs[o]).counters.noKey }
          | .otherStream => { (s.outs[o]).counters with otherStream := satInc (s.outs[o]).counters.otherStream }
        else (s.outs[o]).counters } ∧
    (∀ (w : Tuned) (l : Nat), (s.outs[o]).tune = some w → (s.outs[o]).delivery.last = some l → w.phase = .presenting →
      l + 3000 ≤ s.ticks.now →
      tune = some { w with phase := .stalled s.ticks.now } ∧
        ns = [.stalled o.val w.window.val w.service w.context.val (s.ctxs[w.context]).scrambled
          (if (s.path.rings[w.window]).state = .silent then .noSignal
           else match (s.outs[o]).gate with
            | .closed g => .gate g
            | .opened => if r = .noKey then .noKey else .otherCause)]) ∧
    ((s.outs[o]).tune = none ∨ (s.outs[o]).delivery.last = none ∨
        (∃ w : Tuned, (s.outs[o]).tune = some w ∧ w.phase ≠ .presenting) ∨
        (∃ l : Nat, (s.outs[o]).delivery.last = some l ∧ s.ticks.now < l + 3000) →
      tune = (s.outs[o]).tune ∧ ns = []) ∧
    handedOver ns s t ∧ otherOutputs o s t ∧ t.port.upAll = s.port.up ∧
    onlyChanges [.path, .upstream, .own, .outputs, .writer] s t

/-- R12, R73, R75, R76: output `o` takes the delivery or the blank `e` of a judged read now: its delivery record has the
present part time, and the tune state and the notices follow. Nothing else of the output changes, and no other output. -/
def eventTaken (o : Fin 6) (e : ReadEvent) (s t : State) : Prop :=
  ∃ (tune : Option Tuned) (delivery : Delivery) (ns : List Notice),
    t.outs[o] = { s.outs[o] with tune := tune, delivery := delivery } ∧ handedOver ns s t ∧ otherOutputs o s t ∧
    (e = .delivery →
      delivery = { (s.outs[o]).delivery with last := some s.ticks.now, count := satInc (s.outs[o]).delivery.count } ∧
      ((s.outs[o]).tune = none → tune = none ∧ ns = []) ∧
      (∀ w : Tuned, (s.outs[o]).tune = some w →
        (w.phase = .presenting → tune = some w ∧ ns = []) ∧
        (∀ n : Nat, w.phase = .seeking n → tune = some { w with phase := .presenting } ∧
          ns = [.tuned o.val w.window.val w.service w.context.val (s.ctxs[w.context]).scrambled
            (s.ticks.now - w.seekStart)]) ∧
        (∀ since : Nat, w.phase = .stalled since →
          (2 ≤ delivery.count → tune = some { w with phase := .presenting } ∧
            ns = [.resumed o.val w.window.val w.service w.context.val (s.ticks.now - since)]) ∧
          (delivery.count < 2 → tune = some w ∧ ns = [])))) ∧
    (∀ r : BlankReason, e = .blank r →
      delivery = { (s.outs[o]).delivery with count := 0, lastBlank := some r } ∧
      (∀ (w : Tuned) (l : Nat), (s.outs[o]).tune = some w → (s.outs[o]).delivery.last = some l →
        w.phase = .presenting → l + 3000 ≤ s.ticks.now →
        tune = some { w with phase := .stalled s.ticks.now } ∧
          ns = [.stalled o.val w.window.val w.service w.context.val (s.ctxs[w.context]).scrambled
            (if (s.path.rings[w.window]).state = .silent then .noSignal
             else match (s.outs[o]).gate with
              | .closed g => .gate g
              | .opened => if r = .noKey then .noKey else .otherCause)]) ∧
      ((s.outs[o]).tune = none ∨ (s.outs[o]).delivery.last = none ∨
          (∃ w : Tuned, (s.outs[o]).tune = some w ∧ w.phase ≠ .presenting) ∨
          (∃ l : Nat, (s.outs[o]).delivery.last = some l ∧ s.ticks.now < l + 3000) →
        tune = (s.outs[o]).tune ∧ ns = []))

/-! ### Gates and offers -/

/-- The OFFER notice of output `o`, tuned as `v`, for event criteria at a price (R134). -/
def offerOf (o : Fin 6) (v : Tuned) (e : EventCriteria) (price : Nat) (s : State) : Notice :=
  .offer {
    output := o.val
    window := v.window.val
    service := v.service
    event := e.event
    endMinute := e.start + e.duration
    price := price
    overdraft := s.rights.overdraft
    balance := s.purse.balance }

/-- R134: the offer of output `o`, and the notices, that follow a gate value `g`: no offer unless the reason is PURCHASE;
an outstanding offer of the governing event stays; otherwise an OFFER if the event has a price, and none if not. -/
def offerFollows (o : Fin 6) (v : Tuned) (g : Gate) (s : State) (offer : Option Offer) (ns : List Notice) : Prop :=
  (g ≠ .closed .purchase → offer = none ∧ ns = []) ∧
  (g = .closed .purchase →
    (∀ (e : EventCriteria) (f : Offer), s.offeredEvent o = some e → (s.outs[o]).offer = some f → f.event = e.event →
      offer = some f ∧ ns = []) ∧
    (∀ e : EventCriteria, s.offeredEvent o = some e → (∀ f : Offer, (s.outs[o]).offer = some f → f.event ≠ e.event) →
      (∀ p : Nat, s.priceNow e = some p → offer = some ⟨e.event, p⟩ ∧ ns = [offerOf o v e p s]) ∧
      (s.priceNow e = none → offer = none ∧ ns = [])) ∧
    (s.offeredEvent o = none → offer = none ∧ ns = []))

/-- R176, R177, R163, R134: the gate of output `o`, tuned as `v`, is evaluated on the inputs of `s`: the gate value is what
the tests give; an EVENT unlock not in force is cleared; a GATE notice goes out if the value differs from the reported one,
which then follows it; and the offer follows, its notice behind the GATE notice. Nothing else changes. -/
def evaluatedGate (cause : GateCause) (o : Fin 6) (v : Tuned) (s t : State) : Prop :=
  ∃ (g : Gate) (offer : Option Offer) (offers : List Notice) (i : GateInputs),
    i = s.gateInputs o v ∧ g = i.value ∧
    t.outs[o] = { s.outs[o] with
      eventUnlock := if i.eventOverride then (s.outs[o]).eventUnlock else none
      gate := g
      reported := g
      offer := offer } ∧
    offerFollows o v g s offer offers ∧
    handedOver ((if (s.outs[o]).reported = g then [] else [.gate o.val {
      value := g
      previous := (s.outs[o]).reported
      cause := cause
      window := v.window.val
      context := v.context.val
      service := v.service
      governing := i.governing.map (fun h => (h.1, h.2.verdict))
      rating := i.rating
      eventOverride := i.eventOverride
      periodOverride := i.periodOverride }]) ++ offers) s t ∧
    otherOutputs o s t ∧ onlyChanges [.own, .outputs, .writer] s t

/-- The gates of the listed outputs, as far as they are tuned, are what the tests give on the inputs as they stand. -/
def gatesFollow (os : Fin 6 → Prop) (t : State) : Prop :=
  ∀ (x : Fin 6) (v : Tuned), os x → (t.outs[x]).tune = some v → (t.outs[x]).gate = (t.gateInputs x v).value

/-- Output `x` is a member of an ACTIVE context whose governing half has another verdict than before (R115, R120). -/
def verdictMoved (s t : State) (x : Fin 6) : Prop :=
  ∃ c : Fin 8, (s.ctxs[c]).isActive = true ∧ x ∈ (s.ctxs[c]).members ∧
    (t.ctxs[c]).governingVerdict ≠ (s.ctxs[c]).governingVerdict

/-! ### Verdicts -/

/-- R118, R119: the verdict of a half is what its criteria give on the tables of `t`: FREE_TO_AIR is ENTITLED; a package
follows its validity; an event whose including package is valid or that is owned is ENTITLED; any other is PURCHASE_NEEDED
without preview minutes or once it has ended, and is otherwise PREVIEW exactly while its preview entry has used less than its
allowance; it lacks an entry only where the table is full and no entry's event has ended. -/
def halfJudged (h : Half) (t : State) : Prop :=
  (h.criteria = .freeToAir → h.verdict = .entitled) ∧
  (∀ k : Nat, h.criteria = .package k → h.verdict = if t.packageValid k then .entitled else .notEntitled) ∧
  (∀ e : EventCriteria, h.criteria = .event e →
    ((∃ k : Nat, e.including = some k ∧ t.packageValid k = true) ∨ (∃ x ∈ t.access.owned, x.event = e.event) →
      h.verdict = .entitled) ∧
    (¬ (∃ k : Nat, e.including = some k ∧ t.packageValid k = true) → (∀ x ∈ t.access.owned, x.event ≠ e.event) →
      (h.verdict = .preview ∨ h.verdict = .purchaseNeeded) ∧
      (e.preview = 0 ∨ (∃ m : Nat, t.guide.nowMinute = some m ∧ e.start + e.duration ≤ m) → h.verdict = .purchaseNeeded) ∧
      (0 < e.preview → (∀ m : Nat, t.guide.nowMinute = some m → m < e.start + e.duration) →
        (t.access.previews.map (·.event)).Nodup →
        (h.verdict = .preview ↔ ∃ x ∈ t.access.previews, x.event = e.event ∧ x.seconds < e.preview * 60) ∧
        ((∃ x ∈ t.access.previews, x.event = e.event) ∨
          16 ≤ t.access.previews.length ∧
            ∀ (x : PreviewEntry) (m : Nat), x ∈ t.access.previews → t.guide.nowMinute = some m → m < x.endMinute))))

/-- R118, R120: every half is the same but for its verdict, and that is what its criteria give now. -/
def halvesJudged (s t : State) : Prop :=
  ∀ (c : Fin 8) (p : HalfParity), ((t.ctxs[c]).half p).isSome = ((s.ctxs[c]).half p).isSome ∧
    ∀ h g : Half, (s.ctxs[c]).half p = some h → (t.ctxs[c]).half p = some g →
      g = { h with verdict := g.verdict } ∧ halfJudged g t

/-- R124 step 1: the PREVIEW_END notices of an exhausted event: one to each member of each ACTIVE context whose governing
half is exhausted, in the order of log entry 33 (DESIGN CHOICE). -/
def previewEndNotices (s : State) (event seconds : Nat) : List Notice :=
  (allContexts.filter (fun c =>
    (s.ctxs[c]).isActive && (s.ctxs[c]).governing.any (fun g => g.2.exhaustedAt event seconds))).flatMap (fun c =>
    (s.ctxs[c]).members.filterMap (fun o => (s.outs[o]).tune.map (fun v =>
      .previewEnd o.val v.window.val v.service event seconds)))

/-- Output `x` is a member of an ACTIVE context whose governing half is exhausted (R124). -/
def exhaustedViewer (s : State) (event seconds : Nat) (x : Fin 6) : Prop :=
  ∃ (c : Fin 8) (g : HalfParity × Half), (s.ctxs[c]).isActive = true ∧ x ∈ (s.ctxs[c]).members ∧
    (s.ctxs[c]).governing = some g ∧ g.2.exhaustedAt event seconds = true

/-- R112, R115 step 3: some REGION item changes the region code, as those before it leave it. -/
def regionMoves (code : Nat) (items : List RightsItem) : Prop :=
  ∃ (k c : Nat), items[k]? = some (.region c) ∧ c ≠ (items.take k).foldl (fun r it => match it with
    | .region x => x
    | _ => r) code

/-! ### The flash port -/

/-- R144: sector `k` passes the check of an erase-ahead target: every record of the list with its place there is collected,
and if it is a PURCHASE, the clock is set and its event has aged. -/
def targetPasses (k : Fin 8) (s : State) : Prop :=
  ∀ r ∈ s.purse.list, sectorOf r.place = k → r.seq ≤ s.purse.watermark ∧
    (r.kind = .purchase → ∃ m : Nat, s.guide.nowMinute = some m ∧ r.endMinute + 60 ≤ m)

/-- R144: `x` is the erase-ahead target of `s`, found and checked now: the write position's sector if the position is its
slot 0 and its erased flag is clear, otherwise the sector after it if that one's flag is clear, otherwise none; WAITING
exactly if it passes its check. -/
def targetFound (x : Option Target) (s : State) : Prop :=
  ∀ k : Fin 8, k = sectorOf s.purse.writePos →
    (s.purse.writePos % 128 = 0 → s.purse.erased[k] = false → x.map (·.sector) = some k) ∧
    (s.purse.writePos % 128 ≠ 0 ∨ s.purse.erased[k] = true →
      (s.purse.erased[k + 1] = false → x.map (·.sector) = some (k + 1)) ∧ (s.purse.erased[k + 1] = true → x = none)) ∧
    ∀ y : Target, x = some y → (y.waiting = true ↔ targetPasses y.sector s)

/-- R144: `x` is the target of `s` with its check repeated: the same sector, WAITING exactly if it passes; no check is made
while an erase is in progress. -/
def targetRechecked (x : Option Target) (s : State) : Prop :=
  ((∃ k : Fin 8, s.flashPort.op = some (.erase k)) → x = s.purse.target) ∧
  ((∀ k : Fin 8, s.flashPort.op ≠ some (.erase k)) →
    x.map (·.sector) = s.purse.target.map (·.sector) ∧
    ∀ y : Target, x = some y → (y.waiting = true ↔ targetPasses y.sector s))

/-- R137 case 3, R148, R149: the next page of a rewrite in progress starts; with none, a new rewrite starts with a fresh
snapshot if the store is dirty with a CHANGE, forced, or METERING 900,000 ms after the last start; otherwise nothing. -/
def rewriteGoesOn (s t : State) : Prop :=
  (∀ (w : Rewrite) (p : Fin 4), s.settings.rewrite = some w → w.started = p.val + 1 →
    t = { s with
      flashPort := { s.flashPort with op := some (.rewritePage p) }
      settings := { s.settings with rewrite := some { w with started := p.val + 2 } } }) ∧
  (s.settings.rewrite = none →
    (s.settings.dirty = .change ∨ s.settings.forced = true ∨
        s.settings.dirty = .metering ∧ s.settings.lastStart + 900000 ≤ s.ticks.now →
      t = { s with
        flashPort := { s.flashPort with op := some .rewriteErase }
        settings := ⟨.none, false, s.ticks.now, some ⟨s.snapshot, 1⟩⟩ }) ∧
    (s.settings.forced = false →
      s.settings.dirty = .none ∨ s.settings.dirty = .metering ∧ s.ticks.now < s.settings.lastStart + 900000 → t = s))

/-- R136, R137, R145: the flash arbiter's choice. With power, the mount complete, the inhibit over and no operation in
progress it starts the program of the queue's head; with an empty queue the erase of a WAITING target that passes its start
check; one that fails it becomes REFUSED, and there, as without a WAITING target, the rewrite goes on. -/
def flashChosen (s t : State) : Prop :=
  ((s.powerGood = false ∨ s.part.mounted = false ∨ s.flashPort.inhibited = true ∨ s.flashPort.op ≠ none) → t = s) ∧
  (s.powerGood = true → s.part.mounted = true → s.flashPort.inhibited = false → s.flashPort.op = none →
    (∀ (r : JournalRecord) (rest : List JournalRecord), s.purse.queue = r :: rest →
      t = { s with flashPort := { s.flashPort with op := some (.program r) } }) ∧
    (s.purse.queue = [] →
      (∀ k : Fin 8, s.purse.target = some ⟨k, true⟩ →
        (targetPasses k s → t = { s with flashPort := { s.flashPort with op := some (.erase k) } }) ∧
        (¬ targetPasses k s → rewriteGoesOn { s with purse := { s.purse with target := some ⟨k, false⟩ } } t)) ∧
      ((∀ k : Fin 8, s.purse.target ≠ some ⟨k, true⟩) → rewriteGoesOn s t)))

/-- R137: the flash arbiter chose at the end of a command: the port, the settings store and the purse of `t` are what its
choice leaves of the given ones, with everything else as `t` has it. What the choice does is `flashChosen`. -/
def flashFollows (port : FlashPort) (settings : Settings) (purse : Purse) (t : State) : Prop :=
  ∃ y : State, y = ({ t with flashPort := port, settings := settings, purse := purse }).chooseFlash ∧
    t.flashPort = y.flashPort ∧ t.settings = y.settings ∧ t.purse = y.purse

/-- R147: the settings store after a CHANGE mark. -/
def Settings.marked (x : Settings) : Settings := { x with dirty := .change }

/-- R137: nothing that may start waits: while the flash port is free the program queue is empty, the target is not WAITING,
and neither a rewrite in progress nor a CHANGE or forced one waits. -/
def FlashServed (s : State) : Prop :=
  s.flashFree = true → s.purse.queue = [] ∧ (∀ k : Fin 8, s.purse.target ≠ some ⟨k, true⟩) ∧
    s.settings.rewrite = none ∧ s.settings.forced = false ∧ s.settings.dirty ≠ .change

/-! ### Statistics -/

/-- R185, R186: the notices of a statistics set, in their order. -/
def statsSet (s : State) : List Notice :=
  (allOutputs.filter (fun o => (s.outCfg o).enabled)).map
      (fun o => .statsOutput o.val (s.outs[o]).tuneCode (s.outs[o]).counters) ++
    (allWindows.filter (fun k => (s.cfg.windows[k]).isSome)).map (fun k => .statsRing k.val (s.path.rings[k]).state
      (s.path.rings[k]).good (s.path.rings[k]).bad (s.path.rings[k]).corrected) ++
    [.statsGuide s.guide.lastVersion s.guide.map.length s.guide.pool.length s.guide.counters]

/-- R186: a statistics set is written: its notices are handed over in order, and every counter reported is 0. -/
def statsWritten (s t : State) : Prop :=
  handedOver (statsSet s) s t ∧
  (∀ o : Fin 6, t.outs[o] = { s.outs[o] with
    counters := if (s.outCfg o).enabled then ⟨0, 0, 0, 0, 0, 0⟩ else (s.outs[o]).counters }) ∧
  (∀ k : Fin 4, t.path.rings[k] = if (s.cfg.windows[k]).isSome
    then { s.path.rings[k] with good := 0, bad := 0, corrected := 0 } else s.path.rings[k]) ∧
  t.guide = { s.guide with counters := ⟨0, 0, 0, 0, 0, 0⟩ }

/-! ### Invariants -/

/-- DRAM and flash have their canonical form. -/
def MemoriesOk (s : State) : Prop :=
  Memory.wf dramDefault s.dram = true ∧ Memory.wf flashDefault s.flash = true

/-- R187: the lamp outputs follow their conditions. -/
def LampsOk (s : State) : Prop :=
  s.lamps.lock = s.lockCondition ∧ s.lamps.offer = (s.offerCondition && s.lamps.phase) ∧
    s.lamps.standby = decide (s.part = .standby)

/-- R139, R110, R129, R142: the balance and the overdraft limits lie in their ranges, and the program queue has room
for no more than 8 records. -/
def PurseOk (s : State) : Prop :=
  -10000 ≤ s.purse.balance ∧ s.purse.balance ≤ 1000000 ∧ s.rights.overdraft ≤ 10000 ∧
    s.cfg.factoryOverdraft ≤ 10000 ∧ s.purse.queue.length ≤ 8

/-- R58, R59, R60: the tune records and the contexts agree: an output that is not IDLE is a member of the context it
names, which is ACTIVE on its service and window; every member of a context is an output that names it; an ACTIVE
context has a member. -/
def PoolOk (s : State) : Prop :=
  (∀ (o : Fin 6) (t : Tuned), (s.outs[o]).tune = some t →
    o ∈ (s.ctxs[t.context]).members ∧
      ∃ u : Tuning, (s.ctxs[t.context]).life = .active u ∧ u.service = t.service ∧ u.window = t.window) ∧
  (∀ (c : Fin 8) (o : Fin 6), o ∈ (s.ctxs[c]).members → ∃ t : Tuned, (s.outs[o]).tune = some t ∧ t.context = c) ∧
  (∀ c : Fin 8, (s.ctxs[c]).isActive = true → (s.ctxs[c]).members ≠ [])

/-- R59: no two contexts that are STAGED or ACTIVE have the same service and window. -/
def PlacesUnique (s : State) : Prop :=
  ∀ (c d : Fin 8) (t u : Tuning), (s.ctxs[c]).tuning = some t → (s.ctxs[d]).tuning = some u →
    t.service = u.service → t.window = u.window → c = d

/-- An outcome write whose completion ends the processing of its record. -/
def OwnReq.ends (r : OwnReq) (n : Fin 256) : Prop := r.what = .outcome n ∧ r.void = false

/-- The slots of the two queues and of the attached record in processing (R25). -/
def Intake.accounted (i : Intake) : List (Fin 256) :=
  i.urgent ++ i.bulk ++
    match i.proc with
    | some ⟨n, .fetching⟩ => [n]
    | some ⟨n, .decided⟩ => [n]
    | some ⟨_, .detached _⟩ => []
    | none => []

/-- R25: each slot number stands at most once in the queues and the attached record in processing, and these are exactly
the TAKEN slots; and an outcome write that will end a record's processing belongs to the record in processing. -/
def IntakeOk (s : State) : Prop :=
  s.intake.accounted.Nodup ∧ (∀ n : Fin 256, s.intake.taken[n] = true ↔ n ∈ s.intake.accounted) ∧
    (∀ (r : OwnReq) (n : Fin 256), r ∈ s.port.ownAll → r.ends n → s.intake.proc = some ⟨n, .decided⟩) ∧
    s.port.ownAll.Pairwise (fun r x => ∀ n m : Fin 256, r.ends n → ¬ x.ends m)

/-- R181: the three indices lie in 0 to 1,022, the dropped count in 0 to 65,535, and so does the index that each
publishing write carries. -/
def RingOk (s : State) : Prop :=
  s.writer.writeIdx ≤ 1022 ∧ s.writer.pubIdx ≤ 1022 ∧ s.writer.consIdx ≤ 1022 ∧ s.writer.dropped ≤ 65535 ∧
    ∀ (r : OwnReq) (i : Nat), r ∈ s.port.ownAll → r.what = .publish i → i ≤ 1022

/-- R153: an allowed window lies in the day and is not empty. -/
def windowInRange (w : Option (Nat × Nat)) : Prop :=
  ∀ a b : Nat, w = some (a, b) → a ≤ 1439 ∧ b ≤ 1439 ∧ a ≠ b

/-- R153: a PIN has 4 to 8 digits. -/
def pinInRange (pin : List Nat) : Prop := 4 ≤ pin.length ∧ pin.length ≤ 8 ∧ ∀ d ∈ pin, d ≤ 9

/-- R153: every field of a profile lies in its range. -/
def Profile.InRange (p : Profile) : Prop :=
  p.ceiling ≤ 15 ∧ windowInRange p.window ∧ (∀ b : Nat, p.budget = some b → b ≤ 1440) ∧ p.minutesUsed ≤ 1440 ∧
    p.accumulator ≤ 59 ∧ pinInRange p.pin ∧ p.failures ≤ 5

/-- R154, R197: the factory settings of a profile lie in their ranges. -/
def FactoryProfile.InRange (f : FactoryProfile) : Prop :=
  f.ceiling ≤ 15 ∧ windowInRange f.window ∧ ∀ b : Nat, f.budget = some b → b ≤ 1440

/-- R153, R197: every profile and every factory setting lies in its range. -/
def ProfilesOk (s : State) : Prop :=
  (∀ q : Fin 6, (s.profiles[q]).InRange) ∧ (∀ q : Fin 6, (s.cfg.factoryProfiles[q]).InRange) ∧
    pinInRange s.cfg.defaultPin

/-! ### The minute tick -/

/-- R41: the local date is later than the budget date at a minute tick in ACTIVE or STANDBY. -/
def budgetDayBegins (s : State) : Prop :=
  s.part.mounted = true ∧ ∃ b d : Int, s.guide.budgetDate = some b ∧ s.guide.localDate = some d ∧ b < d

/-- R41: the budget date check sets an unset budget date, moves it forward to a later local date, and changes nothing
before the mount or without a local date. -/
def budgetDateMoved (s t : State) : Prop :=
  (∀ d : Int, s.part.mounted = true → s.guide.localDate = some d →
    (s.guide.budgetDate = none → t.guide.budgetDate = some d) ∧
    (∀ b : Int, s.guide.budgetDate = some b → t.guide.budgetDate = some (if b < d then d else b))) ∧
  (s.part.mounted = false ∨ s.guide.localDate = none → t.guide.budgetDate = s.guide.budgetDate)

/-- R41, R167: what the budget date check of a minute tick leaves of the budget date, the profiles' counts of the day, and
the gates that the budget kept CLOSED. -/
def budgetDateChecked (s t : State) : Prop :=
  budgetDateMoved s t ∧
  (budgetDayBegins s →
    (∀ q : Fin 6, t.profiles[q] = { s.profiles[q] with
      result := windowResult (s.profiles[q]).window s.guide.minuteOfDay
      minutesUsed := 0
      accumulator := 0
      warned := false }) ∧
    (∀ (x : Fin 6) (b : Nat), (s.profiles[(s.outCfg x).profile]).budget = some b → 0 < b →
      b ≤ (s.profiles[(s.outCfg x).profile]).minutesUsed → (t.outs[x]).gate ≠ .closed .budget ∨ (s.outs[x]).tune = none)) ∧
  (¬ budgetDayBegins s → ∀ q : Fin 6, t.profiles[q] = { s.profiles[q] with
    result := windowResult (s.profiles[q]).window s.guide.minuteOfDay })

/-- R121 steps 2 and 3, R118, R120: aged preview entries leave the table and those of events that have not ended stay, and
every verdict is what its criteria give on the tables after the tick. -/
def verdictsRecomputed (s t : State) : Prop :=
  (∀ m : Nat, s.guide.nowMinute = some m →
    (∀ x ∈ t.access.previews, m < x.endMinute + 60) ∧
    ((s.access.previews.map (·.event)).Nodup → ∀ x ∈ s.access.previews, m < x.endMinute → x ∈ t.access.previews)) ∧
  halvesJudged s t

/-- R121 step 4, R135: every tuned output whose gate stands CLOSED with PURCHASE has the offer of its governing half's event
at the price of now, or none if it has no price, and no other output has an offer. -/
def offersRefreshed (s t : State) : Prop :=
  ∀ (x : Fin 6) (v : Tuned), (s.outs[x]).tune = some v →
    ((s.outs[x]).offer ≠ none → (s.outs[x]).gate = .closed .purchase) →
    ((t.outs[x]).gate = .closed .purchase →
      (∀ (e : EventCriteria) (p : Nat), t.offeredEvent x = some e → t.priceNow e = some p →
        (t.outs[x]).offer = some ⟨e.event, p⟩) ∧
      (t.offeredEvent x = none ∨ (∃ e : EventCriteria, t.offeredEvent x = some e ∧ t.priceNow e = none) →
        (t.outs[x]).offer = none)) ∧
    ((t.outs[x]).gate ≠ .closed .purchase → (t.outs[x]).offer = none)

/-- An input of the gate of output `x` moves at a minute tick: the verdict of its governing half (R120), the current event of
its service since `before` was noted (R53), its profile's window result (R168), or, at a new budget day, a budget that was
reached (R167). -/
def tickMoves (before : List CurrentOf) (s t : State) (x : Fin 6) : Prop :=
  ∃ (v : Tuned) (p : Profile), (s.outs[x]).tune = some v ∧ p = s.profiles[(s.outCfg x).profile] ∧
    ((t.gateInputs x v).verdict ≠ (s.gateInputs x v).verdict ∨
      (∃ b ∈ before, b.service = v.service ∧
        b.event ≠ (t.guide.currentEvent v.service).map (fun e => (e.id, e.rating))) ∨
      windowResult p.window s.guide.minuteOfDay ≠ p.result ∨
      (budgetDayBegins s ∧ ∃ b : Nat, p.budget = some b ∧ b ≤ p.minutesUsed))

/-- R40, R178: the work of a minute tick on `s`, whose clock and offset are already those after the change that raised it;
`before` holds the current events before that change. Aged events and owned events leave (R52, R126), every window result
is computed afresh (R168), the reported value of every output that is not IDLE is its gate value at the end, the budget
date is checked (R41, R167), verdicts and offers follow (R120 to R122, R135), the check of the erase-ahead target is
repeated (R144), a change of the budget date marks the settings CHANGE and the flash arbiter has its choice (R137, R147),
and, where outputs and contexts agree, every gate with a moved input is what the tests give. -/
def minuteWorked (before : List CurrentOf) (s t : State) : Prop :=
  t.guide.clock = s.guide.clock ∧ t.guide.offset = s.guide.offset ∧ t.guide.map = s.guide.map ∧
  (∀ m : Nat, s.guide.nowMinute = some m →
    t.guide.pool = s.guide.pool.filter (fun e => decide (m < e.start + e.duration + 60)) ∧
    t.access.owned = s.access.owned.filter (fun e => decide (m < e.endMinute + 60))) ∧
  (s.guide.nowMinute = none → t.guide.pool = s.guide.pool ∧ t.access.owned = s.access.owned) ∧
  (∀ o : Fin 6, (t.outs[o]).tune = (s.outs[o]).tune ∧
    ((s.outs[o]).tune ≠ none → (t.outs[o]).reported = (t.outs[o]).gate)) ∧
  budgetDateChecked s t ∧ verdictsRecomputed s t ∧ offersRefreshed s t ∧
  (∃ x : Option Target, targetRechecked x s ∧
    flashFollows s.flashPort (if t.guide.budgetDate = s.guide.budgetDate then s.settings else s.settings.marked)
      { s.purse with target := x } t) ∧
  (PoolOk s → gatesFollow (tickMoves before s t) t)

/-! ### Safety -/

/-- A run is safe that never stops: every step answers a next state. -/
def neverStops (s : State) : Prop := ∃ t : State, step s = .next t

end Sys2Proof.Machine
end

