-- ==== Sys2Proof/Certificates/Slice0/Obligations.lean ====
section
/-! DEFINITION. The statements for the provers. Each names the rules of spec/ it formalises; where a clause rests on a
choice of the model, the docstring names the log entry. -/

section Statements

open Sys2Proof Sys2Proof.Machine

/-! ### The step -/

/-- The model's own (log entry 2): a step takes the command at the front of the queue and answers what `exec` answers for
it, with the rest of the queue waiting. -/
def Obligations.StepRunsFrontCommand : Prop :=
  ∀ (s : State) (c : Instr) (rest : List Instr), s.pending = c :: rest → step s = exec c { s with pending := rest }

/-- The model's own (log entry 2): with no command waiting, the part without power idles; with power, the commands that
are due join the queue, and where none is due a millisecond of part time passes. -/
def Obligations.StepWithoutCommand : Prop :=
  ∀ s : State, s.pending = [] →
    (s.powerGood = false → step s = .next s) ∧
    (s.powerGood = true → s.dueEvents = [] → step s = .next { s with ticks := { s.ticks with now := s.ticks.now + 1 } }) ∧
    (s.powerGood = true → s.dueEvents ≠ [] → step s = .next { s with pending := s.dueEvents })

/-- The model's own (log entry 4, DESIGN CHOICE): apart from POWER_LOSS, a command answers a next state in every state exactly
where its operands describe a command; a command whose event is not at hand answers the state as it is. R1 and R40 give
only what a well-formed request is, and that four blocks work at a minute tick. -/
def Obligations.ExactlyIllFormedCommandsStop : Prop :=
  ∀ (c : Instr) (s : State), (∀ remains : List Byte, c ≠ .powerLoss remains) →
    ((∃ t : State, exec c s = .next t) ↔ c.wf = true)

/-! ### Power, part states, link reset -/

/-- R17: at power-good the part is in START and reads the configuration image, with every other field at its power-on
value. DRAM and flash keep their bytes (log entry 9); the values R17 and the other rules leave open are those of log
entry 1. -/
def Obligations.PowerGoodStartsImageRead : Prop :=
  ∀ s : State, s.powerGood = false →
    exec .powerGood s = .next { State.reset with
      powerGood := true
      flashPort := ⟨some .imageRead, true⟩
      dram := s.dram
      flash := s.flash
      pending := s.pending }

/-- A power loss that finds no program or erase in progress leaves every field at its power-on value (where no rule gives one,
the value of log entry 1, DESIGN CHOICE) and DRAM and flash as they were (log entry 9, DESIGN CHOICE). R142: one during a
journal record's program leaves its place torn, with any bytes that are neither all FFh nor a good record, and every other
byte of flash as it was. Interrupted erases and rewrites (R145, R149) are not spoken of here. -/
def Obligations.PowerLossKeepsOrTears : Prop :=
  ∀ (s : State) (remains : List Byte), s.powerGood = true →
    ((∀ op : FlashOp, s.flashPort.op = some op → op.range = none) →
      exec (.powerLoss remains) s =
        .next { State.reset with dram := s.dram, flash := s.flash, pending := s.pending }) ∧
    (∀ r : JournalRecord, s.flashPort.op = some (.program r) → MemoriesOk s → remains.length = 32 →
      (∃ b ∈ remains, b ≠ 0xFF) → journalRecordOf remains r.place = none →
      ∃ t : State, exec (.powerLoss remains) s = .next t ∧ flashHolds (placeAddr r.place) remains s t ∧
        { t with flash := [] } = { State.reset with dram := s.dram, pending := s.pending })

/-- R33, R34, R19, R80, R192, R14: what a link reset leaves in MOUNTING, ACTIVE and STANDBY, and what it does not touch; the
judged reads that have not been answered are dropped (log entry 28, DEDUCED from R14). Each export read held for pacing is
answered as an IDLE blank, its stamp and padding FFh, in the order of first hold (R13; log entry 35, DESIGN CHOICE between
outputs), counted and recorded for its output, which is IDLE by then. The record in processing is gone, or, with its fetch
complete, goes on detached with its bytes (whether a fetch in service is complete is the operand). The own FIFO keeps what
the reset does not void (log entry 11), followed by the control-block write and, but in MOUNTING, by READY at index 0; the
held writes are released slot by slot (the steps in one order: log entry 13, DEDUCED). In FAULT it empties the upstream FIFO
alone (R15, R18). In START it changes nothing: R17 says that it removes nothing from the held requests, and that their
answers are kept as well is log entry 19 (DEDUCED). -/
def Obligations.LinkResetClearsLinkState : Prop :=
  ∀ (s : State) (complete : Bool), s.powerGood = true →
    (s.part = .start → exec (.linkReset complete) s = .next s) ∧
    (s.part = .fault → ∃ t : State, exec (.linkReset complete) s = .next t ∧
      t.port.up = [] ∧ (∀ u ∈ t.port.upAll, u.lost = true) ∧ onlyChanges [.upstream, .own] s t) ∧
    (s.part.running = true → ∃ t : State, exec (.linkReset complete) s = .next t ∧
      t.part = (if s.part = .mounting then .mounting else .active) ∧
      (∀ n : Fin 256, t.intake.taken[n] = false) ∧ t.intake.urgent = [] ∧ t.intake.bulk = [] ∧
      t.intake.streak = 0 ∧ t.intake.held = [] ∧
      (∀ u ∈ t.port.upAll, u.lost = true) ∧ (∀ r ∈ t.port.ownAll, r.what.ofRecord = true → r.void = true) ∧
      (∀ o : Fin 6, (t.outs[o]).tune = none ∧ (t.outs[o]).eventUnlock = none ∧ (t.outs[o]).periodUnlock = none ∧
        (t.outs[o]).gate = .closed .idle ∧ (t.outs[o]).reported = .closed .idle ∧ (t.outs[o]).offer = none) ∧
      (∀ (o : Fin 6) (n : Nat), n = (s.path.paceHeld.filter (fun u => s.boundOutput u.req.tag = some o)).length →
        (t.outs[o]).counters = (if (s.outCfg o).enabled then ⟨0, 0, min 4294967295 n, 0, 0, 0⟩ else ⟨0, 0, 0, 0, 0, 0⟩) ∧
        (t.outs[o]).pace = (s.outs[o]).pace ∧
        (t.outs[o]).delivery = (let d : Delivery :=
            if (s.outs[o]).tune = none then (s.outs[o]).delivery else ⟨none, 0, none⟩
          if n = 0 then d else { d with count := 0, lastBlank := some .idle })) ∧
      t.path.answers = s.path.answers ++ (s.path.paceHeld.filter (fun u =>
          !u.lost && (s.boundOutput u.req.tag).isSome)).map (fun u => ⟨u.req,
        (List.replicate u.req.len 0xFF).take 4 ++ blankPacket ++ (List.replicate u.req.len 0xFF).drop 192⟩) ∧
      (s.intake.proc = none → t.intake.proc = none) ∧
      (∀ (n : Fin 256) (b : List Byte), s.intake.proc = some ⟨n, .detached b⟩ → t.intake.proc = some ⟨n, .detached b⟩) ∧
      (∀ n : Fin 256, s.intake.proc = some ⟨n, .decided⟩ → t.intake.proc = none) ∧
      (∀ n : Fin 256, s.intake.proc = some ⟨n, .fetching⟩ →
        (complete = true → s.fetched ≠ none →
          t.intake.proc = some ⟨n, .detached (s.dramRead (s.cfg.msgBase + 256 * n.val) 256)⟩) ∧
        (complete = false ∨ s.fetched = none → t.intake.proc = none)) ∧
      t.port.upAll = (match s.port.serving with
          | some (.upstream u) => [{ u with lost := true }]
          | some (.own _) => []
          | none => []) ++
        (List.finRange 256).flatMap (fun n => (s.intake.held.filter (fun h => h.1 = n)).map (fun h =>
          { h.2 with lost := true })) ∧
      t.port.ownAll = (match s.port.serving with
          | some (.own r) => if complete = true ∧ s.fetched ≠ none ∧ (∃ n : Fin 256, s.intake.proc = some ⟨n, .fetching⟩)
              then [] else [{ r with void := r.void || r.what.ofRecord || r.what.ofNotices }]
          | some (.upstream _) => []
          | none => []) ++
        s.port.own.filter (fun r => !(r.what.ofRecord || r.what.ofNotices)) ++
        [⟨.controlBlock, s.cfg.repBase, zeros 64, false⟩] ++
        (if s.part = .mounting then [] else
          [⟨.entry, s.cfg.repBase + 64,
            (Notice.ready true s.cfg.version s.cfg.unitId s.purse.balance s.purse.newest).entry false 0 s.ticks.now
              s.guide.clock, false⟩,
           ⟨.publish 1, s.cfg.repBase, beBytes 4 1 ++ zeros 4, false⟩]) ∧
      t.writer.statsEnd = (if s.part = .mounting ∨ s.cfg.statPeriod = 0 then s.writer.statsEnd
        else some (s.ticks.now + s.cfg.statPeriod * 1000)) ∧ t.writer.consumerCopy = s.writer.consumerCopy ∧
      (∀ c : Fin 8, t.ctxs[c] = Context.free) ∧
      t.guide = { s.guide with retained := [], counters := GuideCounters.zero } ∧
      (∀ k : Fin 4, t.path.rings[k] = { s.path.rings[k] with good := 0, bad := 0, corrected := 0 }) ∧
      t.path.paceHeld = [] ∧ t.path.leaving = [] ∧
      t.writer.writeIdx = (if s.part = .mounting then 0 else 1) ∧ t.writer.pubIdx = 0 ∧ t.writer.consIdx = 0 ∧
      t.writer.overrun = false ∧ t.writer.dropped = 0 ∧ t.writer.line = false ∧ t.writer.delayEnd = none ∧
      t.writer.statsDeferred = false ∧
      onlyChanges [.power, .path, .upstream, .own, .intake, .guide, .contexts, .outputs, .writer] s t)

/-- R17, R18, R188: when the image read completes, a good image is loaded, the part enters MOUNTING, the rights and
profiles take their factory values, the control-block write is issued, the settings sector is read, and the requests held
in START are classified under the new map; a bad image makes the part FAULT and the held requests pass as plain ones.
Every slot is FREE before, as in START (R36). -/
def Obligations.ImageReadMountsOrFaults : Prop :=
  ∀ s : State, s.flashPort.op = some .imageRead → (∀ n : Fin 256, s.intake.taken[n] = false) →
    (imageGood s.imageBytes = true → ∃ t : State, exec .configImageReadComplete s = .next t ∧
      t.cfg = imageOf s.imageBytes ∧ t.part = .mounting ∧ t.rights = t.cfg.factoryRights ∧
      t.profiles = t.cfg.profiles ∧ t.flashPort = { s.flashPort with op := some .settingsRead } ∧
      t.path = { s.path with startHeld := [] } ∧
      t.port.ownAll = s.port.ownAll ++ [⟨.controlBlock, t.cfg.repBase, zeros 64, false⟩] ∧
      t.port.upAll = s.port.upAll ++ s.path.startHeld.map (fun r => ⟨r, t.classify r.addr, none, false⟩) ∧
      onlyChanges [.power, .config, .path, .upstream, .own, .rights, .profiles, .flashWork] s t) ∧
    (imageGood s.imageBytes = false → ∃ t : State, exec .configImageReadComplete s = .next t ∧
      t.part = .fault ∧ t.flashPort = { s.flashPort with op := none } ∧
      t.path = { s.path with startHeld := [] } ∧
      t.port.upAll = s.port.upAll ++ s.path.startHeld.map (fun r => ⟨r, .plain, none, false⟩) ∧
      onlyChanges [.power, .path, .upstream, .flashWork] s t)

/-- R190, R191, R147: a STANDBY action in ACTIVE makes every output IDLE, frees every context, clears unlocks and offers,
sets the forced flag of dirty settings (whose rewrite may start at once), and the part is in STANDBY; a WAKE action in
STANDBY makes the part ACTIVE and nothing else. An action that finds the part there already changes nothing. -/
def Obligations.PowerRecordsMoveBetweenActiveAndStandby : Prop :=
  ∀ (s : State) (f : Fetched), atHand s .power f →
    (f.bytes.b1 0 = 1 → s.part = .active → ∃ t : State, exec .powerStandby s = .next t ∧
      answersWith f .power (accepted 1) s.freePort t ∧ t.part = .standby ∧ t.lamps.standby = true ∧
      (∀ o : Fin 6, (t.outs[o]).tune = none ∧ (t.outs[o]).eventUnlock = none ∧ (t.outs[o]).periodUnlock = none ∧
        (t.outs[o]).gate = .closed .idle ∧ (t.outs[o]).offer = none ∧ (t.outs[o]).counters = (s.outs[o]).counters) ∧
      (∀ c : Fin 8, t.ctxs[c] = Context.free) ∧ t.guide = { s.guide with retained := [] } ∧
      (s.flashFree = false →
        t.settings = { s.settings with forced := s.settings.forced || decide (s.settings.dirty ≠ .none) }) ∧
      onlyChanges [.power, .own, .intake, .guide, .contexts, .outputs, .flashWork] s t) ∧
    (f.bytes.b1 0 = 2 → s.part = .standby → ∃ t : State, exec .powerWake s = .next t ∧
      answersWith f .power (accepted 1) s.freePort t ∧ t.part = .active ∧ t.lamps.standby = false ∧
      onlyChanges [.power, .own, .intake] s t) ∧
    (f.bytes.b1 0 = 1 → s.part = .standby → ∃ t : State, exec .powerStandby s = .next t ∧
      onlyAnswers f .power (accepted 0) s t) ∧
    (f.bytes.b1 0 = 2 → s.part = .active → ∃ t : State, exec .powerWake s = .next t ∧
      onlyAnswers f .power (accepted 0) s t)

/-! ### The memory path -/

/-- R1, R17, R18, R23: an upstream request is held on the link in START, passes as plain in FAULT, and is otherwise
classified; a write to a TAKEN slot is then held against it, and every other request joins the upstream FIFO. -/
def Obligations.RequestsAreHeldOrPresented : Prop :=
  ∀ (r : Request) (s : State), r.wf = true → s.powerGood = true →
    ∃ t : State, exec (.upstreamRequest r) s = .next t ∧
      (s.part = .start →
        t.path = { s.path with startHeld := s.path.startHeld ++ [r] } ∧ onlyChanges [.path] s t) ∧
      (s.part = .fault →
        t.port.upAll = s.port.upAll ++ [⟨r, .plain, none, false⟩] ∧ onlyChanges [.upstream] s t) ∧
      (s.part.running = true →
        if s.classify r.addr = .message ∧ isWrite r = true ∧ s.intake.taken[s.slotOf r.addr] = true then
          t.intake = { s.intake with
            held := s.intake.held ++ [(s.slotOf r.addr, ⟨r, s.classify r.addr, none, false⟩)] } ∧
            onlyChanges [.intake] s t
        else
          t.port.upAll = s.port.upAll ++ [⟨r, s.classify r.addr, none, false⟩] ∧ onlyChanges [.upstream] s t)

/-- R3, R6: a request that is only passed: a write puts its bytes into DRAM and is acknowledged, a read is answered with
what DRAM holds, and nothing else changes. -/
def Obligations.PassedRequestsReadAndWriteMemory : Prop :=
  ∀ (s : State) (u : UpReq), MemoriesOk s → s.servingUp = some u → s.completionOf u = .pass →
    ∃ t : State, exec .passRequestComplete s = .next t ∧
      answersOne u (if isWrite u.req then [] else s.dramRead u.req.addr u.req.len) s t ∧
      dramHolds u.req.addr (writeData u.req) s t ∧ t.port.upAll = s.port.up ∧
      onlyChanges [.path, .upstream, .dram] s t

/-- R4, R5: what a cell arrival, and the silence timer, do to the ring of their window: the counters, the last good
arrival, the good-run count, the state, and a RING notice exactly when the state changes. -/
def Obligations.RingsFollowArrivals : Prop :=
  (∀ (s : State) (u : UpReq) (k : Fin 4) (good : Bool), MemoriesOk s → s.servingUp = some u →
    s.completionOf u = .arrival k good →
    ∃ t : State, exec .cellArrival s = .next t ∧
      t.path.rings[k] =
        (let r := s.path.rings[k]
         if good then
           (if r.state = .live then { r with good := satInc r.good, lastGood := some s.ticks.now }
            else { r with
              good := satInc r.good
              lastGood := some s.ticks.now
              goodRun := min 2 (r.goodRun + 1)
              state := if 1 ≤ r.goodRun then .live else .silent })
         else { r with bad := satInc r.bad, goodRun := if r.state = .live then r.goodRun else 0 }) ∧
      (∀ x : Fin 4, x ≠ k → t.path.rings[x] = s.path.rings[x]) ∧
      handedOver (if (s.path.rings[k]).state = .silent ∧ good = true ∧ 1 ≤ (s.path.rings[k]).goodRun
        then [.ring k.val .live] else []) s t ∧
      t.path.answers = s.path.answers ++ (if u.lost then [] else [⟨u.req, []⟩]) ∧
      dramHolds u.req.addr (writeData u.req) s t ∧ t.port.upAll = s.port.up ∧
      onlyChanges [.path, .upstream, .own, .writer, .dram] s t) ∧
  (∀ (s : State) (k : Fin 4), s.silenceDue k = true →
    ∃ t : State, exec (.silenceTimerExpiry k) s = .next t ∧
      t.path = { s.path with rings := s.path.rings.set k { s.path.rings[k] with state := .silent, goodRun := 0 } } ∧
      handedOver [.ring k.val .silent] s t ∧ onlyChanges [.path, .own, .writer] s t)

/-- R6 to R12, R75, R77, R174: a whole cell read of an output whose gate stands CLOSED once the read has been judged is
answered with a blank packet between the stored stamp and padding: no stored byte of the packet leaves the part. And where
the procedure blanks a read without a parity flip, the blank has the reason that R8 to R10 give, is counted and recorded,
and stalls a PRESENTING output 3,000 ms after its last delivery: IDLE for an IDLE output; OTHER_STREAM for a malformed
packet, a scrambled packet of a stream not listed, a listed one of reserved parity; GATE for any other packet behind a
CLOSED gate; NO_KEY where the half of the packet's parity is absent. -/
def Obligations.ClosedGateGivesBlankPackets : Prop :=
  (∀ (s t : State) (u : UpReq) (k : Fin 4) (o : Fin 6) (ecc : EccFinding),
    s.servingUp = some u → s.completionOf u = .cell k o → u.lost = false → wholeRead u.req = true →
    s.paceFull o = false → exec (.cellRead (.whole ecc)) s = .next t → (t.outs[o]).gate ≠ .opened →
    t.path.answers = s.path.answers ++
      [⟨u.req, (s.dramRead u.req.addr u.req.len).take 4 ++ blankPacket ++ (s.dramRead u.req.addr u.req.len).drop 192⟩]) ∧
  (∀ (s : State) (u : UpReq) (k : Fin 4) (o : Fin 6) (ecc : EccFinding) (r : BlankReason),
    s.servingUp = some u → s.completionOf u = .cell k o → wholeRead u.req = true → s.paceFull o = false →
    ((r = .idle ∧ (s.outs[o]).tune = none) ∨
      ∃ (w : Tuned) (p : Packet), (s.outs[o]).tune = some w ∧ p = packetOf (s.dramRead u.req.addr u.req.len) ∧
        ((p.malformed = true ∧ r = .otherStream) ∨
          (p.malformed = false ∧ (s.ctxs[w.context]).lists p.stream = false ∧
            (((∃ x : HalfParity, p.parity = .scrambled x) ∧ r = .otherStream) ∨
              ((∀ x : HalfParity, p.parity ≠ .scrambled x) ∧ (s.outs[o]).gate ≠ .opened ∧ r = .gate))) ∨
          (p.malformed = false ∧ (s.ctxs[w.context]).lists p.stream = true ∧
            ((p.parity = .reserved ∧ r = .otherStream) ∨
              (p.parity = .clear ∧ (s.outs[o]).gate ≠ .opened ∧ r = .gate) ∨
              ∃ x : HalfParity, p.parity = .scrambled x ∧ (s.ctxs[w.context]).parity = some x ∧
                (((s.outs[o]).gate ≠ .opened ∧ r = .gate) ∨
                  ((s.outs[o]).gate = .opened ∧ (s.ctxs[w.context]).half x = none ∧ r = .noKey)))))) →
    ∃ t : State, exec (.cellRead (.whole ecc)) s = .next t ∧ blankedRead u o r s t)

/-- R7 to R13, R73, R76, R96 to R99: cell reads that complete. With the gate OPEN, a clear packet of a listed stream and an
unscrambled packet of any other are answered as stored, and a scrambled packet of the current parity whose half is present
and checks clean or corrected (which is counted for the window) is answered descrambled with that half's content key; the
read is a delivery: it is counted, timed, paced, and it ends SEEKING, or a stall at the second in a row. A partial read is
counted and answered FFh; a read beyond the pace limit is held unanswered. A scrambled packet of a listed stream and another
parity flips the context's parity first, evaluates its members' gates, and is then read as any other (R9, R91). A half whose
key is uncorrectable is discarded with KEY_FAULT, gates follow if it governed, and the read is blanked NO_KEY (R97, R10). A
read may be taken in two steps (R64, log entry 28): judged and counted just so, its response and its event wait; they reach
the link, and the tune record as it then stands, with the part time of that moment (R12), when the response leaves. -/
def Obligations.CellReadsDeliverOrWait : Prop :=
  (∀ (s : State) (u : UpReq) (k : Fin 4) (o : Fin 6) (ecc : EccFinding) (step : ReadStep),
    s.servingUp = some u → s.completionOf u = .cell k o → step = .whole ecc ∨ step = .judged ecc →
    (wholeRead u.req = false → ∃ t : State, exec (.cellRead step) s = .next t ∧
      answersOne u (partialBytes (u.req.addr % 256) (s.dramRead u.req.addr u.req.len)) s t ∧
      (t.outs[o]) = { s.outs[o] with counters := if (s.outCfg o).enabled
        then { (s.outs[o]).counters with partials := satInc (s.outs[o]).counters.partials }
        else (s.outs[o]).counters } ∧
      otherOutputs o s t ∧ t.port.upAll = s.port.up ∧ onlyChanges [.path, .upstream, .outputs] s t) ∧
    (wholeRead u.req = true → s.paceFull o = true → u.firstHeld = none →
      ∃ t : State, exec (.cellRead step) s = .next t ∧
        t.path = { s.path with
          paceHeld := s.path.paceHeld ++ [{ u with firstHeld := some s.path.holdCount }]
          holdCount := s.path.holdCount + 1 } ∧
        t.port.upAll = s.port.up ∧ onlyChanges [.path, .upstream] s t) ∧
    (∀ (w : Tuned) (cell : List Byte), cell = s.dramRead u.req.addr u.req.len → wholeRead u.req = true →
      s.paceFull o = false → (s.outs[o]).tune = some w → (packetOf cell).malformed = false →
      ((s.outs[o]).gate = .opened →
        ∀ (clear : Bool) (bytes : List Byte),
          (clear = true ∧ bytes = cell ∧
            ((s.ctxs[w.context]).lists (packetOf cell).stream = true ∧ (packetOf cell).parity = .clear ∨
              (s.ctxs[w.context]).lists (packetOf cell).stream = false ∧
                ∀ x : HalfParity, (packetOf cell).parity ≠ .scrambled x) ∨
            clear = false ∧ (s.ctxs[w.context]).lists (packetOf cell).stream = true ∧ ecc ≠ .uncorrectable ∧
              ∃ (p : HalfParity) (h : Half), (packetOf cell).parity = .scrambled p ∧
                (s.ctxs[w.context]).parity = some p ∧ (s.ctxs[w.context]).half p = some h ∧
                bytes = descrambled h.content cell) →
          ∃ t : State, exec (.cellRead (.whole ecc)) s = .next t ∧
            t.path.answers = s.path.answers ++ (if u.lost then [] else [⟨u.req, bytes⟩]) ∧
            (∀ x : Fin 4, t.path.rings[x] =
              if clear = false ∧ ecc = .singleBit ∧ (s.ctxs[w.context]).tuning.map (·.window) = some x
              then { s.path.rings[x] with corrected := satInc (s.path.rings[x]).corrected } else s.path.rings[x]) ∧
            (t.outs[o]).delivery =
              { (s.outs[o]).delivery with last := some s.ticks.now, count := satInc (s.outs[o]).delivery.count } ∧
            (t.outs[o]).pace = (s.outs[o]).pace + (if (s.outCfg o).isExport then 1 else 0) ∧
            (t.outs[o]).counters = (if (s.outCfg o).enabled then
                (if clear then { (s.outs[o]).counters with clear := satInc (s.outs[o]).counters.clear }
                 else { (s.outs[o]).counters with descrambled := satInc (s.outs[o]).counters.descrambled })
              else (s.outs[o]).counters) ∧
            (t.outs[o]).tune = some (match w.phase with
              | .stalled _ => if 2 ≤ satInc (s.outs[o]).delivery.count then { w with phase := .presenting } else w
              | .seeking _ => { w with phase := .presenting }
              | .presenting => w) ∧
            handedOver (match w.phase with
              | .stalled since => if 2 ≤ satInc (s.outs[o]).delivery.count then
                  [.resumed o.val w.window.val w.service w.context.val (s.ticks.now - since)] else []
              | .seeking _ => [.tuned o.val w.window.val w.service w.context.val (s.ctxs[w.context]).scrambled
                  (s.ticks.now - w.seekStart)]
              | .presenting => []) s t ∧
            otherOutputs o s t ∧ t.port.upAll = s.port.up ∧ onlyChanges [.path, .upstream, .own, .outputs, .writer] s t) ∧
      (∀ x : HalfParity, (s.ctxs[w.context]).lists (packetOf cell).stream = true →
        (packetOf cell).parity = .scrambled x →
        ((s.ctxs[w.context]).parity ≠ some x →
          exec (.cellRead step) s = exec (.cellRead step) (s.flipParity w.context x)) ∧
        (∀ h : Half, (s.ctxs[w.context]).parity = some x → (s.outs[o]).gate = .opened →
          (s.ctxs[w.context]).half x = some h →
          ∃ t : State, exec (.cellRead (.whole .uncorrectable)) s = .next t ∧
            blankedRead u o .noKey (s.keyFault w.context x false) t))) ∧
    (wholeRead u.req = true → s.paceFull o = false →
      ∃ (t x : State) (l : Leaving), exec (.cellRead (.whole ecc)) s = .next t ∧ exec (.cellRead (.judged ecc)) s = .next x ∧
        l.output = o ∧ l.read = u ∧ x.path.leaving = s.path.leaving ++ [l] ∧ x.path.answers = s.path.answers ∧
        t.path = { x.path with
          leaving := s.path.leaving
          answers := s.path.answers ++ if u.lost then [] else [⟨u.req, l.data⟩] } ∧
        x.ctxs = t.ctxs ∧
        x.outs[o] = { t.outs[o] with tune := (s.outs[o]).tune, delivery := (s.outs[o]).delivery } ∧
        (l.event = .delivery → (t.outs[o]).delivery =
          { (s.outs[o]).delivery with last := some s.ticks.now, count := satInc (s.outs[o]).delivery.count }) ∧
        (∀ r : BlankReason, l.event = .blank r → (t.outs[o]).delivery =
          { (s.outs[o]).delivery with count := 0, lastBlank := some r }) ∧
        x.port.upAll = s.port.up ∧ onlyChanges [.path, .upstream, .own, .contexts, .outputs, .writer] s x)) ∧
  (∀ (s : State) (k : Nat) (l : Leaving), s.path.leaving[k]? = some l →
    ∃ t : State, exec (.cellRead (.answered k)) s = .next t ∧ eventTaken l.output l.event s t ∧
      t.path = { s.path with
        leaving := s.path.leaving.eraseIdx k
        answers := s.path.answers ++ if l.read.lost then [] else [⟨l.read.req, l.data⟩] } ∧
      onlyChanges [.path, .own, .outputs, .writer] s t) ∧
  (∀ (s : State) (c : Fin 8) (x : HalfParity),
    (s.flipParity c x).ctxs[c] = { s.ctxs[c] with parity := some x } ∧ otherContexts c s (s.flipParity c x) ∧
    gatesFollow (fun m => (s.ctxs[c]).isActive = true ∧ m ∈ (s.ctxs[c]).members) (s.flipParity c x) ∧
    onlyChanges [.own, .contexts, .outputs, .writer] s (s.flipParity c x)) ∧
  (∀ (s : State) (c : Fin 8) (x : HalfParity) (compare : Bool) (h : Half) (v : Tuning),
    (s.ctxs[c]).half x = some h → (s.ctxs[c]).tuning = some v →
    ((s.keyFault c x compare).ctxs[c]).half x = none ∧
    (∀ y : HalfParity, y ≠ x → ((s.keyFault c x compare).ctxs[c]).half y = (s.ctxs[c]).half y) ∧
    otherContexts c s (s.keyFault c x compare) ∧
    ((∀ g : HalfParity × Half, (s.ctxs[c]).governing = some g → g.1 ≠ x) ∨ (s.ctxs[c]).isActive = false →
      handedOver [.keyFault c.val v.window.val v.service x compare] s (s.keyFault c x compare) ∧
      (s.keyFault c x compare).outs = s.outs) ∧
    ((∃ g : HalfParity × Half, (s.ctxs[c]).governing = some g ∧ g.1 = x) →
      gatesFollow (fun m => (s.ctxs[c]).isActive = true ∧ m ∈ (s.ctxs[c]).members) (s.keyFault c x compare)) ∧
    onlyChanges [.own, .contexts, .outputs, .writer] s (s.keyFault c x compare))

/-- R13: when a pace window opens, every pace count is 0 and the held reads are presented again in the order in which they
were first held (one order for all EXPORT outputs together: log entry 35, DESIGN CHOICE; R13 orders those of one output). -/
def Obligations.PaceWindowPresentsHeldReads : Prop :=
  ∀ s : State, s.paceDue = true →
    ∃ t : State, exec .paceWindowOpen s = .next t ∧
      (∀ o : Fin 6, t.outs[o] = { s.outs[o] with pace := 0 }) ∧
      t.path = { s.path with paceHeld := [], paceWindow := s.ticks.now / 10 } ∧
      t.port.upAll = s.port.upAll ++ s.path.paceHeld ∧ onlyChanges [.path, .upstream, .outputs] s t

/-- R15, R195, R34: an own write puts its bytes into DRAM and frees the port; the control-block write also sets the copy of
the consumer-index word to 0; the data of an abandoned slot fetch is discarded. -/
def Obligations.OwnRequestsComplete : Prop :=
  ∀ (s : State) (r : OwnReq), MemoriesOk s → s.servingOwn = some r →
    (r.what.plain = true → ∃ t : State, exec .ownWriteComplete s = .next t ∧
      dramHolds r.addr r.data s t ∧ t.port.ownAll = s.port.own ∧ onlyChanges [.own, .dram] s t) ∧
    (r.what = .controlBlock → ∃ t : State, exec .controlBlockWriteComplete s = .next t ∧
      dramHolds r.addr r.data s t ∧ t.port.ownAll = s.port.own ∧
      t.writer = { s.writer with consumerCopy := [0, 0, 0, 0] } ∧ onlyChanges [.own, .dram, .writer] s t) ∧
    (∀ n : Fin 256, r.what = .fetch n → r.void = true → ∃ t : State, exec .discardedFetchComplete s = .next t ∧
      t.port.ownAll = s.port.own ∧ onlyChanges [.own] s t)

/-- R15: the arbiter of a free DRAM port: a lone FIFO's head is served; of two heads the upstream one, unless the own head
has been passed over by 16 upstream requests; each upstream request served while an own one waits raises the count, which
starts at 0 for the next own head. A slot fetch held back under R16 is not the choice. -/
def Obligations.PortServesOwnHeadAfterSixteen : Prop :=
  ∀ (up : List UpReq) (own : List OwnReq) (n : Nat) (u : UpReq) (r : OwnReq),
    (Port.mk [] [] n none).serve false = Port.mk [] [] n none ∧
    (Port.mk (u :: up) [] n none).serve false = Port.mk up [] n (some (.upstream u)) ∧
    (Port.mk [] (r :: own) n none).serve false = Port.mk [] own 0 (some (.own r)) ∧
    (n < 16 → (Port.mk (u :: up) (r :: own) n none).serve false = Port.mk up (r :: own) (n + 1) (some (.upstream u))) ∧
    (16 ≤ n → (Port.mk (u :: up) (r :: own) n none).serve false = Port.mk (u :: up) own 0 (some (.own r))) ∧
    (∀ x : Serving, (Port.mk up own n (some x)).serve false = Port.mk up own n (some x)) ∧
    (Port.mk (u :: up) (r :: own) n none).serve true = Port.mk up (r :: own) (n + 1) (some (.upstream u))

/-! ### Message slots and Intake -/

/-- R22, R26, R27: a write of a non-zero kind byte to a FREE slot takes the slot into the queue of its kind. With a record
in processing the slot number only joins its queue; an idle Intake with empty queues selects it at once and issues its
fetch. -/
def Obligations.HeaderWriteTakesSlot : Prop :=
  ∀ (s : State) (u : UpReq) (n : Fin 256) (kind : Byte), MemoriesOk s → s.servingUp = some u →
    s.completionOf u = .take n kind →
    ∃ t : State, exec .slotTake s = .next t ∧
      t.intake.taken = s.intake.taken.set n true ∧ t.intake.held = s.intake.held ∧
      answersOne u [] s t ∧ dramHolds u.req.addr (writeData u.req) s t ∧ t.port.upAll = s.port.up ∧
      (s.intake.proc ≠ none →
        t.intake.urgent = s.intake.urgent ++ (if urgentKind kind then [n] else []) ∧
        t.intake.bulk = s.intake.bulk ++ (if urgentKind kind then [] else [n]) ∧
        t.intake.streak = s.intake.streak ∧ t.intake.proc = s.intake.proc ∧ t.port.ownAll = s.port.ownAll) ∧
      (s.intake.proc = none → s.intake.urgent = [] → s.intake.bulk = [] →
        t.intake.urgent = [] ∧ t.intake.bulk = [] ∧ t.intake.proc = some ⟨n, .fetching⟩ ∧
        t.intake.streak = (if urgentKind kind then min 4 (s.intake.streak + 1) else 0) ∧
        t.port.ownAll = s.port.ownAll ++ [s.fetchRead n]) ∧
      onlyChanges [.path, .upstream, .own, .intake, .dram] s t

/-- R32, R24, R26: when the outcome write completes, DRAM holds status and detail, the slot is FREE, its held writes are
presented in their order of arrival, processing ends, and the next record is selected: the urgent head while the streak is
below 4 or no bulk record waits, otherwise the bulk head. -/
def Obligations.OutcomeWriteFreesSlotAndSelects : Prop :=
  ∀ (s : State) (r : OwnReq) (n : Fin 256), MemoriesOk s → s.servingOwn = some r → r.what = .outcome n →
    (r.void = true → ∃ t : State, exec .outcomeWriteComplete s = .next t ∧
      dramHolds r.addr r.data s t ∧ t.port.ownAll = s.port.own ∧ onlyChanges [.own, .dram] s t) ∧
    (r.void = false → ∃ t : State, exec .outcomeWriteComplete s = .next t ∧
      dramHolds r.addr r.data s t ∧
      t.intake.taken = s.intake.taken.set n false ∧
      t.intake.held = s.intake.held.filter (fun h => h.1 ≠ n) ∧
      t.port.upAll = s.port.up ++ (s.intake.held.filter (fun h => h.1 = n)).map (·.2) ∧
      (s.intake.urgent = [] → s.intake.bulk = [] →
        t.intake.proc = none ∧ t.intake.urgent = [] ∧ t.intake.bulk = [] ∧ t.intake.streak = s.intake.streak ∧
        t.port.ownAll = s.port.own) ∧
      (∀ (x : Fin 256) (xs : List (Fin 256)), s.intake.urgent = x :: xs → s.intake.streak < 4 ∨ s.intake.bulk = [] →
        t.intake.proc = some ⟨x, .fetching⟩ ∧ t.intake.urgent = xs ∧ t.intake.bulk = s.intake.bulk ∧
        t.intake.streak = min 4 (s.intake.streak + 1) ∧ t.port.ownAll = s.port.own ++ [s.fetchRead x]) ∧
      (∀ (x : Fin 256) (xs : List (Fin 256)), s.intake.bulk = x :: xs → 4 ≤ s.intake.streak ∨ s.intake.urgent = [] →
        t.intake.proc = some ⟨x, .fetching⟩ ∧ t.intake.bulk = xs ∧ t.intake.urgent = s.intake.urgent ∧
        t.intake.streak = 0 ∧ t.port.ownAll = s.port.own ++ [s.fetchRead x]) ∧
      onlyChanges [.upstream, .own, .intake, .dram] s t)

/-- R28, R29, R43, R49, R85 to R87, R104: refused records are answered with their code and change nothing else, but for the
counter R56 names: a record of no kind; a BUY of a wrong length, or turned away by the part state, its PIN field scrubbed
all the same (R31); a KEY that fails its integrity check, finds no context, or carries an older epoch; a RIGHTS that fails a
check; an EVENTS with a wrong CRC, a field out of range, an unknown service or the stored section version (STALE); a
SERVICES with a bad item. R31, R32, 12.1: an answer is status and detail at slot bytes 3 to 7; the PIN fields of BUY (bytes
20 to 27), PIN (12 to 27) and PROFILE (20 to 35) are written 00h before it, one write a field (log entry 12). R34: a
detached record of no kind, of a wrong length, or a WAKE has its effect and no write to its slot, and the next record is
selected. R16: a slot fetch at the head of the own FIFO is not served while an upstream write to its slot waits, however
often it was passed over. -/
def Obligations.RecordAnswersAndRefusals : Prop :=
  (∀ (s : State) (f : Fetched),
    (s.fetched = some f → f.attached = true → f.bytes.kind = none →
      ∃ t : State, exec .recordBadKind s = .next t ∧
        t.port.ownAll = s.port.own ++ [s.outcomeWrite f.slot ⟨.badKind, 0⟩] ∧
        t.intake = { s.intake with proc := some ⟨f.slot, .decided⟩ } ∧ onlyChanges [.own, .intake] s t) ∧
    (s.fetched = some f → f.attached = true → f.bytes.kind = some .buy →
      (f.bytes.lengthOk .buy = false → ∃ t : State, exec .buy s = .next t ∧ onlyAnswers f .buy ⟨.badLength, 0⟩ s t) ∧
      (f.bytes.lengthOk .buy = true → s.part = .mounting →
        ∃ t : State, exec .buy s = .next t ∧ onlyAnswers f .buy ⟨.notReady, 0⟩ s t) ∧
      (f.bytes.lengthOk .buy = true → s.part = .standby →
        ∃ t : State, exec .buy s = .next t ∧ onlyAnswers f .buy ⟨.standby, 0⟩ s t)) ∧
    (∀ u : KeyUnwrap, atHand s .key f →
      (u.pass = false → ∃ t : State, exec (.key u) s = .next t ∧ onlyAnswers f .key ⟨.badCheck, 0⟩ s t) ∧
      (keyChecks u.pass f.bytes = none → s.findContext (f.bytes.b2 0) (f.bytes.b1 2) = none →
        ∃ t : State, exec (.key u) s = .next t ∧ onlyAnswers f .key ⟨.ignored, 0⟩ s t) ∧
      (∀ (c : Fin 8) (m : Nat), keyChecks u.pass f.bytes = none →
        s.findContext (f.bytes.b2 0) (f.bytes.b1 2) = some c → (s.ctxs[c]).epoch = some m → m < 65536 →
        32768 ≤ (f.bytes.b2 4 + 65536 - m) % 65536 →
        ∃ t : State, exec (.key u) s = .next t ∧ onlyAnswers f .key ⟨.stale, 0⟩ s t)) ∧
    (∀ (u : RightsUnwrap) (out : Outcome), atHand s .rights f →
      s.rightsCheck u.pass (f.bytes.rightsOp u.items) = some out →
      ∃ t : State, exec (.rights u) s = .next t ∧ onlyAnswers f .rights out s t) ∧
    (atHand s .events f → f.bytes.sectionCrc ≠ crc32 f.bytes.sectionBytes →
      ∃ t : State, exec .events s = .next t ∧ answersWith f .events ⟨.badCheck, 0⟩ s.freePort t ∧
        t.guide = { s.guide with
          counters := { s.guide.counters with crcFailed := satInc s.guide.counters.crcFailed } } ∧
        onlyChanges [.own, .intake, .guide] s t) ∧
    (∀ e : MapEntry, atHand s .events f → f.bytes.sectionCrc = crc32 f.bytes.sectionBytes → 1 ≤ f.bytes.b2 0 →
      f.bytes.b2 0 ≤ 9999 → f.bytes.b1 2 ≤ 31 → f.bytes.sectionEvents.all SectionEvent.ok = true →
      s.guide.entry (f.bytes.b2 0) = some e → e.version = some (f.bytes.b1 2) →
      ∃ t : State, exec .events s = .next t ∧ answersWith f .events ⟨.stale, 0⟩ s.freePort t ∧
        t.guide = { s.guide with counters := { s.guide.counters with stale := satInc s.guide.counters.stale } } ∧
        onlyChanges [.own, .intake, .guide] s t) ∧
    (∀ c : Code, atHand s .events f → f.bytes.sectionCrc = crc32 f.bytes.sectionBytes →
      (c = .badField ∧ (f.bytes.b2 0 < 1 ∨ 9999 < f.bytes.b2 0 ∨ 31 < f.bytes.b1 2 ∨
          f.bytes.sectionEvents.all SectionEvent.ok = false) ∨
        c = .unknownService ∧ 1 ≤ f.bytes.b2 0 ∧ f.bytes.b2 0 ≤ 9999 ∧ f.bytes.b1 2 ≤ 31 ∧
          f.bytes.sectionEvents.all SectionEvent.ok = true ∧ s.guide.entry (f.bytes.b2 0) = none) →
      ∃ t : State, exec .events s = .next t ∧ answersWith f .events ⟨c, 0⟩ s.freePort t ∧
        t.guide = { s.guide with
          counters := { s.guide.counters with malformed := satInc s.guide.counters.malformed } } ∧
        onlyChanges [.own, .intake, .guide] s t) ∧
    (atHand s .services f → f.bytes.serviceItems.all ServiceItem.ok = false →
      ∃ t : State, exec .services s = .next t ∧ answersWith f .services ⟨.badField, 0⟩ s.freePort t ∧
        t.guide = { s.guide with
          counters := { s.guide.counters with malformed := satInc s.guide.counters.malformed } } ∧
        onlyChanges [.own, .intake, .guide] s t) ∧
    (s.fetched = some f → f.attached = false →
      (f.bytes.kind = none → ∃ t : State, exec .recordBadKind s = .next t ∧ endsDetached s t ∧
        onlyChanges [.own, .intake] s t) ∧
      (f.bytes.kind = some .buy → f.bytes.lengthOk .buy = false →
        ∃ t : State, exec .buy s = .next t ∧ endsDetached s t ∧ onlyChanges [.own, .intake] s t) ∧
      (f.bytes.kind = some .power → f.bytes.lengthOk .power = true → f.bytes.b1 0 = 2 → s.part = .standby →
        ∃ t : State, exec .powerWake s = .next t ∧ t.part = .active ∧ endsDetached s t ∧
          onlyChanges [.power, .own, .intake] s t))) ∧
  (∀ (s : State) (n : Fin 256) (out : Outcome) (k : Kind),
    s.outcomeWrite n out = ⟨.outcome n, s.cfg.msgBase + 256 * n.val + 3,
      beBytes 1 out.code.byte ++ beBytes 4 out.detail, false⟩ ∧
    s.scrubWrites n k = (match k with
      | .buy => [20]
      | .pin => [12, 20]
      | .profile => [20, 28]
      | .key | .tune | .release | .power | .rights | .time | .services | .events => []).map
        (fun i => ⟨.scrub n, s.cfg.msgBase + 256 * n.val + i, List.replicate 8 0, false⟩)) ∧
  (∀ (s : State) (n : Fin 256) (r : OwnReq) (rest : List OwnReq), s.port.own = r :: rest → r.what = .fetch n →
    s.port.serving = none →
    ((∃ u ∈ s.port.up, u.kind = .message ∧ isWrite u.req = true ∧ s.slotOf u.req.addr = n) →
      ∃ (u : UpReq) (us : List UpReq), s.port.up = u :: us ∧ s.serveDram.port.serving = some (.upstream u) ∧
        s.serveDram.port.own = r :: rest) ∧
    ((∀ u ∈ s.port.up, u.kind = .message → isWrite u.req = true → s.slotOf u.req.addr ≠ n) →
      s.port.up = [] ∨ 16 ≤ s.port.pass → s.serveDram.port.serving = some (.own r)))

/-! ### Broadcast time and guide tables -/

/-- R38, R39, R40: a TIME record with an offset out of range is counted and refused. Any other sets clock and offset and is
ACCEPTED; a step of more than 300 seconds of a clock that was set hands over TIME_JUMP first; within the same minute with
the same offset no minute tick is raised and nothing else changes. One that first sets the clock, or changes now-minute or
the offset, does the whole work of a minute tick, on the clock and offset it set, in any order of the blocks. A minute tick
that a 1-second tick raised and that has not been worked off stays due (log entry 3, DESIGN CHOICE). -/
def Obligations.TimeRecordSetsClock : Prop :=
  ∀ (order : List TickBlock) (s : State) (f : Fetched) (offset : Int),
    tickOrderOk order = true → atHand s .time f → offset = signedField f.bytes 12 2 →
    ((offset < -720 ∨ 840 < offset) → ∃ t : State, exec (.time order) s = .next t ∧
      answersWith f .time ⟨.badField, 0⟩ s.freePort t ∧
      t.guide = { s.guide with
        counters := { s.guide.counters with malformed := satInc s.guide.counters.malformed } } ∧
      onlyChanges [.own, .intake, .guide] s t) ∧
    (-720 ≤ offset → offset ≤ 840 → ∃ t : State, exec (.time order) s = .next t ∧
      answeredAfter f .time ⟨.accepted, 0⟩ s t ∧
      t.guide.clock = some (f.bytes.b4 0) ∧ t.guide.offset = offset ∧ t.guide.map = s.guide.map ∧
      (∀ c : Nat, s.guide.clock = some c → 300 < (f.bytes.b4 0 : Int) - c ∨ (f.bytes.b4 0 : Int) - c < -300 →
        ∃ rs : List OwnReq, t.port.ownAll = ((s.freePort).notify
          (.timeJump (clampSigned ((f.bytes.b4 0 : Int) - c)) (f.bytes.b4 0) offset)).port.own ++ rs) ∧
      (∀ c : Nat, s.guide.clock = some c → c / 60 = f.bytes.b4 0 / 60 → s.guide.offset = offset →
        answersWith f .time ⟨.accepted, 0⟩ s.freePort t ∧ t.guide = { s.guide with clock := some (f.bytes.b4 0) } ∧
        onlyChanges [.own, .intake, .guide] s t) ∧
      (s.guide.clock = none ∨
          (∃ c : Nat, s.guide.clock = some c ∧ (c / 60 ≠ f.bytes.b4 0 / 60 ∨ s.guide.offset ≠ offset)) →
        minuteWorked s.currentEvents
          { s with guide := { s.guide with clock := some (f.bytes.b4 0), offset := offset } } t) ∧
      onlyChanges [.own, .intake, .guide, .contexts, .outputs, .access, .profiles, .writer, .flashWork] s t)

/-- R37, R123, R124, R165: a 1-second tick: a clock that is set advances by 1 and stays at FFFFFFFFh; each previewed event's
entry gains a second, and stops at 3,600 (log entry 24, DEDUCED from R122); each profile with a bound output in view gains
a second, which at 60 makes a rise of its minutes-used due (an output that a retune or a release has taken from PRESENTING is
not in view: log entry 37, DESIGN CHOICE). R124: the exhaustion of a previewed event falls due where the
seconds now used reach the allowance of a half of it in PREVIEW. The steps that follow are taken as commands of their own (log
entry 3, DESIGN CHOICE). -/
def Obligations.SecondTickAdvancesClockAndMeters : Prop :=
  ∀ s : State, s.secondDue = true →
    ∃ t : State, exec .oneSecondTick s = .next t ∧
      t.guide = { s.guide with clock := s.guide.clock.map (fun c => min 4294967295 (c + 1)) } ∧
      t.ticks.now = s.ticks.now ∧ t.ticks.seconds = s.ticks.seconds + 1 ∧
      t.access.owned = s.access.owned ∧
      t.access.previews = s.access.previews.map (fun x =>
        if s.previewing x.event then { x with seconds := min 3600 (x.seconds + 1) } else x) ∧
      (∀ q : Fin 6, t.profiles[q] =
        if s.viewersOn q = [] then s.profiles[q]
        else { s.profiles[q] with
          accumulator := if (s.profiles[q]).accumulator < 59 then (s.profiles[q]).accumulator + 1 else 0 }) ∧
      t.ticks.riseDue = s.ticks.riseDue ++
        (allProfiles.filter (fun q => !(s.viewersOn q).isEmpty && decide (59 ≤ (s.profiles[q]).accumulator))).map
          (fun q => (q, s.viewersOn q)) ∧
      (t.ticks.minuteDue.isSome = true ↔
        s.ticks.minuteDue.isSome = true ∨ t.guide.nowMinute ≠ s.guide.nowMinute) ∧
      (∀ id : Nat, id ∈ t.ticks.exhaustDue ↔ id ∈ s.ticks.exhaustDue ∨
        ∃ x ∈ s.access.previews, x.event = id ∧ s.previewing id = true ∧
          ∃ (c : Fin 8) (p : HalfParity) (h : Half) (e : EventCriteria), (s.ctxs[c]).half p = some h ∧
            h.verdict = .preview ∧ h.criteria = .event e ∧ e.event = id ∧ e.preview * 60 ≤ min 3600 (x.seconds + 1)) ∧
      onlyChanges [.time, .guide, .access, .profiles] s t

/-- R40, R52, R121, R126, R168, R178: the work of a minute tick, in any order of the blocks: aged events and owned events
leave their tables, every window result is computed afresh, and at the end the reported value of every output that is not
IDLE is its gate value. R41, R167: the budget date check, its CHANGE mark (R147), and the new budget day. R118, R120, R122:
aged preview entries leave, and the verdict of every half is what its criteria give now. R53, R120, R167, R168: a gate with a
moved input is what the tests give. R135: the offers are at the prices of now. R144, R137: the target's check is repeated, and
the flash arbiter has its choice. The tick itself was raised by a 1-second tick, which left it in minuteDue with the current
events before it, and is a command of its own (log entry 3, DESIGN CHOICE). -/
def Obligations.MinuteTickAgesAndReports : Prop :=
  ∀ (order : List TickBlock) (s : State) (before : List CurrentOf), tickOrderOk order = true →
    s.ticks.minuteDue = some before →
    ∃ t : State, exec (.minuteTick order) s = .next t ∧
      t.ticks = { s.ticks with minuteDue := none } ∧ minuteWorked before s t ∧
      onlyChanges [.time, .guide, .contexts, .outputs, .access, .profiles, .writer, .own, .flashWork] s t

/-- R43, R44, R45, R46: a SERVICES record whose items pass their checks applies them in order up to the first that fails,
which is an ADD of a new service to a full map; map, pool, retained entries and contexts are as those items leave them; the
record's map version is stored, and it is answered with that version and the number of items applied, ACCEPTED if all were.
A lone ADD/REPLACE item with room makes or replaces the entry of its service, ends its retained entry, and its contexts
follow it; a lone REMOVE item removes the entry and the service's events, and keeps a retained entry exactly if a context of
the service is STAGED or ACTIVE. The gates of the members of the ACTIVE contexts of touched services are what the tests give
afterwards, and no other output changes. -/
def Obligations.ServicesRecordUpdatesMap : Prop :=
  ∀ (s : State) (f : Fetched), atHand s .services f → f.bytes.serviceItems.all ServiceItem.ok = true →
    ∃ (t : State) (a : Applied), exec .services s = .next t ∧ a = s.freePort.applyItems f.bytes.serviceItems ∧
      a.count ≤ f.bytes.serviceItems.length ∧ (a.all = true ↔ a.count = f.bytes.serviceItems.length) ∧
      (a.all = false → ∃ e : MapEntry, f.bytes.serviceItems[a.count]? = some (.add e) ∧
        a.state.guide.entry e.service = none ∧ 512 ≤ a.state.guide.map.length) ∧
      answeredAfter f .services
        ⟨if a.all then .accepted else .tableFull, f.bytes.b2 0 * 65536 + a.count * 256⟩ s t ∧
      t.guide = { a.state.guide with lastVersion := some (f.bytes.b2 0) } ∧ t.ctxs = a.state.ctxs ∧
      t.guide.clock = s.guide.clock ∧
      (∀ e : MapEntry, f.bytes.serviceItems = [.add e] →
        (s.guide.entry e.service).isSome = true ∨ s.guide.map.length < 512 →
        a.all = true ∧
        t.guide.entry e.service = some { e with version := (s.guide.entry e.service).bind (·.version) } ∧
        (∀ x : Nat, x ≠ e.service → t.guide.entry x = s.guide.entry x) ∧ t.guide.pool = s.guide.pool ∧
        t.guide.retained = (if (s.guide.entry e.service).isSome then s.guide.retained
          else s.guide.retained.filter (fun x => x.service ≠ e.service)) ∧
        (∀ (c : Fin 8) (u : Tuning), (s.ctxs[c]).tuning = some u → u.service = e.service →
          (t.ctxs[c]).tuning = some { u with streams := e.streams, scrambled := e.scrambled })) ∧
      (∀ svc : Nat, f.bytes.serviceItems = [.remove svc] →
        a.all = true ∧ t.guide.entry svc = none ∧ (∀ x : Nat, x ≠ svc → t.guide.entry x = s.guide.entry x) ∧
        t.ctxs = s.ctxs ∧
        (s.guide.entry svc = none → t.guide.pool = s.guide.pool ∧ t.guide.retained = s.guide.retained) ∧
        (∀ e : MapEntry, s.guide.entry svc = some e →
          t.guide.pool = s.guide.pool.filter (fun x => x.service ≠ svc) ∧
          ((∃ (c : Fin 8) (u : Tuning), (s.ctxs[c]).tuning = some u ∧ u.service = svc) →
            t.guide.retained = s.guide.retained ++ [{ e with version := none }]) ∧
          ((∀ (c : Fin 8) (u : Tuning), (s.ctxs[c]).tuning = some u → u.service ≠ svc) →
            t.guide.retained = s.guide.retained))) ∧
      gatesFollow (memberOfService (serviceTouched f.bytes.serviceItems a.count s) t) t ∧
      (∀ x : Fin 6, ¬ memberOfService (serviceTouched f.bytes.serviceItems a.count s) t x → t.outs[x] = s.outs[x]) ∧
      onlyChanges [.own, .intake, .guide, .contexts, .outputs, .writer] s t

/-- R49, R50, R54, R55: an EVENTS record that passes its checks stores its events in order, is counted, stores its section
version, and is ACCEPTED with the number of its events then in the pool. A lone event that has not aged joins a pool with
room, in place of the stored events of its service that overlap it or share its id. The writes of masked titles and of the
section CRC come before the notices (log entry 20, DEDUCED) and before the outcome. R53: the gates of the members of the
ACTIVE contexts of services whose current event or its rating changed are what the tests give, and no other output changes. -/
def Obligations.EventsRecordFillsPool : Prop :=
  ∀ (s : State) (f : Fetched), atHand s .events f → s.eventsCheck f.bytes = none →
    ∃ (t : State) (w : Storing) (rs : List OwnReq), exec .events s = .next t ∧
      w = s.guide.storeSection (f.bytes.b2 0) (f.bytes.b1 2) (f.bytes.sectionEvents.map (·.event)) ∧
      w.kept.length ≤ f.bytes.sectionEvents.length ∧ (∀ r ∈ rs, r.what.ofNotices = true) ∧
      t.port.ownAll = s.port.own ++ s.maskWrites f f.bytes.sectionEvents ++ rs ++
        [s.outcomeWrite f.slot ⟨.accepted, w.kept.length⟩] ∧
      t.intake = { s.intake with proc := some ⟨f.slot, .decided⟩ } ∧
      t.guide = { w.guide with
        counters := { w.guide.counters with accepted := satInc s.guide.counters.accepted } } ∧
      (t.guide.entry (f.bytes.b2 0)).bind (·.version) = some (f.bytes.b1 2) ∧
      (∀ x : Nat, x ≠ f.bytes.b2 0 → t.guide.entry x = s.guide.entry x) ∧
      t.guide.clock = s.guide.clock ∧
      (∀ e ∈ t.guide.pool, e ∈ s.guide.pool ∨ ∃ x ∈ f.bytes.sectionEvents, x.event = e) ∧
      (∀ e ∈ w.kept, e ∈ t.guide.pool) ∧
      (∀ e : GuideEvent, f.bytes.sectionEvents.map (·.event) = [e] →
        (∀ m : Nat, s.guide.nowMinute = some m → m < e.start + e.duration + 60) → s.guide.pool.length < 4096 →
        w.kept = [e] ∧
        ∀ x : GuideEvent, x ∈ t.guide.pool ↔ x = e ∨ x ∈ s.guide.pool ∧
          ¬ (x.service = e.service ∧
            (x.start < e.start + e.duration ∧ e.start < x.start + x.duration ∨ x.id = e.id))) ∧
      gatesFollow (memberOfService (currentChanged s t) t) t ∧
      (∀ x : Fin 6, ¬ memberOfService (currentChanged s t) t x → t.outs[x] = s.outs[x]) ∧
      onlyChanges [.own, .intake, .guide, .outputs, .writer] s t

/-- R47, R50, R51: storing an event never leaves two events of one service that share a minute or an id in the pool, and
never takes the pool beyond 4,096 events. -/
def Obligations.StoringKeepsPoolDisjoint : Prop :=
  ∀ (w : Storing) (e : GuideEvent),
    w.guide.pool.Pairwise (fun x y => x.yields y = false) → w.guide.pool.length ≤ 4096 →
    (w.store e).guide.pool.Pairwise (fun x y => x.yields y = false) ∧ (w.store e).guide.pool.length ≤ 4096 ∧
      ∀ x ∈ (w.store e).guide.pool, x = e ∨ x ∈ w.guide.pool

/-! ### Service contexts and outputs -/

/-- R61 to R66, R72: a VIEW that passes its checks is always carried out where outputs and contexts agree. For an output
already on the service and window nothing changes. Otherwise it obtains an ACTIVE context of the pair: the one there is, with its halves; or the lowest FREE one; or
the STAGED one that is oldest; set up from the map entry. It leaves its old context, which is STAGED from now if no member
is left, and seeks with a key-wait of 3,000 ms and a cleared delivery record, its gate what the tests give. No other output
and no other context changes. (A read judged before the VIEW may be answered after it: R64, CellReadsDeliverOrWait.) -/
def Obligations.ViewObtainsContext : Prop :=
  ∀ (s : State) (f : Fetched) (o : Fin 6) (e : MapEntry) (w : Fin 4), PoolOk s → atHand s .tune f →
    f.bytes.tuneOp.purpose = 1 → outputOf f.bytes.tuneOp.output = some o →
    s.tuneChecks f.bytes.tuneOp = .ok (e, w) →
    (∀ v : Tuned, (s.outs[o]).tune = some v → v.service = e.service → v.window = w →
      ∃ t : State, exec .tuneView s = .next t ∧
        onlyAnswers f .tune ⟨.accepted, v.context.val * 16777216⟩ s t) ∧
    ((∀ v : Tuned, (s.outs[o]).tune = some v → v.service ≠ e.service ∨ v.window ≠ w) →
      ∃ (t : State) (c : Fin 8) (m : Means) (u : Tuning) (v : Tuned), exec .tuneView s = .next t ∧ m ≠ .unchanged ∧
        answeredAfter f .tune ⟨.accepted, c.val * 16777216 + m.code * 65536⟩ s t ∧
        (t.outs[o]).tune = some v ∧ v.service = e.service ∧ v.window = w ∧ v.context = c ∧ v.seekStart = s.ticks.now ∧
        v.phase = .seeking (s.ticks.now + 3000) ∧ (t.outs[o]).delivery = ⟨none, 0, none⟩ ∧
        (t.outs[o]).gate = (t.gateInputs o v).value ∧ (t.outs[o]).eventUnlock = none ∧
        (t.outs[o]).periodUnlock = (s.outs[o]).periodUnlock ∧ (t.outs[o]).counters = (s.outs[o]).counters ∧
        (t.ctxs[c]).life = .active u ∧ u.service = e.service ∧ u.window = w ∧ o ∈ (t.ctxs[c]).members ∧
        (∀ x : Fin 8, s.findContext e.service w.val = some x → c = x ∧ m = .joined ∧
          (t.ctxs[c]).even = (s.ctxs[c]).even ∧ (t.ctxs[c]).odd = (s.ctxs[c]).odd ∧
          (t.ctxs[c]).parity = (s.ctxs[c]).parity ∧ (t.ctxs[c]).epoch = (s.ctxs[c]).epoch ∧
          (∀ y : Fin 6, y ∈ (t.ctxs[c]).members ↔ y = o ∨ y ∈ (s.ctxs[c]).members) ∧
          (s.ctxs[c]).tuning = some u ∧ t.guide = s.guide) ∧
        (s.findContext e.service w.val = none →
          t.ctxs[c] = ⟨.active ⟨e.service, w, e.streams, e.scrambled⟩, [o], none, none, none, none⟩ ∧
          contextTaken c m s t) ∧
        (∀ x : Tuned, (s.outs[o]).tune = some x → x.context ≠ c ∧
          (t.ctxs[x.context]).members = (s.ctxs[x.context]).members.filter (· ≠ o) ∧
          (∀ y : Tuning, (s.ctxs[x.context]).life = .active y → (t.ctxs[x.context]).life =
            if (s.ctxs[x.context]).members.all (· = o) then .staged y s.ticks.now else .active y) ∧
          (t.ctxs[x.context]).even = (s.ctxs[x.context]).even ∧ (t.ctxs[x.context]).odd = (s.ctxs[x.context]).odd ∧
          (t.ctxs[x.context]).parity = (s.ctxs[x.context]).parity ∧
          (t.ctxs[x.context]).epoch = (s.ctxs[x.context]).epoch) ∧
        (∀ d : Fin 8, d ≠ c → (∀ x : Tuned, (s.outs[o]).tune = some x → x.context ≠ d) → t.ctxs[d] = s.ctxs[d]) ∧
        otherOutputs o s t ∧ onlyChanges [.own, .intake, .guide, .contexts, .outputs, .writer] s t)

/-- R67, R63, R65: a STAGE that passes its checks is always carried out where outputs and contexts agree. Where there is a
context of the service and window, the means is JOINED: an ACTIVE one is left as it is, a STAGED one is STAGED from now and
keeps its streams, halves, parity and epoch. Where there is none, the lowest FREE one is ALLOCATED, or else the oldest
STAGED one is EVICTED; it is then STAGED from now with the map entry's streams and scrambled flag, no member, no half, no
parity and no epoch. No output and no other context changes. -/
def Obligations.StagePreparesContext : Prop :=
  ∀ (s : State) (f : Fetched) (e : MapEntry) (w : Fin 4), PoolOk s → atHand s .tune f →
    f.bytes.tuneOp.purpose = 2 → s.tuneChecks f.bytes.tuneOp = .ok (e, w) →
    ∃ (t : State) (c : Fin 8) (m : Means), exec .tuneStage s = .next t ∧
      answersWith f .tune ⟨.accepted, c.val * 16777216 + m.code * 65536⟩ s.freePort t ∧
      (∀ x : Fin 8, s.findContext e.service w.val = some x → c = x ∧ m = .joined ∧ t.guide = s.guide ∧
        (∀ u : Tuning, (s.ctxs[x]).life = .active u → t.ctxs[x] = s.ctxs[x]) ∧
        (∀ (u : Tuning) (since : Nat), (s.ctxs[x]).life = .staged u since →
          t.ctxs[x] = { s.ctxs[x] with life := .staged u s.ticks.now })) ∧
      (s.findContext e.service w.val = none →
        t.ctxs[c] = ⟨.staged ⟨e.service, w, e.streams, e.scrambled⟩ s.ticks.now, [], none, none, none, none⟩ ∧
        contextTaken c m s t) ∧
      (∃ u : Tuning, (t.ctxs[c]).tuning = some u ∧ u.service = e.service ∧ u.window = w) ∧
      otherContexts c s t ∧ onlyChanges [.own, .intake, .guide, .contexts] s t

/-- R68, R66, R171: a RELEASE of an output above 5 or a disabled one is refused; of an IDLE output it changes nothing; any
other output leaves its context (STAGED from now if no member is left), and becomes IDLE with its gate CLOSED, IDLE, its
EVENT unlock and offer gone and its PERIOD unlock kept. No notice is issued. -/
def Obligations.ReleaseMakesOutputIdle : Prop :=
  ∀ (s : State) (f : Fetched), atHand s .release f →
    (outputOf (f.bytes.b1 0) = none → ∃ t : State, exec .release s = .next t ∧
      onlyAnswers f .release ⟨.badField, 0⟩ s t) ∧
    (∀ o : Fin 6, outputOf (f.bytes.b1 0) = some o → (s.outCfg o).enabled = false →
      ∃ t : State, exec .release s = .next t ∧ onlyAnswers f .release ⟨.notBound, 0⟩ s t) ∧
    (∀ o : Fin 6, outputOf (f.bytes.b1 0) = some o → (s.outCfg o).enabled = true → (s.outs[o]).tune = none →
      ∃ t : State, exec .release s = .next t ∧ onlyAnswers f .release ⟨.accepted, 0⟩ s t) ∧
    (∀ (o : Fin 6) (v : Tuned), outputOf (f.bytes.b1 0) = some o → (s.outCfg o).enabled = true →
      (s.outs[o]).tune = some v →
      ∃ t : State, exec .release s = .next t ∧ answersWith f .release ⟨.accepted, 0⟩ s.freePort t ∧
        t.outs[o] = { s.outs[o] with
          tune := none
          delivery := ⟨none, 0, none⟩
          eventUnlock := none
          gate := .closed .idle
          reported := .closed .idle
          offer := none } ∧
        (t.ctxs[v.context]).members = (s.ctxs[v.context]).members.filter (· ≠ o) ∧
        (∀ u : Tuning, (s.ctxs[v.context]).life = .active u → (t.ctxs[v.context]).life =
          if (s.ctxs[v.context]).members.all (· = o) then .staged u s.ticks.now else .active u) ∧
        (t.ctxs[v.context]).even = (s.ctxs[v.context]).even ∧ (t.ctxs[v.context]).odd = (s.ctxs[v.context]).odd ∧
        (t.ctxs[v.context]).epoch = (s.ctxs[v.context]).epoch ∧
        otherOutputs o s t ∧ otherContexts v.context s t ∧
        onlyChanges [.own, .intake, .contexts, .outputs] s t)

/-- R74, R77: when the key-wait of a SEEKING output runs out it stalls from now, with one STALLED notice whose reason is
NO_SIGNAL on a SILENT ring, otherwise the gate's reason, otherwise NO_KEY after a NO_KEY blank, otherwise OTHER.
R69, R71, R100, R45: when a staged lifetime runs out the context is FREE with nothing kept, and the retained entry of its
service ends unless another context runs the service. -/
def Obligations.KeyWaitStallsAndStagedLifetimeFrees : Prop :=
  (∀ (s : State) (o : Fin 6) (v : Tuned), (s.outs[o]).tune = some v → s.keyWaitDue o = true →
    ∃ t : State, exec (.keyWaitExpiry o) s = .next t ∧
      t.outs[o] = { s.outs[o] with tune := some { v with phase := .stalled s.ticks.now } } ∧
      handedOver [.stalled o.val v.window.val v.service v.context.val (s.ctxs[v.context]).scrambled
        (if (s.path.rings[v.window]).state = .silent then .noSignal
         else match (s.outs[o]).gate with
          | .closed r => .gate r
          | .opened => if (s.outs[o]).delivery.lastBlank = some .noKey then .noKey else .otherCause)] s t ∧
      otherOutputs o s t ∧ onlyChanges [.own, .outputs, .writer] s t) ∧
  (∀ (s : State) (c : Fin 8) (u : Tuning) (since : Nat), (s.ctxs[c]).life = .staged u since → s.running = true →
    since + 60000 ≤ s.ticks.now →
    ∃ t : State, exec (.stagedLifetimeExpiry c) s = .next t ∧
      t.ctxs[c] = ⟨.free, [], none, none, none, none⟩ ∧ otherContexts c s t ∧ t.loadOrder = s.loadOrder ∧
      ((∃ (d : Fin 8) (x : Tuning), d ≠ c ∧ (s.ctxs[d]).tuning = some x ∧ x.service = u.service) →
        t.guide = s.guide) ∧
      ((∀ (d : Fin 8) (x : Tuning), d ≠ c → (s.ctxs[d]).tuning = some x → x.service ≠ u.service) →
        t.guide = { s.guide with retained := s.guide.retained.filter (fun e => e.service ≠ u.service) }) ∧
      onlyChanges [.guide, .contexts] s t)

/-! ### Key records -/

/-- R85 to R89: a KEY record with a newer epoch for a STAGED or ACTIVE context is a load: each block fills the slot of its
parity with the unwrapped key, the wrapped key, its criteria and rating, loaded now, with the next load order, and with the
verdict its criteria give; the context takes the epoch. A half the record does not name, of this context or another, is kept,
its verdict with it unless a preview entry of its event was replaced, which judges it afresh (R120). The detail of the answer
gives the parity of the half that governs then (R194). Where the governing half changed, the gates of the members of an
ACTIVE context are what the tests give (R84); where the governing slot stays and none of its halves was loaded and no preview
entry was replaced, no output changes. Gates of other contexts whose governing verdict a replacement moved follow too (log
entry 30, DESIGN CHOICE). A record with the same epoch whose blocks match the present halves, each checked clean, restarts their ageing timers and
changes nothing else. -/
def Obligations.KeyRecordLoadsOrRefreshes : Prop :=
  ∀ (s : State) (f : Fetched) (u : KeyUnwrap) (c : Fin 8), atHand s .key f → keyChecks u.pass f.bytes = none →
    s.findContext (f.bytes.b2 0) (f.bytes.b1 2) = some c →
    ((s.ctxs[c]).epoch = none ∨ (∃ m : Nat, (s.ctxs[c]).epoch = some m ∧
        1 ≤ (f.bytes.b2 4 + 65536 - m) % 65536 ∧ (f.bytes.b2 4 + 65536 - m) % 65536 ≤ 32767) →
      ∃ t : State, exec (.key u) s = .next t ∧
        answeredAfter f .key ⟨.accepted, c.val * 16777216 + 65536 + parityFlags f.bytes.keyBlocks * 256 +
          (match (t.ctxs[c]).governing with
            | none => 0
            | some (.even, _) => 2
            | some (.odd, _) => 3)⟩ s t ∧
        (t.ctxs[c]).epoch = some (f.bytes.b2 4) ∧
        (∀ (k : Nat) (b : KeyBlock) (p : HalfParity), f.bytes.keyBlocks[k]? = some b → b.half = some p →
          ∃ h : Half, (t.ctxs[c]).half p = some h ∧ h.content = u.content.getD k 0 ∧ h.wrapped = b.wrapped ∧
            b.criteria = some h.criteria ∧ h.rating = b.rating ∧ h.loaded = s.ticks.now ∧
            h.order = s.loadOrder + k + 1 ∧ halfJudged h t) ∧
        (∀ (d : Fin 8) (p : HalfParity), d ≠ c ∨ (∀ b ∈ f.bytes.keyBlocks, b.half ≠ some p) →
          ((t.ctxs[d]).half p).isSome = ((s.ctxs[d]).half p).isSome ∧
          ∀ h g : Half, (s.ctxs[d]).half p = some h → (t.ctxs[d]).half p = some g →
            g = { h with verdict := g.verdict } ∧
            (g.verdict = h.verdict ∨ halfJudged g t ∧ ∃ (e : EventCriteria) (x : PreviewEntry), h.criteria = .event e ∧
              x ∈ s.access.previews ∧ x.event = e.event ∧ x ∉ t.access.previews)) ∧
        (∀ d : Fin 8, d ≠ c → (t.ctxs[d]).life = (s.ctxs[d]).life ∧ (t.ctxs[d]).members = (s.ctxs[d]).members ∧
          (t.ctxs[d]).parity = (s.ctxs[d]).parity ∧ (t.ctxs[d]).epoch = (s.ctxs[d]).epoch) ∧
        ((t.ctxs[c]).governingMark ≠ (s.ctxs[c]).governingMark →
          gatesFollow (fun x => (s.ctxs[c]).isActive = true ∧ x ∈ (s.ctxs[c]).members) t) ∧
        gatesFollow (fun x => ∃ d : Fin 8, d ≠ c ∧ (s.ctxs[d]).isActive = true ∧ x ∈ (s.ctxs[d]).members ∧
          (t.ctxs[d]).governingVerdict ≠ (s.ctxs[d]).governingVerdict) t ∧
        ((t.ctxs[c]).governing.map (·.1) = (s.ctxs[c]).governing.map (·.1) →
          (∀ (g : HalfParity × Half) (b : KeyBlock), (t.ctxs[c]).governing = some g → b ∈ f.bytes.keyBlocks →
            b.half ≠ some g.1) →
          (∀ x ∈ s.access.previews, x ∈ t.access.previews) → t.outs = s.outs ∧ t.writer = s.writer) ∧
        t.loadOrder = s.loadOrder + f.bytes.keyBlocks.length ∧
        (t.ctxs[c]).life = (s.ctxs[c]).life ∧ (t.ctxs[c]).members = (s.ctxs[c]).members ∧
        (t.ctxs[c]).parity = (s.ctxs[c]).parity ∧ t.access.owned = s.access.owned ∧
        onlyChanges [.own, .intake, .contexts, .outputs, .access, .writer] s t) ∧
    ((s.ctxs[c]).epoch = some (f.bytes.b2 4) →
      (∀ x ∈ u.ecc, x = .clean) → (∀ (b : KeyBlock) (p : HalfParity), b ∈ f.bytes.keyBlocks → b.half = some p →
        ∃ h : Half, (s.ctxs[c]).half p = some h ∧ h.wrapped = b.wrapped) →
      ∃ t : State, exec (.key u) s = .next t ∧
        answersWith f .key ⟨.accepted, c.val * 16777216 + 2 * 65536 + parityFlags f.bytes.keyBlocks * 256⟩ s.freePort t ∧
        (∀ p : HalfParity, (t.ctxs[c]).half p =
          if ∃ b ∈ f.bytes.keyBlocks, b.half = some p then
            ((s.ctxs[c]).half p).map (fun h => { h with loaded := s.ticks.now })
          else (s.ctxs[c]).half p) ∧
        (t.ctxs[c]).epoch = (s.ctxs[c]).epoch ∧ (t.ctxs[c]).parity = (s.ctxs[c]).parity ∧
        (t.ctxs[c]).life = (s.ctxs[c]).life ∧ (t.ctxs[c]).members = (s.ctxs[c]).members ∧ t.loadOrder = s.loadOrder ∧
        otherContexts c s t ∧ onlyChanges [.own, .intake, .contexts] s t)

/-- R93, R84: when the ageing timer of a half runs out its slot is absent, and everything else of its context is kept; if
the half was not governing an ACTIVE context, no gate is evaluated and no notice is issued; if it was, the gates of the
members are what the tests give. -/
def Obligations.AgeingDiscardsHalf : Prop :=
  ∀ (s : State) (c : Fin 8) (p : HalfParity) (h : Half), (s.ctxs[c]).half p = some h → s.running = true →
    h.loaded + 20000 ≤ s.ticks.now →
    ∃ t : State, exec (.ageingExpiry c p) s = .next t ∧
      (t.ctxs[c]).half p = none ∧ (∀ x : HalfParity, x ≠ p → (t.ctxs[c]).half x = (s.ctxs[c]).half x) ∧
      (t.ctxs[c]).life = (s.ctxs[c]).life ∧ (t.ctxs[c]).members = (s.ctxs[c]).members ∧
      (t.ctxs[c]).parity = (s.ctxs[c]).parity ∧ (t.ctxs[c]).epoch = (s.ctxs[c]).epoch ∧
      t.loadOrder = s.loadOrder ∧ otherContexts c s t ∧
      ((∀ g : HalfParity × Half, (s.ctxs[c]).governing = some g → g.1 ≠ p) ∨ (s.ctxs[c]).isActive = false →
        onlyChanges [.contexts] s t) ∧
      ((∃ g : HalfParity × Half, (s.ctxs[c]).governing = some g ∧ g.1 = p) →
        gatesFollow (fun x => (s.ctxs[c]).isActive = true ∧ x ∈ (s.ctxs[c]).members) t) ∧
      onlyChanges [.own, .contexts, .outputs, .writer] s t

/-! ### Verdicts, previews, purchases, rights -/

/-- R173: the effective rating of an output: the larger of the rating of the current event of its service and the rating
of its governing half, or the one present, otherwise the default rating, otherwise unknown. -/
def Obligations.EffectiveRatingPrefersGuideAndKey : Prop :=
  (∀ (g h m : Nat) (x : Option Nat),
    effectiveRating (some g) (some h) x = some (max g h) ∧ effectiveRating (some g) none x = some g ∧
    effectiveRating none (some h) x = some h ∧ effectiveRating none none (some m) = some m ∧
    effectiveRating none none none = none) ∧
  (∀ (s : State) (o : Fin 6) (v : Tuned), (s.gateInputs o v).rating =
    effectiveRating ((s.guide.currentEvent v.service).bind (fun e => e.rating))
      (((s.ctxs[v.context]).governing).bind (fun g => g.2.rating))
      ((s.guide.attributes v.service).bind (fun a => a.rating)))

/-- R128: the price of an event of duration 1 to 1,440: none once it has ended; the base price before its start or without
the late discount; otherwise the larger of base × remaining / duration rounded up and base / 4 rounded up. A price never
exceeds the base price, and there is none with the clock unset. -/
def Obligations.PriceFallsWithTimeAboveQuarter : Prop :=
  ∀ (e : EventCriteria) (now : Nat), 1 ≤ e.duration →
    (e.start + e.duration ≤ now → e.priceAt now = none) ∧
    (now < e.start + e.duration → e.late = false ∨ now ≤ e.start → e.priceAt now = some e.price) ∧
    (e.start < now → now < e.start + e.duration → e.late = true →
      ∃ p : Nat, e.priceAt now = some p ∧ p ≤ e.price ∧ e.price ≤ 4 * p ∧
        e.price * (e.start + e.duration - now) ≤ p * e.duration ∧
        (∀ x : Nat, e.price ≤ 4 * x → e.price * (e.start + e.duration - now) ≤ x * e.duration → p ≤ x)) ∧
    (∀ s : State, s.guide.clock = none → s.priceNow e = none) ∧
    (∀ (s : State) (c : Nat), s.guide.clock = some c → s.priceNow e = e.priceAt (c / 60))

/-- R102, R118: the verdict of criteria: FREE_TO_AIR is ENTITLED; a package entitles exactly while its entry is present and
has no expiry, or the clock is unset, or now-minute is below the expiry; an event entitles if its including package is
valid or it is owned, and is otherwise PREVIEW or PURCHASE_NEEDED. -/
def Obligations.VerdictsFollowCriteria : Prop :=
  ∀ s : State, (s.judge .freeToAir).verdict = .entitled ∧
    (∀ p : Fin 64,
      ((s.judge (.package p.val)).verdict = .entitled ↔
        ∃ k : Package, s.rights.packages[p] = some k ∧
          (k.expiry = none ∨ s.guide.clock = none ∨
            ∃ (x c : Nat), k.expiry = some x ∧ s.guide.clock = some c ∧ c / 60 < x)) ∧
      ((s.judge (.package p.val)).verdict = .entitled ∨ (s.judge (.package p.val)).verdict = .notEntitled)) ∧
    (∀ e : EventCriteria,
      ((∃ p : Nat, e.including = some p ∧ s.packageValid p = true) ∨ (∃ x ∈ s.access.owned, x.event = e.event) →
        (s.judge (.event e)).verdict = .entitled) ∧
      (¬ (∃ p : Nat, e.including = some p ∧ s.packageValid p = true) → (∀ x ∈ s.access.owned, x.event ≠ e.event) →
        (s.judge (.event e)).verdict = .preview ∨ (s.judge (.event e)).verdict = .purchaseNeeded))

/-- R119: an event without preview minutes, or that has ended, is PURCHASE_NEEDED and makes no entry; an event with an entry
is PREVIEW while its seconds are below its allowance; a new entry is made where there is room, otherwise in place of the
entry of the event that ended first, and the event is then PREVIEW; with no room and no ended entry it is PURCHASE_NEEDED.
The table never holds more than 16 entries or two of one event. -/
def Obligations.PreviewTableHoldsSixteenEvents : Prop :=
  ∀ (a : AccessUnit) (e : EventCriteria) (now : Option Nat) (j : Judged),
    a.previews.length ≤ 16 → (a.previews.map (·.event)).Nodup → j = a.judgePreview e now →
    j.access.previews.length ≤ 16 ∧ (j.access.previews.map (·.event)).Nodup ∧ j.access.owned = a.owned ∧
    (j.verdict = .preview →
      ∃ x ∈ j.access.previews, x.event = e.event ∧ x.seconds < e.preview * 60) ∧
    (e.preview = 0 ∨ (∃ m : Nat, now = some m ∧ e.start + e.duration ≤ m) →
      j = ⟨a, .purchaseNeeded, none⟩) ∧
    (0 < e.preview → (∀ m : Nat, now = some m → m < e.start + e.duration) →
      (∀ x ∈ a.previews, x.event = e.event →
        j = ⟨a, if x.seconds < e.preview * 60 then .preview else .purchaseNeeded, none⟩) ∧
      ((∀ x ∈ a.previews, x.event ≠ e.event) →
        (a.previews.length < 16 →
          j = ⟨{ a with previews := a.previews ++ [⟨e.event, 0, e.start + e.duration⟩] }, .preview, none⟩) ∧
        (a.previews.length = 16 →
          ((∃ (x : PreviewEntry) (m : Nat), x ∈ a.previews ∧ now = some m ∧ x.endMinute ≤ m) →
            j.verdict = .preview ∧ ∃ old : PreviewEntry, old ∈ a.previews ∧ j.replaced = some old.event ∧
              j.access.previews = a.previews.map (fun x =>
                if x.event = old.event then ⟨e.event, 0, e.start + e.duration⟩ else x)) ∧
          ((∀ (x : PreviewEntry) (m : Nat), x ∈ a.previews → now = some m → m < x.endMinute) →
            j = ⟨a, .purchaseNeeded, none⟩)))) ∧
    (∀ old : Nat, j.replaced = some old →
      ∃ (x : PreviewEntry) (m : Nat), x ∈ a.previews ∧ x.event = old ∧ now = some m ∧ x.endMinute ≤ m ∧
        ∀ y ∈ a.previews, y.endMinute ≤ m → x.endMinute < y.endMinute ∨ (x.endMinute = y.endMinute ∧ x.event ≤ y.event))

/-- R124, R120: PREVIEW_EXHAUSTION of an event: every half of the event in PREVIEW whose allowance is used up becomes
PURCHASE_NEEDED, no other half changes, and the entry stays. One PREVIEW_END notice to each member of each ACTIVE context
whose governing half was exhausted comes first (their order: log entry 33, DESIGN CHOICE); then the gates of those members
are what the tests give; no other output changes. The exhaustion is one that a 1-second tick left in exhaustDue, a command of
its own (log entry 3, DESIGN CHOICE). -/
def Obligations.PreviewExhaustionEndsPreview : Prop :=
  ∀ (s : State) (event : Nat) (x : PreviewEntry), s.ticks.exhaustDue.contains event = true →
    s.access.previews.find? (fun y => y.event = event) = some x →
    ∃ t : State, exec (.previewExhaustion event) s = .next t ∧
      (∀ (c : Fin 8) (p : HalfParity) (h : Half), (s.ctxs[c]).half p = some h →
        (t.ctxs[c]).half p = some (if h.exhaustedAt event x.seconds then { h with verdict := .purchaseNeeded } else h)) ∧
      (∀ (c : Fin 8) (p : HalfParity), (s.ctxs[c]).half p = none → (t.ctxs[c]).half p = none) ∧
      (∀ c : Fin 8, (t.ctxs[c]).life = (s.ctxs[c]).life ∧ (t.ctxs[c]).members = (s.ctxs[c]).members ∧
        (t.ctxs[c]).parity = (s.ctxs[c]).parity ∧ (t.ctxs[c]).epoch = (s.ctxs[c]).epoch) ∧
      (∃ rest : List OwnReq, (∀ r ∈ rest, r.what.ofNotices = true) ∧
        t.port.ownAll = ((previewEndNotices s event x.seconds).foldl State.notify s).port.ownAll ++ rest) ∧
      gatesFollow (exhaustedViewer s event x.seconds) t ∧
      (∀ o : Fin 6, ¬ exhaustedViewer s event x.seconds o → t.outs[o] = s.outs[o]) ∧
      ((∀ o : Fin 6, ¬ exhaustedViewer s event x.seconds o) → handedOver [] s t) ∧
      t.ticks = { s.ticks with exhaustDue := s.ticks.exhaustDue.filter (· ≠ event) } ∧
      onlyChanges [.time, .own, .contexts, .outputs, .writer] s t

/-- R130 to R132, R140, R129: a BUY that passes every check debits the price of the offered event, appends its PURCHASE
record with the next sequence, makes the event owned, and is ACCEPTED with that sequence. Its PIN is not needed, or it
matches a profile that is not locked. Then every verdict is what its criteria give (R120), and
the gates of the members of ACTIVE contexts whose governing verdict moved follow. -/
def Obligations.BuyDebitsAndOwns : Prop :=
  ∀ (s : State) (f : Fetched) (o : Fin 6) (e : EventCriteria) (price clock : Nat), atHand s .buy f →
    outputOf f.bytes.buyOp.output = some o → (s.outCfg o).enabled = true → s.guide.clock = some clock →
    s.offeredEvent o = some e → e.event = f.bytes.buyOp.event → s.priceNow e = some price →
    (∀ x ∈ s.access.owned, x.event ≠ e.event) →
    ((s.profiles[(s.outCfg o).profile]).purchasePin = false ∨
      ((s.profiles[(s.outCfg o).profile]).lockoutEnd = none ∧
        pinOf f.bytes.buyOp.pin = some (s.profiles[(s.outCfg o).profile]).pin)) →
    price = f.bytes.buyOp.confirm → -(s.rights.overdraft : Int) ≤ s.purse.balance - price →
    s.access.owned.length < 64 → s.purse.appendFails 0 = none →
    ∃ (t : State) (r : JournalRecord), exec .buy s = .next t ∧
      answeredAfter f .buy ⟨.accepted, s.purse.newest + 1⟩ s t ∧
      r = ⟨s.purse.newest + 1, .purchase, -(price : Int), s.purse.balance - price, e.event, e.start + e.duration, clock,
        some o.val, 0, s.purse.writePos⟩ ∧
      t.purse.list = s.purse.list ++ [r] ∧ t.purse.queue = s.purse.queue ++ [r] ∧
      t.purse.balance = s.purse.balance - price ∧ t.purse.writePos = (s.purse.writePos + 1) % 1024 ∧
      t.purse.watermark = s.purse.watermark ∧ t.purse.floorUnit = s.purse.floorUnit ∧
      t.purse.floorGroup = s.purse.floorGroup ∧
      t.access.owned = s.access.owned ++ [⟨e.event, e.start + e.duration, s.purse.newest + 1⟩] ∧
      halvesJudged s t ∧ gatesFollow (verdictMoved s t) t ∧
      (∀ x : Fin 6, ¬ verdictMoved s t x → t.outs[x] = s.outs[x]) ∧
      otherProfiles (s.outCfg o).profile s t ∧
      onlyChanges [.own, .intake, .contexts, .outputs, .access, .journal, .flashWork, .profiles, .writer] s t

/-- R104 to R114: a RIGHTS record that passes its checks applies its items in order and is ACCEPTED with the numbers of its
items and of its appends. Each TOPUP and COLLECT item is one journal record with the next sequence, carrying the record's
sequence, the address kind, and the item's amount or up-to sequence; the balance rises by the top-ups. The package entries,
overdraft limit, region code and mask ceiling are what the last item on each leaves; a PIN_RESET replaces the profile's PIN
and ends its failures and lockout, and no other profile field changes. The sequence is stored for its address kind alone.
The JOURNAL notices and then RIGHTS_CHANGED, with what the record left, come before every other notice of it. The settings
store is marked CHANGE (R107), every verdict is what its criteria give (R115), the gates of the
members of ACTIVE contexts whose governing verdict moved follow, and all gates if a REGION item changed the code; no other
output changes. -/
def Obligations.RightsRecordAppliesItems : Prop :=
  ∀ (s : State) (f : Fetched) (u : RightsUnwrap) (op : RightsOp), atHand s .rights f →
    op = f.bytes.rightsOp u.items → s.rightsCheck u.pass op = none →
    ∃ (t : State) (rs : List JournalRecord), exec (.rights u) s = .next t ∧
      answeredAfter f .rights ⟨.accepted, op.items.length * 256 + rs.length⟩ s t ∧
      t.rights.unitSeq = (if op.addressKind = 1 then op.sequence else s.rights.unitSeq) ∧
      t.rights.groupSeq = (if op.addressKind = 2 then op.sequence else s.rights.groupSeq) ∧
      s.rightsBar op.group < op.sequence ∧
      (∀ p : Fin 64, t.rights.packages[p] = op.items.foldl (fun k it => match it with
        | .packageSet q x => if q = p.val then some ⟨x⟩ else k
        | .packageClear q => if q = p.val then none else k
        | _ => k) s.rights.packages[p]) ∧
      t.rights.overdraft = op.items.foldl (fun k it => match it with
        | .overdraft l => l
        | _ => k) s.rights.overdraft ∧
      t.rights.region = op.items.foldl (fun k it => match it with
        | .region c => c
        | _ => k) s.rights.region ∧
      t.rights.mask = op.items.foldl (fun k it => match it with
        | .mask c => c
        | _ => k) s.rights.mask ∧
      (∀ q : Fin 6, t.profiles[q] = op.items.foldl (fun x it => match it with
        | .pinReset n pin =>
          if n = q.val then { x with pin := (pinOf pin).getD x.pin, failures := 0, lockoutEnd := none } else x
        | _ => x) s.profiles[q]) ∧
      (∀ (n : Nat) (pin : List Byte), .pinReset n pin ∈ op.items → n ≤ 5 ∧ ∃ ds : List Nat, pinOf pin = some ds) ∧
      t.purse.list = s.purse.list ++ rs ∧ t.purse.queue = s.purse.queue ++ rs ∧
      rs.map (fun r => (r.kind, r.amount, r.upTo)) = op.items.filterMap (fun it => match it with
        | .topup a => some (.topup, (a : Int), 0)
        | .collect k => some (.collect, 0, k)
        | _ => none) ∧
      rs.map (·.seq) = (List.range rs.length).map (fun k => s.purse.newest + 1 + k) ∧
      (∀ r ∈ rs, r.event = op.sequence ∧ r.endMinute = (if op.addressKind = 2 then 1 else 0) ∧ r.output = none ∧
        r.clock = s.guide.clock.getD 0) ∧
      t.purse.balance = s.purse.balance + (rs.map (·.amount)).sum ∧ t.purse.balance ≤ max s.purse.balance 1000000 ∧
      (rs ≠ [] → op.sequence ≤ t.purse.floor op.group) ∧
      (∃ rest : List OwnReq, t.port.ownAll = ((rs.map Notice.journal ++ [Notice.rightsChanged {
        addressKind := op.addressKind
        items := op.items.length
        kinds := ofFlags ((List.range 8).map (fun k => op.items.any (fun it => it.type = k + 1)))
        packages := (t.rights.packages.toList.filter (·.isSome)).length
        sequence := op.sequence
        balance := t.purse.balance
        newest := t.purse.newest
        region := t.rights.region
        mask := t.rights.mask
        overdraft := t.rights.overdraft }]).foldl State.notify s.freePort).port.own ++ rest) ∧
      t.access.owned = s.access.owned ∧
      (∃ x : Option Target, (rs = [] → x = s.purse.target) ∧
        flashFollows s.flashPort s.settings.marked { t.purse with target := x } t) ∧
      halvesJudged s t ∧ gatesFollow (fun x => verdictMoved s t x ∨ regionMoves s.rights.region op.items) t ∧
      (∀ x : Fin 6, ¬ verdictMoved s t x → ¬ regionMoves s.rights.region op.items → t.outs[x] = s.outs[x]) ∧
      onlyChanges [.own, .intake, .contexts, .outputs, .rights, .access, .journal, .flashWork, .profiles, .writer] s t

/-! ### Parental profiles and the gate -/

/-- R174, R175, R172, R169: the eight tests in order, the first that fails giving the reason: an EVENT or PERIOD override
lifts RATING and UNKNOWN_RATING, a PERIOD override alone lifts HOURS and BUDGET, and with no test failing the gate is OPEN.
The inputs are those of the output, its service, its context and its profile. -/
def Obligations.GateTestsInOrder : Prop :=
  (∀ i : GateInputs,
    (i.isExport = true → i.exportOk = false → i.value = .closed .exportDenied) ∧
    ((i.isExport = false ∨ i.exportOk = true) →
      (i.regionOk = false → i.value = .closed .region) ∧
      (i.regionOk = true →
        (i.verdict = some .notEntitled → i.value = .closed .notEntitled) ∧
        (i.verdict ≠ some .notEntitled →
          (∀ r : Nat, i.rating = some r → i.ceiling < r → i.eventOverride = false → i.periodOverride = false →
            i.value = .closed .rating) ∧
          (i.rating = none → i.blockUnknown = true → i.eventOverride = false → i.periodOverride = false →
            i.value = .closed .unknownRating) ∧
          ((i.eventOverride = true ∨ i.periodOverride = true ∨ (∃ r : Nat, i.rating = some r ∧ r ≤ i.ceiling) ∨
              (i.rating = none ∧ i.blockUnknown = false)) →
            (i.hoursFail = true → i.periodOverride = false → i.value = .closed .hours) ∧
            (i.hoursFail = false ∨ i.periodOverride = true →
              (i.budgetFail = true → i.periodOverride = false → i.value = .closed .budget) ∧
              (i.budgetFail = false ∨ i.periodOverride = true →
                (i.verdict = some .purchaseNeeded → i.value = .closed .purchase) ∧
                (i.verdict ≠ some .purchaseNeeded → i.value = .opened)))))))) ∧
  (∀ (s : State) (o q : Fin 6) (v : Tuned) (i : GateInputs), i = s.gateInputs o v → q = (s.outCfg o).profile →
    i.isExport = (s.outCfg o).isExport ∧
    (∀ a : MapEntry, s.guide.attributes v.service = some a →
      i.exportOk = a.exportOk ∧ i.regionOk = a.regions.getLsbD s.rights.region) ∧
    i.governing = (s.ctxs[v.context]).governing ∧ i.verdict = i.governing.map (fun g => g.2.verdict) ∧
    i.ceiling = (s.profiles[q]).ceiling ∧ i.blockUnknown = (s.profiles[q]).blockUnknown ∧
    (i.hoursFail = true ↔ (s.profiles[q]).result = .outside) ∧
    (i.budgetFail = true ↔ ∃ b : Nat, (s.profiles[q]).budget = some b ∧ b ≤ (s.profiles[q]).minutesUsed) ∧
    (i.eventOverride = true ↔ ∃ e : Nat, (s.outs[o]).eventUnlock = some e ∧ s.presentEvent o = some e) ∧
    (i.periodOverride = true ↔ ∃ e : Nat, (s.outs[o]).periodUnlock = some e))

/-- R157 to R160, R155: PIN records whose comparison matches: UNLOCK_EVENT sets the EVENT unlock to the present event,
UNLOCK_PERIOD sets the PERIOD unlock's end, and the output's gate is then what the tests give; CHANGE replaces the profile's
PIN; the profile's failure count is 0. -/
def Obligations.MatchingPinUnlocksOrChanges : Prop :=
  ∀ (s : State) (f : Fetched) (o q : Fin 6), atHand s .pin f → outputOf f.bytes.pinOp.output = some o →
    (s.outCfg o).enabled = true → q = (s.outCfg o).profile → (s.profiles[q]).lockoutEnd = none →
    pinOf f.bytes.pinOp.pin = some (s.profiles[q]).pin →
    (∀ e : Nat, f.bytes.pinOp.action = 1 → s.presentEvent o = some e → ∃ t : State, exec .pinUnlockEvent s = .next t ∧
      answeredAfter f .pin ⟨.accepted, e⟩ s t ∧ (t.outs[o]).eventUnlock = some e ∧
      (t.outs[o]).periodUnlock = (s.outs[o]).periodUnlock ∧ t.profiles[q] = { s.profiles[q] with failures := 0 } ∧
      otherProfiles q s t ∧ otherOutputs o s t ∧ gatesFollow (· = o) t ∧
      onlyChanges [.own, .intake, .outputs, .profiles, .flashWork, .writer] s t) ∧
    (∀ m : Nat, f.bytes.pinOp.action = 2 → f.bytes.pinOp.minutes = m → 1 ≤ m → m ≤ 240 →
      ∃ t : State, exec .pinUnlockPeriod s = .next t ∧
        answeredAfter f .pin ⟨.accepted, m⟩ s t ∧ (t.outs[o]).periodUnlock = some (s.ticks.now + m * 60000) ∧
        (t.outs[o]).tune = (s.outs[o]).tune ∧ t.profiles[q] = { s.profiles[q] with failures := 0 } ∧
        otherProfiles q s t ∧ otherOutputs o s t ∧ gatesFollow (· = o) t ∧
        onlyChanges [.own, .intake, .outputs, .profiles, .flashWork, .writer] s t) ∧
    (∀ pin : List Nat, f.bytes.pinOp.action = 3 → pinOf f.bytes.pinOp.newPin = some pin →
      ∃ t : State, exec .pinChange s = .next t ∧ answersWith f .pin ⟨.accepted, 0⟩ s.freePort t ∧
        t.profiles[q] = { s.profiles[q] with pin := pin, failures := 0 } ∧ otherProfiles q s t ∧
        (s.flashFree = false → t.settings = { s.settings with dirty := .change }) ∧
        onlyChanges [.own, .intake, .profiles, .flashWork] s t)

/-- R155: a PIN comparison: in lockout nothing is compared and the seconds that remain are answered; a match clears the
failure count; a mismatch raises it and answers it, and the fifth locks the profile for 900 seconds with one LOCKOUT
notice. Each change marks the settings store CHANGE, and no other profile changes. -/
def Obligations.PinComparisonCountsAndLocks : Prop :=
  ∀ (s : State) (q : Fin 6) (pin : List Byte) (kind : Nat) (o : Option Nat) (n : Nat),
    n = (s.profiles[q]).failures →
    (∀ e : Nat, (s.profiles[q]).lockoutEnd = some e →
      s.comparePin q pin kind o = (s, some ⟨.lockedOut, (e - s.ticks.now + 999) / 1000⟩)) ∧
    ((s.profiles[q]).lockoutEnd = none → pinOf pin = some (s.profiles[q]).pin →
      ∃ t : State, s.comparePin q pin kind o = (t, none) ∧ (t.profiles[q]) = { s.profiles[q] with failures := 0 } ∧
        t.settings.dirty = (if n = 0 then s.settings.dirty else .change) ∧
        otherProfiles q s t ∧ onlyChanges [.profiles, .flashWork] s t) ∧
    ((s.profiles[q]).lockoutEnd = none → pinOf pin ≠ some (s.profiles[q]).pin → n ≤ 4 →
      ∃ t : State, s.comparePin q pin kind o = (t, some ⟨.pinWrong, n + 1⟩) ∧
        t.profiles[q] = { s.profiles[q] with
          failures := n + 1
          lockoutEnd := if n = 4 then some (s.ticks.now + 900000) else none } ∧
        handedOver (if n = 4 then [.lockout q.val kind o (s.ticks.now + 900000)] else []) s t ∧
        t.settings.dirty = .change ∧ otherProfiles q s t ∧
        onlyChanges [.profiles, .flashWork, .own, .writer] s t)

/-- R161, R162, R155: a PROFILE record that passes its checks and carries the master PIN of a master profile that is not
locked stores every present field of the target profile: a new PIN ends its failures and lockout, a window is judged
afresh, a budget clears the warning; no other profile changes but for the master profile's failure count, which the match
sets to 0. The settings store is marked CHANGE, the gates of the tuned outputs bound to the target are what the tests give, and
no other output changes. -/
def Obligations.ProfileRecordEditsTarget : Prop :=
  ∀ (s : State) (f : Fetched) (q : Fin 6) (op : ProfileOp), atHand s .profile f → op = f.bytes.profileOp →
    outputOf op.target = some q → op.maskOk = true → op.fieldsOk = true → (s.profiles[(0 : Fin 6)]).lockoutEnd = none →
    pinOf op.master = some (s.profiles[(0 : Fin 6)]).pin →
    ∃ t : State, exec .profile s = .next t ∧ answeredAfter f .profile ⟨.accepted, 0⟩ s t ∧
      (t.profiles[q]).ceiling = (if op.mask.getLsbD 0 then op.ceiling else (s.profiles[q]).ceiling) ∧
      (t.profiles[q]).blockUnknown = (if op.mask.getLsbD 1 then op.flags.getLsbD 0 else (s.profiles[q]).blockUnknown) ∧
      (t.profiles[q]).window = (if op.mask.getLsbD 2 then
          (if op.flags.getLsbD 2 then some (op.windowStart, op.windowEnd) else none) else (s.profiles[q]).window) ∧
      (t.profiles[q]).result = (if op.mask.getLsbD 2 then
          windowResult (t.profiles[q]).window s.guide.minuteOfDay else (s.profiles[q]).result) ∧
      (t.profiles[q]).budget = (if op.mask.getLsbD 3 then
          (if op.flags.getLsbD 3 then some op.budget else none) else (s.profiles[q]).budget) ∧
      (t.profiles[q]).warned = (if op.mask.getLsbD 3 then false else (s.profiles[q]).warned) ∧
      (t.profiles[q]).purchasePin = (if op.mask.getLsbD 4 then op.flags.getLsbD 1 else (s.profiles[q]).purchasePin) ∧
      (op.mask.getLsbD 5 = true → pinOf op.newPin = some (t.profiles[q]).pin ∧ (t.profiles[q]).failures = 0 ∧
        (t.profiles[q]).lockoutEnd = none) ∧
      (op.mask.getLsbD 5 = false → (t.profiles[q]).pin = (s.profiles[q]).pin ∧
        (t.profiles[q]).lockoutEnd = (s.profiles[q]).lockoutEnd ∧
        (t.profiles[q]).failures = if q = 0 then 0 else (s.profiles[q]).failures) ∧
      (t.profiles[q]).minutesUsed = (s.profiles[q]).minutesUsed ∧
      (t.profiles[q]).accumulator = (s.profiles[q]).accumulator ∧
      (∀ x : Fin 6, x ≠ q → x ≠ 0 → t.profiles[x] = s.profiles[x]) ∧
      (q ≠ 0 → t.profiles[(0 : Fin 6)] = { s.profiles[(0 : Fin 6)] with failures := 0 }) ∧
      flashFollows s.flashPort s.settings.marked s.purse t ∧
      gatesFollow (fun x => (s.outCfg x).profile = q) t ∧
      (∀ x : Fin 6, (s.outCfg x).profile ≠ q ∨ (s.outs[x]).tune = none → t.outs[x] = s.outs[x]) ∧
      onlyChanges [.own, .intake, .outputs, .profiles, .flashWork, .writer] s t

/-- R165, R166: a rise of minutes-used that a 1-second tick made due (log entry 3, DESIGN CHOICE): it rises by 1 unless it is
1,440 already; a rise marks the settings store METERING, which leaves CHANGE as it is (R147); the warning is given once, within 5 minutes of a budget above 0; when the budget has just been reached, every
tuned output bound to the profile has its gate evaluated, and it is then what the tests give, where BUDGET now fails; a rise
that does not reach the budget evaluates no gate. -/
def Obligations.MinutesUsedRiseWarnsAndCloses : Prop :=
  ∀ (s : State) (q : Fin 6) (viewers : List (Fin 6)) (p : Profile), s.dueRise q = some (q, viewers) →
    p = s.profiles[q] →
    (1440 ≤ p.minutesUsed → ∃ t : State, exec (.minutesUsedRise q) s = .next t ∧
      t.ticks = { s.ticks with riseDue := s.ticks.riseDue.erase (q, viewers) } ∧ onlyChanges [.time] s t) ∧
    (p.minutesUsed < 1440 → ∃ t : State, exec (.minutesUsedRise q) s = .next t ∧
      t.ticks = { s.ticks with riseDue := s.ticks.riseDue.erase (q, viewers) } ∧
      (∀ (b : Nat), p.budget = some b → 0 < b → p.warned = false → b ≤ p.minutesUsed + 6 →
        t.profiles[q] = { p with minutesUsed := p.minutesUsed + 1, warned := true } ∧
        (b ≠ p.minutesUsed + 1 →
          handedOver [.budgetWarn q.val (allOutputs.map viewers.contains) (p.minutesUsed + 1) b
            (b - (p.minutesUsed + 1))] s t)) ∧
      ((p.budget = none ∨ p.budget = some 0 ∨ p.warned = true ∨ ∃ b : Nat, p.budget = some b ∧ p.minutesUsed + 6 < b) →
        t.profiles[q] = { p with minutesUsed := p.minutesUsed + 1 } ∧
        (p.budget ≠ some (p.minutesUsed + 1) → handedOver [] s t)) ∧
      (p.budget ≠ some (p.minutesUsed + 1) → t.outs = s.outs) ∧
      (p.budget = some (p.minutesUsed + 1) → gatesFollow (fun x => (s.outCfg x).profile = q) t ∧
        ∀ (x : Fin 6) (v : Tuned), (s.outCfg x).profile = q → (t.outs[x]).tune = some v →
          (t.gateInputs x v).budgetFail = true) ∧ otherProfiles q s t ∧
      flashFollows s.flashPort { s.settings with dirty := if s.settings.dirty = .change then .change else .metering }
        s.purse t ∧
      onlyChanges [.time, .own, .outputs, .profiles, .flashWork, .writer] s t)

/-- R156, R164, R184, R187, R136, R148: timers: a lockout ends with a CHANGE mark; a PERIOD unlock ends, and a tuned output's
gate is evaluated; the mitigation delay asserts the notice line; the blink cycle moves the phase that the OFFER lamp
follows; the flash inhibit ends; the metering pace lets a rewrite start with a fresh snapshot. R176, R177, R171, R134: an
evaluation sets the gate to what the tests give, clears an EVENT unlock not in force, issues GATE if the value differs from
the reported one, and the offer and its notice follow; an IDLE output stays CLOSED, IDLE, without offer or notice. R135: the
refresh of an offer while the reason stays PURCHASE: a price that differs, or that now exists, issues OFFER; an equal one
does nothing; no price makes the offer none. -/
def Obligations.TimersExpireAndGatesFollow : Prop :=
  (∀ (s : State) (q : Fin 6), s.lockoutDue q = true → ∃ t : State, exec (.lockoutTimerExpiry q) s = .next t ∧
    t.profiles[q] = { s.profiles[q] with lockoutEnd := none, failures := 0 } ∧ otherProfiles q s t ∧
    (s.flashFree = false → t.settings = { s.settings with dirty := .change }) ∧
    onlyChanges [.profiles, .flashWork] s t) ∧
  (∀ (s : State) (o : Fin 6), s.unlockDue o = true → ∃ t : State, exec (.periodUnlockExpiry o) s = .next t ∧
    (t.outs[o]).periodUnlock = none ∧ (t.outs[o]).tune = (s.outs[o]).tune ∧ otherOutputs o s t ∧
    ((s.outs[o]).tune = none → t.outs[o] = { s.outs[o] with periodUnlock := none } ∧ onlyChanges [.outputs] s t) ∧
    (∀ v : Tuned, (s.outs[o]).tune = some v →
      evaluatedGate .unlock o v { s with outs := s.outs.set o { s.outs[o] with periodUnlock := none } } t) ∧
    onlyChanges [.own, .outputs, .writer] s t) ∧
  (∀ s : State, s.mitigationDue = true → ∃ t : State, exec .mitigationDelayExpiry s = .next t ∧
    t.writer = { s.writer with line := true, delayEnd := none } ∧ onlyChanges [.writer] s t) ∧
  (∀ s : State, s.blinkDue = true → ∃ t : State, exec .blinkCycle s = .next t ∧
    t.lamps.phase = (!s.lamps.phase) ∧ t.lamps.offer = (s.offerCondition && !s.lamps.phase) ∧ onlyChanges [] s t) ∧
  (∀ s : State, s.inhibitEnds = true → ∃ t : State, exec .flashInhibitEnd s = .next t ∧
    t.flashPort.inhibited = false ∧ onlyChanges [.flashWork] s t) ∧
  (∀ s : State, s.paceElapsed = true → s.purse.queue = [] → s.purse.target = none →
    ∃ t : State, exec .meteringPaceElapsed s = .next t ∧ t.flashPort = { s.flashPort with op := some .rewriteErase } ∧
      t.settings = ⟨.none, false, s.ticks.now, some ⟨s.snapshot, 1⟩⟩ ∧ onlyChanges [.flashWork] s t) ∧
  (∀ (s : State) (cause : GateCause) (o : Fin 6),
    (∀ v : Tuned, (s.outs[o]).tune = some v → evaluatedGate cause o v s (s.evaluate cause false o)) ∧
    ((s.outs[o]).tune = none →
      (s.evaluate cause false o).outs[o] =
        { s.outs[o] with gate := .closed .idle, reported := .closed .idle, offer := none } ∧
      otherOutputs o s (s.evaluate cause false o) ∧ onlyChanges [.outputs] s (s.evaluate cause false o))) ∧
  (∀ (s : State) (o : Fin 6) (v : Tuned), (s.outs[o]).tune = some v →
    otherOutputs o s (s.refreshOffer o) ∧ onlyChanges [.own, .outputs, .writer] s (s.refreshOffer o) ∧
    ((s.outs[o]).gate ≠ .closed .purchase → s.refreshOffer o = s) ∧
    ((s.outs[o]).gate = .closed .purchase → ∀ e : EventCriteria, s.offeredEvent o = some e →
      (∀ p : Nat, s.priceNow e = some p →
        ((s.outs[o]).offer = some ⟨e.event, p⟩ → s.refreshOffer o = s) ∧
        ((s.outs[o]).offer ≠ some ⟨e.event, p⟩ →
          (s.refreshOffer o).outs[o] = { s.outs[o] with offer := some ⟨e.event, p⟩ } ∧
          handedOver [offerOf o v e p s] s (s.refreshOffer o))) ∧
      (s.priceNow e = none → (s.refreshOffer o).outs[o] = { s.outs[o] with offer := none } ∧
        handedOver [] s (s.refreshOffer o))))

/-! ### Notices, the report ring, statistics -/

/-- R182: a notice handed over while the ring is not full takes the write index and issues its 64-byte entry and then the
publishing write of the advanced index with overrun flag 0, and the pending flag and dropped count are cleared into its
header; one that finds the ring full is dropped and counted, and the first dropped one issues the overrun word. -/
def Obligations.NoticesFillRingOrDrop : Prop :=
  ∀ (s : State) (n : Notice),
    (s.writer.full = false →
      (s.notify n).writer = { s.writer with
        writeIdx := (s.writer.writeIdx + 1) % 1023, overrun := false, dropped := 0 } ∧
      ∃ entry : List Byte, entry.length = 64 ∧
        entry.take 16 = beBytes 1 n.kind ++ beBytes 1 (if s.writer.overrun then 1 else 0) ++ beBytes 2 s.writer.dropped ++
          beBytes 4 s.ticks.now ++ beBytes 4 (s.guide.clock.getD 0) ++ zeros 4 ∧
        (∃ k : Nat, entry.drop 16 = n.fields ++ zeros k) ∧
        (s.notify n).port = { s.port with own := s.port.own ++
          [⟨.entry, s.cfg.repBase + (s.writer.writeIdx + 1) * 64, entry, false⟩,
            ⟨.publish ((s.writer.writeIdx + 1) % 1023), s.cfg.repBase,
              beBytes 4 ((s.writer.writeIdx + 1) % 1023) ++ zeros 4, false⟩] }) ∧
    (s.writer.full = true →
      (s.notify n).writer = { s.writer with overrun := true, dropped := min 65535 (s.writer.dropped + 1) } ∧
      (s.notify n).port = { s.port with own := s.port.own ++
        if s.writer.overrun then [] else [⟨.overrun, s.cfg.repBase + 4, beBytes 4 1, false⟩] })

/-- R182, R184: a publishing write that completes puts its words into DRAM and its index becomes the published index; the
line is asserted at once at the mitigation count or with no delay, and the delay starts when the unconsumed count rises
from 0. One issued before a link reset only completes (R192). -/
def Obligations.PublicationMovesNoticeLine : Prop :=
  ∀ (s : State) (r : OwnReq) (i n : Nat), MemoriesOk s → s.servingOwn = some r → r.what = .publish i →
    n = (i + 1023 - s.writer.consIdx) % 1023 →
    (r.void = true → ∃ t : State, exec .publishingWriteComplete s = .next t ∧ dramHolds r.addr r.data s t ∧
      t.port.ownAll = s.port.own ∧ onlyChanges [.own, .dram] s t) ∧
    (r.void = false → ∃ t : State, exec .publishingWriteComplete s = .next t ∧ dramHolds r.addr r.data s t ∧
      t.port.ownAll = s.port.own ∧ t.writer.pubIdx = i ∧
      (s.writer.line = true → t.writer = { s.writer with pubIdx := i }) ∧
      (s.writer.line = false → s.cfg.mitCount ≤ n →
        t.writer = { s.writer with pubIdx := i, line := true, delayEnd := none }) ∧
      (s.writer.line = false → n < s.cfg.mitCount → s.writer.unconsumed = 0 → 0 < n →
        t.writer = if s.cfg.mitDelay = 0 then { s.writer with pubIdx := i, line := true, delayEnd := none }
          else { s.writer with pubIdx := i, delayEnd := some (s.ticks.now + s.cfg.mitDelay) }) ∧
      (s.writer.line = false → n < s.cfg.mitCount → s.writer.unconsumed ≠ 0 ∨ n = 0 →
        t.writer = { s.writer with pubIdx := i }) ∧
      onlyChanges [.own, .writer, .dram] s t)

/-- R183, R184, R195, R3: a write that covers bytes of the consumer-index word reaches DRAM and the copy; a value above
1,022, or one that comes while a control-block write is not completed, is ignored; any other becomes the consumer index, and
the line follows the unconsumed count it leaves. R186: a deferred statistics set is then written whole if the places suffice,
and otherwise stays deferred. -/
def Obligations.ConsumerWriteMovesIndexAndLine : Prop :=
  ∀ (s : State) (u : UpReq) (v n : Nat), MemoriesOk s → s.servingUp = some u → s.completionOf u = .consumer →
    v = ofBytes (s.newCopy u.req) → n = (s.writer.pubIdx + 1023 - v) % 1023 →
    ∃ t : State, exec .consumerIndexWrite s = .next t ∧
      t.path.answers = s.path.answers ++ (if u.lost then [] else [⟨u.req, []⟩]) ∧
      t.port.upAll = s.port.up ∧ dramHolds u.req.addr (writeData u.req) s t ∧
      (1022 < v ∨ s.port.controlBlockPending = true → answersOne u [] s t ∧
        t.writer = { s.writer with consumerCopy := s.newCopy u.req } ∧
        onlyChanges [.path, .upstream, .writer, .dram] s t) ∧
      (v ≤ 1022 → s.port.controlBlockPending = false → ∃ w : Writer,
        (n = 0 → w = { s.writer with
          consumerCopy := s.newCopy u.req, consIdx := v, line := false, delayEnd := none }) ∧
        (n ≠ 0 → s.writer.line = true → w = { s.writer with consumerCopy := s.newCopy u.req, consIdx := v }) ∧
        (n ≠ 0 → s.writer.line = false → s.cfg.mitCount ≤ n ∨ s.cfg.mitDelay = 0 → w = { s.writer with
          consumerCopy := s.newCopy u.req, consIdx := v, line := true, delayEnd := none }) ∧
        (n ≠ 0 → s.writer.line = false → n < s.cfg.mitCount → s.cfg.mitDelay ≠ 0 → w = { s.writer with
          consumerCopy := s.newCopy u.req, consIdx := v, delayEnd := some (s.ticks.now + s.cfg.mitDelay) }) ∧
        (s.writer.statsDeferred = false ∨ 1022 - (s.writer.writeIdx + 1023 - v) % 1023 < s.statsSize →
          t.writer = w ∧ answersOne u [] s t ∧ onlyChanges [.path, .upstream, .writer, .dram] s t) ∧
        (s.writer.statsDeferred = true → s.statsSize ≤ 1022 - (s.writer.writeIdx + 1023 - v) % 1023 →
          statsWritten { s with writer := { w with statsDeferred := false } } t)) ∧
      onlyChanges [.path, .upstream, .own, .guide, .outputs, .writer, .dram] s t

/-- R185, R186: at the statistics timer's expiry the timer runs on for another period; with room for the whole set its
notices are handed over in order, the enabled outputs, the configured windows, the guide, each with its counters, and every
reported counter is 0; without room, or with a set deferred, nothing is written and no counter changes (that an expiry with
a deferred set only restarts the timer is log entry 24, DEDUCED). -/
def Obligations.StatisticsSetIsWholeOrDeferred : Prop :=
  ∀ (s : State) (e : Nat), RingOk s → s.writer.statsEnd = some e → s.running = true → e ≤ s.ticks.now →
    ∃ t : State, exec .statisticsTimerExpiry s = .next t ∧
      t.writer.statsEnd = some (e + s.cfg.statPeriod * 1000) ∧
      (s.writer.statsDeferred = false → s.statsSize ≤ 1022 - s.writer.issued →
        statsWritten
          { s with writer := { s.writer with statsEnd := some (e + s.cfg.statPeriod * 1000) } } t ∧
        t.writer.statsDeferred = false ∧
        (∃ rs : List OwnReq, t.port.ownAll = s.port.ownAll ++ rs ∧ rs.length = 2 * s.statsSize)) ∧
      (s.writer.statsDeferred = true ∨ 1022 - s.writer.issued < s.statsSize →
        t.writer = { s.writer with statsEnd := some (e + s.cfg.statPeriod * 1000), statsDeferred := true } ∧
        onlyChanges [.writer] s t) ∧
      onlyChanges [.path, .own, .guide, .outputs, .writer] s t

/-! ### The journal, the settings store, the mount -/

/-- R142, R149, R136: a page program that completes leaves the record's 32 bytes at its place, and the record leaves the
queue; a rewrite's erase leaves the settings sector FFh; a rewrite's page leaves its 256 bytes of the snapshot, and the
last page ends the rewrite. R145: an erase-ahead erase that completes leaves its sector FFh, sets the erased flag, takes
the sector's records from the list, and the target is found again and checked. After each the flash arbiter chooses (R137):
the program of the queue's head, then the erase of a WAITING target that passes its start check, else the rewrite's next
step or an eligible rewrite's first. R140, R143, R144: an append puts its record behind list and queue and, unless an erase is
in progress, finds the target again where the write position moves into another sector, repeats its check for a COLLECT, and
otherwise leaves it. -/
def Obligations.FlashOperationsComplete : Prop :=
  (∀ s : State, flashChosen s s.chooseFlash) ∧
  (∀ (s : State) (e : Entry) (t : State) (r : JournalRecord), t = s.append e →
    r = ⟨s.purse.newest + 1, e.kind, e.amount, s.purse.balance + e.amount, e.event, e.endMinute, s.guide.clock.getD 0,
      e.output, e.upTo, s.purse.writePos⟩ →
    t.purse.list = s.purse.list ++ [r] ∧ t.purse.queue = s.purse.queue ++ [r] ∧
      t.purse.writePos = (s.purse.writePos + 1) % 1024 ∧ t.purse.balance = s.purse.balance + e.amount ∧
      (∀ k : Fin 8, t.purse.erased[k] = if s.purse.writePos % 128 = 0 ∧ k = sectorOf s.purse.writePos then false
        else s.purse.erased[k]) ∧
      t.purse.watermark = (if e.kind = .collect then max s.purse.watermark e.upTo else s.purse.watermark) ∧
      ((∃ k : Fin 8, s.flashPort.op = some (.erase k)) → t.purse.target = s.purse.target) ∧
      ((∀ k : Fin 8, s.flashPort.op ≠ some (.erase k)) →
        (sectorOf t.purse.writePos ≠ sectorOf s.purse.writePos → targetFound t.purse.target t) ∧
        (sectorOf t.purse.writePos = sectorOf s.purse.writePos →
          (e.kind = .collect →
            targetRechecked t.purse.target { t with purse := { t.purse with target := s.purse.target } }) ∧
          (e.kind ≠ .collect → t.purse.target = s.purse.target))) ∧
      handedOver [.journal r] s t ∧ onlyChanges [.own, .journal, .flashWork, .writer] s t) ∧
  (∀ s : State, MemoriesOk s →
    (∀ r : JournalRecord, s.flashPort.op = some (.program r) → ∃ t : State, exec .pageProgramComplete s = .next t ∧
      flashHolds (placeAddr r.place) r.bytes s t ∧
      flashFollows { s.flashPort with op := none } s.settings { s.purse with queue := s.purse.queue.tail } t ∧
      onlyChanges [.journal, .flashWork, .flash] s t) ∧
    (s.flashPort.op = some .rewriteErase → ∃ t : State, exec .settingsRewriteStepComplete s = .next t ∧
      flashErased 1 s t ∧ flashFollows { s.flashPort with op := none } s.settings s.purse t ∧
      onlyChanges [.flashWork, .flash] s t) ∧
    (∀ (p : Fin 4) (w : Rewrite), s.flashPort.op = some (.rewritePage p) → s.settings.rewrite = some w →
      ∃ t : State, exec .settingsRewriteStepComplete s = .next t ∧
        flashHolds (0x1000 + 256 * p.val) (slice w.snapshot (256 * p.val) 256) s t ∧
        flashFollows { s.flashPort with op := none }
          { s.settings with rewrite := if p = 3 then none else some w } s.purse t ∧
        onlyChanges [.flashWork, .flash] s t) ∧
    (∀ k : Fin 8, s.flashPort.op = some (.erase k) → ∃ (t : State) (p : Purse) (x : Option Target),
      exec .eraseComplete s = .next t ∧ flashErased (k.val + 2) s t ∧
      p = { s.purse with
        erased := s.purse.erased.set k true
        list := s.purse.list.filter (fun r => decide (sectorOf r.place ≠ k)) } ∧
      targetFound x { s with purse := p } ∧
      flashFollows { s.flashPort with op := none } s.settings { p with target := x } t ∧
      onlyChanges [.journal, .flashWork, .flash] s t))

/-- R150, R154, R101, R168: when the settings read completes: a blank sector gives the factory settings, a good one its
snapshot, any other the locked defaults with SETTINGS_LOST; window results are computed afresh, and the journal is read
next. The dirty state becomes CHANGE for the locked defaults alone. -/
def Obligations.SettingsMountByContent : Prop :=
  ∀ (s : State) (b : List Byte), s.flashPort.op = some .settingsRead → b = s.flashRead 0x1000 1024 →
    ∃ t : State, exec .settingsReadComplete s = .next t ∧ t.flashPort = { s.flashPort with op := some .journalRead } ∧
      (∀ q : Fin 6, (t.profiles[q]).result = windowResult (t.profiles[q]).window s.guide.minuteOfDay) ∧
      (s.settingsIsBlank = true → t.rights = s.cfg.factoryRights ∧ t.guide.budgetDate = none ∧
        (∀ q : Fin 6, (t.profiles[q]).ceiling = (s.cfg.factoryProfiles[q]).ceiling ∧
          (t.profiles[q]).pin = s.cfg.defaultPin ∧ (t.profiles[q]).minutesUsed = 0 ∧
          (t.profiles[q]).budget = (s.cfg.factoryProfiles[q]).budget ∧
          (t.profiles[q]).window = (s.cfg.factoryProfiles[q]).window) ∧
        t.settings = s.settings ∧ handedOver [] s t) ∧
      (s.settingsIsBlank = false → settingsGood b = true → t.rights = settingsRights b ∧
        t.guide.budgetDate = settingsBudgetDate b ∧
        (∀ q : Fin 6, { t.profiles[q] with result := .pass } = settingsProfile b s.ticks.now q.val) ∧
        t.settings = s.settings ∧ handedOver [] s t) ∧
      (s.settingsIsBlank = false → settingsGood b = false →
        t.rights = ⟨0, 0, Vector.replicate 64 none, s.cfg.factoryRegion, 0, s.cfg.factoryMask⟩ ∧
        t.guide.budgetDate = none ∧
        (∀ q : Fin 6, (t.profiles[q]).ceiling = 0 ∧ (t.profiles[q]).blockUnknown = true ∧
          (t.profiles[q]).budget = some 0 ∧ (t.profiles[q]).window = none ∧ (t.profiles[q]).purchasePin = true ∧
          (t.profiles[q]).pin = s.cfg.defaultPin ∧ (t.profiles[q]).minutesUsed = 0 ∧ (t.profiles[q]).failures = 0 ∧
          (t.profiles[q]).lockoutEnd = none) ∧
        t.settings = { s.settings with dirty := .change } ∧ handedOver [.settingsLost] s t) ∧
      onlyChanges [.own, .guide, .rights, .profiles, .flashWork, .writer] s t

/-- R151, R152, R127, R189: the journal mount: the list holds the good records, in rising sequence, one of each sequence; the
balance is that of its last record or 0; the queue is empty and every erased flag says whether its sector reads FFh; the
watermark and the floors are the highest up-to and rights sequences of the list's COLLECT, and TOPUP and COLLECT, records or
0 (a record of neither address kind counts to the GROUP floor: log entry 31, DESIGN CHOICE); the write position is the first
free place behind the newest record in its sector, or slot 0 of the next. The owned events are those of the list's PURCHASE
records that have not aged, the latest of each event, and of more than 64 those that end last. The
erase-ahead target is found and checked, and the flash arbiter has its first choice (R144, R137). The part is ACTIVE with
READY handed over, and one budget date check is made, its CHANGE mark with it (R41). Every output is IDLE before (R79). -/
def Obligations.JournalMountRebuildsPurse : Prop :=
  ∀ s : State, s.flashPort.op = some .journalRead → (∀ o : Fin 6, (s.outs[o]).tune = none) →
    ∃ t : State, exec .journalMount s = .next t ∧ t.part = .active ∧
      t.purse.list.Pairwise (fun x y => x.seq < y.seq) ∧
      (∀ r ∈ t.purse.list, r.place < 1024 ∧ journalRecordOf (s.flashRead (0x2000 + 32 * r.place) 32) r.place = some r) ∧
      (∀ (place : Nat) (r : JournalRecord), place < 1024 →
        journalRecordOf (s.flashRead (0x2000 + 32 * place) 32) place = some r → ∃ x ∈ t.purse.list, x.seq = r.seq) ∧
      t.purse.balance = (match t.purse.list.getLast? with
        | none => 0
        | some r => r.balanceAfter) ∧
      t.purse.queue = [] ∧
      (∀ k : Fin 8, t.purse.erased[k] = Memory.blank 0xFF s.flash ((k.val + 2) * 4096) 4096) ∧
      ((∀ r ∈ t.purse.list, r.kind = .collect → r.upTo ≤ t.purse.watermark) ∧
        (t.purse.watermark = 0 ∨ ∃ r ∈ t.purse.list, r.kind = .collect ∧ r.upTo = t.purse.watermark)) ∧
      ((∀ r ∈ t.purse.list, r.kind ≠ .purchase →
          r.event ≤ if r.endMinute = 0 then t.purse.floorUnit else t.purse.floorGroup) ∧
        (t.purse.floorUnit = 0 ∨
          ∃ r ∈ t.purse.list, r.kind ≠ .purchase ∧ r.endMinute = 0 ∧ r.event = t.purse.floorUnit) ∧
        (t.purse.floorGroup = 0 ∨
          ∃ r ∈ t.purse.list, r.kind ≠ .purchase ∧ r.endMinute ≠ 0 ∧ r.event = t.purse.floorGroup)) ∧
      (t.purse.list = [] → t.purse.writePos = 0) ∧
      (∀ r : JournalRecord, t.purse.list.getLast? = some r →
        (∀ p : Nat, r.place < p → p / 128 = r.place / 128 →
          Memory.blank 0xFF s.flash (0x2000 + 32 * p) 32 = true →
          (∀ x : Nat, r.place < x → x < p → Memory.blank 0xFF s.flash (0x2000 + 32 * x) 32 = false) →
          t.purse.writePos = p) ∧
        ((∀ p : Nat, r.place < p → p / 128 = r.place / 128 →
            Memory.blank 0xFF s.flash (0x2000 + 32 * p) 32 = false) →
          t.purse.writePos = (r.place / 128 + 1) % 8 * 128)) ∧
      budgetDateMoved { s with part := .active } t ∧
      (∀ q : Fin 6, (budgetDayBegins { s with part := .active } →
          t.profiles[q] = { s.profiles[q] with minutesUsed := 0, accumulator := 0, warned := false }) ∧
        (¬ budgetDayBegins { s with part := .active } → t.profiles[q] = s.profiles[q])) ∧
      (∃ x : Option Target, targetFound x t ∧
        flashFollows { s.flashPort with op := none }
          (if t.guide.budgetDate = s.guide.budgetDate then s.settings else s.settings.marked)
          { t.purse with target := x } t) ∧
      (∀ x ∈ t.access.owned, (∃ r ∈ t.purse.list, r.kind = .purchase ∧ x = ⟨r.event, r.endMinute, r.seq⟩) ∧
        ∀ m : Nat, s.guide.nowMinute = some m → m < x.endMinute + 60) ∧
      t.access.owned.length ≤ 64 ∧ (t.access.owned.map (·.event)).Nodup ∧
      (∀ x ∈ t.access.owned, ∀ r ∈ t.purse.list, r.kind = .purchase → r.event = x.event →
        (∀ m : Nat, s.guide.nowMinute = some m → m < r.endMinute + 60) → r.seq ≤ x.seq) ∧
      (∀ r ∈ t.purse.list, r.kind = .purchase →
        (∀ m : Nat, s.guide.nowMinute = some m → m < r.endMinute + 60) →
        (∀ x ∈ t.purse.list, x.kind = .purchase → x.event = r.event →
          (∀ m : Nat, s.guide.nowMinute = some m → m < x.endMinute + 60) → x.seq ≤ r.seq) →
        ⟨r.event, r.endMinute, r.seq⟩ ∈ t.access.owned ∨
          t.access.owned.length = 64 ∧ ∀ y ∈ t.access.owned,
            r.endMinute < y.endMinute ∨ r.endMinute = y.endMinute ∧ r.seq < y.seq) ∧
      handedOver [.ready false s.cfg.version s.cfg.unitId t.purse.balance t.purse.newest]
        { s with writer := { s.writer with statsEnd := t.writer.statsEnd } } t ∧
      t.writer.statsEnd = (if s.cfg.statPeriod = 0 then s.writer.statsEnd
        else some (s.ticks.now + s.cfg.statPeriod * 1000)) ∧
      onlyChanges [.power, .own, .guide, .access, .journal, .flashWork, .profiles, .time, .writer] s t

/-- R138, 12.4: the 32 bytes of a journal record whose fields lie in their ranges are a good record, and reading them gives
the record back. -/
def Obligations.JournalRecordRoundTrip : Prop :=
  ∀ r : JournalRecord, r.seq < 2 ^ 32 → r.event < 2 ^ 32 → r.endMinute < 2 ^ 32 → r.clock < 2 ^ 32 → r.upTo < 2 ^ 32 →
    -2147483648 ≤ r.amount → r.amount ≤ 2147483647 → -10000 ≤ r.balanceAfter → r.balanceAfter ≤ 1000000 →
    (∀ o : Nat, r.output = some o → o ≤ 254) → journalRecordOf r.bytes r.place = some r

/-! ### What holds of the whole part -/

/-- R139, R129, R109, R151: the balance moves only with a BUY, a RIGHTS record, a journal mount, or power. -/
def Obligations.OnlyPurseCommandsMoveBalance : Prop :=
  ∀ (c : Instr) (s t : State), exec c s = .next t → t.purse.balance ≠ s.purse.balance →
    c = .buy ∨ (∃ u : RightsUnwrap, c = .rights u ∧ u.pass = true) ∨ c = .journalMount ∨ c = .powerGood ∨
      ∃ b : List Byte, c = .powerLoss b

/-- R93: a content key stands in a half only if it stood there before or came with a KEY record whose integrity check
passed. -/
def Obligations.KeysComeOnlyFromKeyRecords : Prop :=
  ∀ (c : Instr) (s t : State) (x : Fin 8) (p : HalfParity) (h : Half), exec c s = .next t →
    (t.ctxs[x]).half p = some h →
    (∃ g : Half, (s.ctxs[x]).half p = some g ∧ g.content = h.content) ∨
      ∃ u : KeyUnwrap, c = .key u ∧ u.pass = true

/-- The model's own: DRAM and flash are kept as lists of the bytes that differ from what an unwritten byte reads as (DRAM 00h,
log entry 8, DESIGN CHOICE; flash FFh, the erased byte of R136), and every step keeps that form. -/
def Obligations.StepKeepsMemories : Prop := ∀ s t : State, MemoriesOk s → step s = .next t → MemoriesOk t

/-- R181, R187: the indices of the report ring stay in range, and the lamps follow their conditions. -/
def Obligations.StepKeepsRingAndLamps : Prop :=
  ∀ s t : State, RingOk s → LampsOk s → step s = .next t → RingOk t ∧ LampsOk t

/-- R129, R110, R139, R142, R153: the balance stays between -10,000 and 1,000,000, the program queue within 8 records, and
every profile field in its range. R137: nothing that the flash arbiter may start waits while its port is free (the passing of
the metering pace apart, which is a command of its own: R148; log entry 5, DEDUCED: the arbiter chooses at the end of
every command). -/
def Obligations.StepKeepsPurseAndProfiles : Prop :=
  ∀ s t : State, step s = .next t →
    (PurseOk s → ProfilesOk s → PurseOk t ∧ ProfilesOk t) ∧ (FlashServed s → FlashServed t)

/-- R25, R26, R32, R33, R34: the TAKEN slots stay exactly those of the two queues and the record in processing, each once,
and an outcome write that ends a record's processing belongs to the record in processing. -/
def Obligations.StepKeepsIntake : Prop := ∀ s t : State, IntakeOk s → step s = .next t → IntakeOk t

/-- R58, R59, R60: outputs and contexts keep agreeing on membership, service and window, an ACTIVE context keeps a member,
and no two contexts in use have the same service and window. -/
def Obligations.StepKeepsPool : Prop :=
  ∀ s t : State, PoolOk s → PlacesUnique s → step s = .next t → PoolOk t ∧ PlacesUnique t

/-- The part before power-good meets every invariant (log entry 1 names the values the spec leaves open). -/
def Obligations.ResetMeetsInvariants : Prop :=
  MemoriesOk State.reset ∧ LampsOk State.reset ∧ PurseOk State.reset ∧ PoolOk State.reset ∧
    PlacesUnique State.reset ∧ IntakeOk State.reset ∧ RingOk State.reset ∧ ProfilesOk State.reset ∧
    FlashServed State.reset

end Statements
end

