-- ==== Sys2Proof/Laws/State.lean ====
section
/-! SUPPORT. State updates field by field: an update leaves every field it does not name as it was. -/

namespace Sys2Proof.Machine

section FieldsOfUpdates

variable (s : State)

/-! #### modOut -/

@[simp] theorem State.modOut_powerGood (o : Fin 6) (f : Output → Output) : (s.modOut o f).powerGood = s.powerGood := rfl
@[simp] theorem State.modOut_part (o : Fin 6) (f : Output → Output) : (s.modOut o f).part = s.part := rfl
@[simp] theorem State.modOut_ticks (o : Fin 6) (f : Output → Output) : (s.modOut o f).ticks = s.ticks := rfl
@[simp] theorem State.modOut_cfg (o : Fin 6) (f : Output → Output) : (s.modOut o f).cfg = s.cfg := rfl
@[simp] theorem State.modOut_path (o : Fin 6) (f : Output → Output) : (s.modOut o f).path = s.path := rfl
@[simp] theorem State.modOut_port (o : Fin 6) (f : Output → Output) : (s.modOut o f).port = s.port := rfl
@[simp] theorem State.modOut_intake (o : Fin 6) (f : Output → Output) : (s.modOut o f).intake = s.intake := rfl
@[simp] theorem State.modOut_guide (o : Fin 6) (f : Output → Output) : (s.modOut o f).guide = s.guide := rfl
@[simp] theorem State.modOut_ctxs (o : Fin 6) (f : Output → Output) : (s.modOut o f).ctxs = s.ctxs := rfl
@[simp] theorem State.modOut_loadOrder (o : Fin 6) (f : Output → Output) : (s.modOut o f).loadOrder = s.loadOrder := rfl
@[simp] theorem State.modOut_rights (o : Fin 6) (f : Output → Output) : (s.modOut o f).rights = s.rights := rfl
@[simp] theorem State.modOut_access (o : Fin 6) (f : Output → Output) : (s.modOut o f).access = s.access := rfl
@[simp] theorem State.modOut_purse (o : Fin 6) (f : Output → Output) : (s.modOut o f).purse = s.purse := rfl
@[simp] theorem State.modOut_flashPort (o : Fin 6) (f : Output → Output) : (s.modOut o f).flashPort = s.flashPort := rfl
@[simp] theorem State.modOut_settings (o : Fin 6) (f : Output → Output) : (s.modOut o f).settings = s.settings := rfl
@[simp] theorem State.modOut_profiles (o : Fin 6) (f : Output → Output) : (s.modOut o f).profiles = s.profiles := rfl
@[simp] theorem State.modOut_writer (o : Fin 6) (f : Output → Output) : (s.modOut o f).writer = s.writer := rfl
@[simp] theorem State.modOut_lamps (o : Fin 6) (f : Output → Output) : (s.modOut o f).lamps = s.lamps := rfl
@[simp] theorem State.modOut_dram (o : Fin 6) (f : Output → Output) : (s.modOut o f).dram = s.dram := rfl
@[simp] theorem State.modOut_flash (o : Fin 6) (f : Output → Output) : (s.modOut o f).flash = s.flash := rfl
@[simp] theorem State.modOut_pending (o : Fin 6) (f : Output → Output) : (s.modOut o f).pending = s.pending := rfl

/-! #### modCtx -/

@[simp] theorem State.modCtx_powerGood (c : Fin 8) (f : Context → Context) : (s.modCtx c f).powerGood = s.powerGood := rfl
@[simp] theorem State.modCtx_part (c : Fin 8) (f : Context → Context) : (s.modCtx c f).part = s.part := rfl
@[simp] theorem State.modCtx_ticks (c : Fin 8) (f : Context → Context) : (s.modCtx c f).ticks = s.ticks := rfl
@[simp] theorem State.modCtx_cfg (c : Fin 8) (f : Context → Context) : (s.modCtx c f).cfg = s.cfg := rfl
@[simp] theorem State.modCtx_path (c : Fin 8) (f : Context → Context) : (s.modCtx c f).path = s.path := rfl
@[simp] theorem State.modCtx_port (c : Fin 8) (f : Context → Context) : (s.modCtx c f).port = s.port := rfl
@[simp] theorem State.modCtx_intake (c : Fin 8) (f : Context → Context) : (s.modCtx c f).intake = s.intake := rfl
@[simp] theorem State.modCtx_guide (c : Fin 8) (f : Context → Context) : (s.modCtx c f).guide = s.guide := rfl
@[simp] theorem State.modCtx_loadOrder (c : Fin 8) (f : Context → Context) : (s.modCtx c f).loadOrder = s.loadOrder := rfl
@[simp] theorem State.modCtx_outs (c : Fin 8) (f : Context → Context) : (s.modCtx c f).outs = s.outs := rfl
@[simp] theorem State.modCtx_rights (c : Fin 8) (f : Context → Context) : (s.modCtx c f).rights = s.rights := rfl
@[simp] theorem State.modCtx_access (c : Fin 8) (f : Context → Context) : (s.modCtx c f).access = s.access := rfl
@[simp] theorem State.modCtx_purse (c : Fin 8) (f : Context → Context) : (s.modCtx c f).purse = s.purse := rfl
@[simp] theorem State.modCtx_flashPort (c : Fin 8) (f : Context → Context) : (s.modCtx c f).flashPort = s.flashPort := rfl
@[simp] theorem State.modCtx_settings (c : Fin 8) (f : Context → Context) : (s.modCtx c f).settings = s.settings := rfl
@[simp] theorem State.modCtx_profiles (c : Fin 8) (f : Context → Context) : (s.modCtx c f).profiles = s.profiles := rfl
@[simp] theorem State.modCtx_writer (c : Fin 8) (f : Context → Context) : (s.modCtx c f).writer = s.writer := rfl
@[simp] theorem State.modCtx_lamps (c : Fin 8) (f : Context → Context) : (s.modCtx c f).lamps = s.lamps := rfl
@[simp] theorem State.modCtx_dram (c : Fin 8) (f : Context → Context) : (s.modCtx c f).dram = s.dram := rfl
@[simp] theorem State.modCtx_flash (c : Fin 8) (f : Context → Context) : (s.modCtx c f).flash = s.flash := rfl
@[simp] theorem State.modCtx_pending (c : Fin 8) (f : Context → Context) : (s.modCtx c f).pending = s.pending := rfl

/-! #### modProfile -/

@[simp] theorem State.modProfile_powerGood (q : Fin 6) (f : Profile → Profile) : (s.modProfile q f).powerGood = s.powerGood := rfl
@[simp] theorem State.modProfile_part (q : Fin 6) (f : Profile → Profile) : (s.modProfile q f).part = s.part := rfl
@[simp] theorem State.modProfile_ticks (q : Fin 6) (f : Profile → Profile) : (s.modProfile q f).ticks = s.ticks := rfl
@[simp] theorem State.modProfile_cfg (q : Fin 6) (f : Profile → Profile) : (s.modProfile q f).cfg = s.cfg := rfl
@[simp] theorem State.modProfile_path (q : Fin 6) (f : Profile → Profile) : (s.modProfile q f).path = s.path := rfl
@[simp] theorem State.modProfile_port (q : Fin 6) (f : Profile → Profile) : (s.modProfile q f).port = s.port := rfl
@[simp] theorem State.modProfile_intake (q : Fin 6) (f : Profile → Profile) : (s.modProfile q f).intake = s.intake := rfl
@[simp] theorem State.modProfile_guide (q : Fin 6) (f : Profile → Profile) : (s.modProfile q f).guide = s.guide := rfl
@[simp] theorem State.modProfile_ctxs (q : Fin 6) (f : Profile → Profile) : (s.modProfile q f).ctxs = s.ctxs := rfl
@[simp] theorem State.modProfile_loadOrder (q : Fin 6) (f : Profile → Profile) : (s.modProfile q f).loadOrder = s.loadOrder := rfl
@[simp] theorem State.modProfile_outs (q : Fin 6) (f : Profile → Profile) : (s.modProfile q f).outs = s.outs := rfl
@[simp] theorem State.modProfile_rights (q : Fin 6) (f : Profile → Profile) : (s.modProfile q f).rights = s.rights := rfl
@[simp] theorem State.modProfile_access (q : Fin 6) (f : Profile → Profile) : (s.modProfile q f).access = s.access := rfl
@[simp] theorem State.modProfile_purse (q : Fin 6) (f : Profile → Profile) : (s.modProfile q f).purse = s.purse := rfl
@[simp] theorem State.modProfile_flashPort (q : Fin 6) (f : Profile → Profile) : (s.modProfile q f).flashPort = s.flashPort := rfl
@[simp] theorem State.modProfile_settings (q : Fin 6) (f : Profile → Profile) : (s.modProfile q f).settings = s.settings := rfl
@[simp] theorem State.modProfile_writer (q : Fin 6) (f : Profile → Profile) : (s.modProfile q f).writer = s.writer := rfl
@[simp] theorem State.modProfile_lamps (q : Fin 6) (f : Profile → Profile) : (s.modProfile q f).lamps = s.lamps := rfl
@[simp] theorem State.modProfile_dram (q : Fin 6) (f : Profile → Profile) : (s.modProfile q f).dram = s.dram := rfl
@[simp] theorem State.modProfile_flash (q : Fin 6) (f : Profile → Profile) : (s.modProfile q f).flash = s.flash := rfl
@[simp] theorem State.modProfile_pending (q : Fin 6) (f : Profile → Profile) : (s.modProfile q f).pending = s.pending := rfl

/-! #### modRing -/

@[simp] theorem State.modRing_powerGood (k : Fin 4) (f : Ring → Ring) : (s.modRing k f).powerGood = s.powerGood := rfl
@[simp] theorem State.modRing_part (k : Fin 4) (f : Ring → Ring) : (s.modRing k f).part = s.part := rfl
@[simp] theorem State.modRing_ticks (k : Fin 4) (f : Ring → Ring) : (s.modRing k f).ticks = s.ticks := rfl
@[simp] theorem State.modRing_cfg (k : Fin 4) (f : Ring → Ring) : (s.modRing k f).cfg = s.cfg := rfl
@[simp] theorem State.modRing_port (k : Fin 4) (f : Ring → Ring) : (s.modRing k f).port = s.port := rfl
@[simp] theorem State.modRing_intake (k : Fin 4) (f : Ring → Ring) : (s.modRing k f).intake = s.intake := rfl
@[simp] theorem State.modRing_guide (k : Fin 4) (f : Ring → Ring) : (s.modRing k f).guide = s.guide := rfl
@[simp] theorem State.modRing_ctxs (k : Fin 4) (f : Ring → Ring) : (s.modRing k f).ctxs = s.ctxs := rfl
@[simp] theorem State.modRing_loadOrder (k : Fin 4) (f : Ring → Ring) : (s.modRing k f).loadOrder = s.loadOrder := rfl
@[simp] theorem State.modRing_outs (k : Fin 4) (f : Ring → Ring) : (s.modRing k f).outs = s.outs := rfl
@[simp] theorem State.modRing_rights (k : Fin 4) (f : Ring → Ring) : (s.modRing k f).rights = s.rights := rfl
@[simp] theorem State.modRing_access (k : Fin 4) (f : Ring → Ring) : (s.modRing k f).access = s.access := rfl
@[simp] theorem State.modRing_purse (k : Fin 4) (f : Ring → Ring) : (s.modRing k f).purse = s.purse := rfl
@[simp] theorem State.modRing_flashPort (k : Fin 4) (f : Ring → Ring) : (s.modRing k f).flashPort = s.flashPort := rfl
@[simp] theorem State.modRing_settings (k : Fin 4) (f : Ring → Ring) : (s.modRing k f).settings = s.settings := rfl
@[simp] theorem State.modRing_profiles (k : Fin 4) (f : Ring → Ring) : (s.modRing k f).profiles = s.profiles := rfl
@[simp] theorem State.modRing_writer (k : Fin 4) (f : Ring → Ring) : (s.modRing k f).writer = s.writer := rfl
@[simp] theorem State.modRing_lamps (k : Fin 4) (f : Ring → Ring) : (s.modRing k f).lamps = s.lamps := rfl
@[simp] theorem State.modRing_dram (k : Fin 4) (f : Ring → Ring) : (s.modRing k f).dram = s.dram := rfl
@[simp] theorem State.modRing_flash (k : Fin 4) (f : Ring → Ring) : (s.modRing k f).flash = s.flash := rfl
@[simp] theorem State.modRing_pending (k : Fin 4) (f : Ring → Ring) : (s.modRing k f).pending = s.pending := rfl

/-! #### modPurse -/

@[simp] theorem State.modPurse_powerGood (f : Purse → Purse) : (s.modPurse f).powerGood = s.powerGood := rfl
@[simp] theorem State.modPurse_part (f : Purse → Purse) : (s.modPurse f).part = s.part := rfl
@[simp] theorem State.modPurse_ticks (f : Purse → Purse) : (s.modPurse f).ticks = s.ticks := rfl
@[simp] theorem State.modPurse_cfg (f : Purse → Purse) : (s.modPurse f).cfg = s.cfg := rfl
@[simp] theorem State.modPurse_path (f : Purse → Purse) : (s.modPurse f).path = s.path := rfl
@[simp] theorem State.modPurse_port (f : Purse → Purse) : (s.modPurse f).port = s.port := rfl
@[simp] theorem State.modPurse_intake (f : Purse → Purse) : (s.modPurse f).intake = s.intake := rfl
@[simp] theorem State.modPurse_guide (f : Purse → Purse) : (s.modPurse f).guide = s.guide := rfl
@[simp] theorem State.modPurse_ctxs (f : Purse → Purse) : (s.modPurse f).ctxs = s.ctxs := rfl
@[simp] theorem State.modPurse_loadOrder (f : Purse → Purse) : (s.modPurse f).loadOrder = s.loadOrder := rfl
@[simp] theorem State.modPurse_outs (f : Purse → Purse) : (s.modPurse f).outs = s.outs := rfl
@[simp] theorem State.modPurse_rights (f : Purse → Purse) : (s.modPurse f).rights = s.rights := rfl
@[simp] theorem State.modPurse_access (f : Purse → Purse) : (s.modPurse f).access = s.access := rfl
@[simp] theorem State.modPurse_flashPort (f : Purse → Purse) : (s.modPurse f).flashPort = s.flashPort := rfl
@[simp] theorem State.modPurse_settings (f : Purse → Purse) : (s.modPurse f).settings = s.settings := rfl
@[simp] theorem State.modPurse_profiles (f : Purse → Purse) : (s.modPurse f).profiles = s.profiles := rfl
@[simp] theorem State.modPurse_writer (f : Purse → Purse) : (s.modPurse f).writer = s.writer := rfl
@[simp] theorem State.modPurse_lamps (f : Purse → Purse) : (s.modPurse f).lamps = s.lamps := rfl
@[simp] theorem State.modPurse_dram (f : Purse → Purse) : (s.modPurse f).dram = s.dram := rfl
@[simp] theorem State.modPurse_flash (f : Purse → Purse) : (s.modPurse f).flash = s.flash := rfl
@[simp] theorem State.modPurse_pending (f : Purse → Purse) : (s.modPurse f).pending = s.pending := rfl

/-! #### modGuide -/

@[simp] theorem State.modGuide_powerGood (f : Guide → Guide) : (s.modGuide f).powerGood = s.powerGood := rfl
@[simp] theorem State.modGuide_part (f : Guide → Guide) : (s.modGuide f).part = s.part := rfl
@[simp] theorem State.modGuide_ticks (f : Guide → Guide) : (s.modGuide f).ticks = s.ticks := rfl
@[simp] theorem State.modGuide_cfg (f : Guide → Guide) : (s.modGuide f).cfg = s.cfg := rfl
@[simp] theorem State.modGuide_path (f : Guide → Guide) : (s.modGuide f).path = s.path := rfl
@[simp] theorem State.modGuide_port (f : Guide → Guide) : (s.modGuide f).port = s.port := rfl
@[simp] theorem State.modGuide_intake (f : Guide → Guide) : (s.modGuide f).intake = s.intake := rfl
@[simp] theorem State.modGuide_ctxs (f : Guide → Guide) : (s.modGuide f).ctxs = s.ctxs := rfl
@[simp] theorem State.modGuide_loadOrder (f : Guide → Guide) : (s.modGuide f).loadOrder = s.loadOrder := rfl
@[simp] theorem State.modGuide_outs (f : Guide → Guide) : (s.modGuide f).outs = s.outs := rfl
@[simp] theorem State.modGuide_rights (f : Guide → Guide) : (s.modGuide f).rights = s.rights := rfl
@[simp] theorem State.modGuide_access (f : Guide → Guide) : (s.modGuide f).access = s.access := rfl
@[simp] theorem State.modGuide_purse (f : Guide → Guide) : (s.modGuide f).purse = s.purse := rfl
@[simp] theorem State.modGuide_flashPort (f : Guide → Guide) : (s.modGuide f).flashPort = s.flashPort := rfl
@[simp] theorem State.modGuide_settings (f : Guide → Guide) : (s.modGuide f).settings = s.settings := rfl
@[simp] theorem State.modGuide_profiles (f : Guide → Guide) : (s.modGuide f).profiles = s.profiles := rfl
@[simp] theorem State.modGuide_writer (f : Guide → Guide) : (s.modGuide f).writer = s.writer := rfl
@[simp] theorem State.modGuide_lamps (f : Guide → Guide) : (s.modGuide f).lamps = s.lamps := rfl
@[simp] theorem State.modGuide_dram (f : Guide → Guide) : (s.modGuide f).dram = s.dram := rfl
@[simp] theorem State.modGuide_flash (f : Guide → Guide) : (s.modGuide f).flash = s.flash := rfl
@[simp] theorem State.modGuide_pending (f : Guide → Guide) : (s.modGuide f).pending = s.pending := rfl

/-! #### modGuideCounters -/

@[simp] theorem State.modGuideCounters_powerGood (f : GuideCounters → GuideCounters) : (s.modGuideCounters f).powerGood = s.powerGood := rfl
@[simp] theorem State.modGuideCounters_part (f : GuideCounters → GuideCounters) : (s.modGuideCounters f).part = s.part := rfl
@[simp] theorem State.modGuideCounters_ticks (f : GuideCounters → GuideCounters) : (s.modGuideCounters f).ticks = s.ticks := rfl
@[simp] theorem State.modGuideCounters_cfg (f : GuideCounters → GuideCounters) : (s.modGuideCounters f).cfg = s.cfg := rfl
@[simp] theorem State.modGuideCounters_path (f : GuideCounters → GuideCounters) : (s.modGuideCounters f).path = s.path := rfl
@[simp] theorem State.modGuideCounters_port (f : GuideCounters → GuideCounters) : (s.modGuideCounters f).port = s.port := rfl
@[simp] theorem State.modGuideCounters_intake (f : GuideCounters → GuideCounters) : (s.modGuideCounters f).intake = s.intake := rfl
@[simp] theorem State.modGuideCounters_ctxs (f : GuideCounters → GuideCounters) : (s.modGuideCounters f).ctxs = s.ctxs := rfl
@[simp] theorem State.modGuideCounters_loadOrder (f : GuideCounters → GuideCounters) : (s.modGuideCounters f).loadOrder = s.loadOrder := rfl
@[simp] theorem State.modGuideCounters_outs (f : GuideCounters → GuideCounters) : (s.modGuideCounters f).outs = s.outs := rfl
@[simp] theorem State.modGuideCounters_rights (f : GuideCounters → GuideCounters) : (s.modGuideCounters f).rights = s.rights := rfl
@[simp] theorem State.modGuideCounters_access (f : GuideCounters → GuideCounters) : (s.modGuideCounters f).access = s.access := rfl
@[simp] theorem State.modGuideCounters_purse (f : GuideCounters → GuideCounters) : (s.modGuideCounters f).purse = s.purse := rfl
@[simp] theorem State.modGuideCounters_flashPort (f : GuideCounters → GuideCounters) : (s.modGuideCounters f).flashPort = s.flashPort := rfl
@[simp] theorem State.modGuideCounters_settings (f : GuideCounters → GuideCounters) : (s.modGuideCounters f).settings = s.settings := rfl
@[simp] theorem State.modGuideCounters_profiles (f : GuideCounters → GuideCounters) : (s.modGuideCounters f).profiles = s.profiles := rfl
@[simp] theorem State.modGuideCounters_writer (f : GuideCounters → GuideCounters) : (s.modGuideCounters f).writer = s.writer := rfl
@[simp] theorem State.modGuideCounters_lamps (f : GuideCounters → GuideCounters) : (s.modGuideCounters f).lamps = s.lamps := rfl
@[simp] theorem State.modGuideCounters_dram (f : GuideCounters → GuideCounters) : (s.modGuideCounters f).dram = s.dram := rfl
@[simp] theorem State.modGuideCounters_flash (f : GuideCounters → GuideCounters) : (s.modGuideCounters f).flash = s.flash := rfl
@[simp] theorem State.modGuideCounters_pending (f : GuideCounters → GuideCounters) : (s.modGuideCounters f).pending = s.pending := rfl

/-! #### modWriter -/

@[simp] theorem State.modWriter_powerGood (f : Writer → Writer) : (s.modWriter f).powerGood = s.powerGood := rfl
@[simp] theorem State.modWriter_part (f : Writer → Writer) : (s.modWriter f).part = s.part := rfl
@[simp] theorem State.modWriter_ticks (f : Writer → Writer) : (s.modWriter f).ticks = s.ticks := rfl
@[simp] theorem State.modWriter_cfg (f : Writer → Writer) : (s.modWriter f).cfg = s.cfg := rfl
@[simp] theorem State.modWriter_path (f : Writer → Writer) : (s.modWriter f).path = s.path := rfl
@[simp] theorem State.modWriter_port (f : Writer → Writer) : (s.modWriter f).port = s.port := rfl
@[simp] theorem State.modWriter_intake (f : Writer → Writer) : (s.modWriter f).intake = s.intake := rfl
@[simp] theorem State.modWriter_guide (f : Writer → Writer) : (s.modWriter f).guide = s.guide := rfl
@[simp] theorem State.modWriter_ctxs (f : Writer → Writer) : (s.modWriter f).ctxs = s.ctxs := rfl
@[simp] theorem State.modWriter_loadOrder (f : Writer → Writer) : (s.modWriter f).loadOrder = s.loadOrder := rfl
@[simp] theorem State.modWriter_outs (f : Writer → Writer) : (s.modWriter f).outs = s.outs := rfl
@[simp] theorem State.modWriter_rights (f : Writer → Writer) : (s.modWriter f).rights = s.rights := rfl
@[simp] theorem State.modWriter_access (f : Writer → Writer) : (s.modWriter f).access = s.access := rfl
@[simp] theorem State.modWriter_purse (f : Writer → Writer) : (s.modWriter f).purse = s.purse := rfl
@[simp] theorem State.modWriter_flashPort (f : Writer → Writer) : (s.modWriter f).flashPort = s.flashPort := rfl
@[simp] theorem State.modWriter_settings (f : Writer → Writer) : (s.modWriter f).settings = s.settings := rfl
@[simp] theorem State.modWriter_profiles (f : Writer → Writer) : (s.modWriter f).profiles = s.profiles := rfl
@[simp] theorem State.modWriter_lamps (f : Writer → Writer) : (s.modWriter f).lamps = s.lamps := rfl
@[simp] theorem State.modWriter_dram (f : Writer → Writer) : (s.modWriter f).dram = s.dram := rfl
@[simp] theorem State.modWriter_flash (f : Writer → Writer) : (s.modWriter f).flash = s.flash := rfl
@[simp] theorem State.modWriter_pending (f : Writer → Writer) : (s.modWriter f).pending = s.pending := rfl

/-! #### modIntake -/

@[simp] theorem State.modIntake_powerGood (f : Intake → Intake) : (s.modIntake f).powerGood = s.powerGood := rfl
@[simp] theorem State.modIntake_part (f : Intake → Intake) : (s.modIntake f).part = s.part := rfl
@[simp] theorem State.modIntake_ticks (f : Intake → Intake) : (s.modIntake f).ticks = s.ticks := rfl
@[simp] theorem State.modIntake_cfg (f : Intake → Intake) : (s.modIntake f).cfg = s.cfg := rfl
@[simp] theorem State.modIntake_path (f : Intake → Intake) : (s.modIntake f).path = s.path := rfl
@[simp] theorem State.modIntake_port (f : Intake → Intake) : (s.modIntake f).port = s.port := rfl
@[simp] theorem State.modIntake_guide (f : Intake → Intake) : (s.modIntake f).guide = s.guide := rfl
@[simp] theorem State.modIntake_ctxs (f : Intake → Intake) : (s.modIntake f).ctxs = s.ctxs := rfl
@[simp] theorem State.modIntake_loadOrder (f : Intake → Intake) : (s.modIntake f).loadOrder = s.loadOrder := rfl
@[simp] theorem State.modIntake_outs (f : Intake → Intake) : (s.modIntake f).outs = s.outs := rfl
@[simp] theorem State.modIntake_rights (f : Intake → Intake) : (s.modIntake f).rights = s.rights := rfl
@[simp] theorem State.modIntake_access (f : Intake → Intake) : (s.modIntake f).access = s.access := rfl
@[simp] theorem State.modIntake_purse (f : Intake → Intake) : (s.modIntake f).purse = s.purse := rfl
@[simp] theorem State.modIntake_flashPort (f : Intake → Intake) : (s.modIntake f).flashPort = s.flashPort := rfl
@[simp] theorem State.modIntake_settings (f : Intake → Intake) : (s.modIntake f).settings = s.settings := rfl
@[simp] theorem State.modIntake_profiles (f : Intake → Intake) : (s.modIntake f).profiles = s.profiles := rfl
@[simp] theorem State.modIntake_writer (f : Intake → Intake) : (s.modIntake f).writer = s.writer := rfl
@[simp] theorem State.modIntake_lamps (f : Intake → Intake) : (s.modIntake f).lamps = s.lamps := rfl
@[simp] theorem State.modIntake_dram (f : Intake → Intake) : (s.modIntake f).dram = s.dram := rfl
@[simp] theorem State.modIntake_flash (f : Intake → Intake) : (s.modIntake f).flash = s.flash := rfl
@[simp] theorem State.modIntake_pending (f : Intake → Intake) : (s.modIntake f).pending = s.pending := rfl

/-! #### modRights -/

@[simp] theorem State.modRights_powerGood (f : Rights → Rights) : (s.modRights f).powerGood = s.powerGood := rfl
@[simp] theorem State.modRights_part (f : Rights → Rights) : (s.modRights f).part = s.part := rfl
@[simp] theorem State.modRights_ticks (f : Rights → Rights) : (s.modRights f).ticks = s.ticks := rfl
@[simp] theorem State.modRights_cfg (f : Rights → Rights) : (s.modRights f).cfg = s.cfg := rfl
@[simp] theorem State.modRights_path (f : Rights → Rights) : (s.modRights f).path = s.path := rfl
@[simp] theorem State.modRights_port (f : Rights → Rights) : (s.modRights f).port = s.port := rfl
@[simp] theorem State.modRights_intake (f : Rights → Rights) : (s.modRights f).intake = s.intake := rfl
@[simp] theorem State.modRights_guide (f : Rights → Rights) : (s.modRights f).guide = s.guide := rfl
@[simp] theorem State.modRights_ctxs (f : Rights → Rights) : (s.modRights f).ctxs = s.ctxs := rfl
@[simp] theorem State.modRights_loadOrder (f : Rights → Rights) : (s.modRights f).loadOrder = s.loadOrder := rfl
@[simp] theorem State.modRights_outs (f : Rights → Rights) : (s.modRights f).outs = s.outs := rfl
@[simp] theorem State.modRights_access (f : Rights → Rights) : (s.modRights f).access = s.access := rfl
@[simp] theorem State.modRights_purse (f : Rights → Rights) : (s.modRights f).purse = s.purse := rfl
@[simp] theorem State.modRights_flashPort (f : Rights → Rights) : (s.modRights f).flashPort = s.flashPort := rfl
@[simp] theorem State.modRights_settings (f : Rights → Rights) : (s.modRights f).settings = s.settings := rfl
@[simp] theorem State.modRights_profiles (f : Rights → Rights) : (s.modRights f).profiles = s.profiles := rfl
@[simp] theorem State.modRights_writer (f : Rights → Rights) : (s.modRights f).writer = s.writer := rfl
@[simp] theorem State.modRights_lamps (f : Rights → Rights) : (s.modRights f).lamps = s.lamps := rfl
@[simp] theorem State.modRights_dram (f : Rights → Rights) : (s.modRights f).dram = s.dram := rfl
@[simp] theorem State.modRights_flash (f : Rights → Rights) : (s.modRights f).flash = s.flash := rfl
@[simp] theorem State.modRights_pending (f : Rights → Rights) : (s.modRights f).pending = s.pending := rfl

/-! #### issue -/

@[simp] theorem State.issue_powerGood (r : OwnReq) : (s.issue r).powerGood = s.powerGood := rfl
@[simp] theorem State.issue_part (r : OwnReq) : (s.issue r).part = s.part := rfl
@[simp] theorem State.issue_ticks (r : OwnReq) : (s.issue r).ticks = s.ticks := rfl
@[simp] theorem State.issue_cfg (r : OwnReq) : (s.issue r).cfg = s.cfg := rfl
@[simp] theorem State.issue_path (r : OwnReq) : (s.issue r).path = s.path := rfl
@[simp] theorem State.issue_intake (r : OwnReq) : (s.issue r).intake = s.intake := rfl
@[simp] theorem State.issue_guide (r : OwnReq) : (s.issue r).guide = s.guide := rfl
@[simp] theorem State.issue_ctxs (r : OwnReq) : (s.issue r).ctxs = s.ctxs := rfl
@[simp] theorem State.issue_loadOrder (r : OwnReq) : (s.issue r).loadOrder = s.loadOrder := rfl
@[simp] theorem State.issue_outs (r : OwnReq) : (s.issue r).outs = s.outs := rfl
@[simp] theorem State.issue_rights (r : OwnReq) : (s.issue r).rights = s.rights := rfl
@[simp] theorem State.issue_access (r : OwnReq) : (s.issue r).access = s.access := rfl
@[simp] theorem State.issue_purse (r : OwnReq) : (s.issue r).purse = s.purse := rfl
@[simp] theorem State.issue_flashPort (r : OwnReq) : (s.issue r).flashPort = s.flashPort := rfl
@[simp] theorem State.issue_settings (r : OwnReq) : (s.issue r).settings = s.settings := rfl
@[simp] theorem State.issue_profiles (r : OwnReq) : (s.issue r).profiles = s.profiles := rfl
@[simp] theorem State.issue_writer (r : OwnReq) : (s.issue r).writer = s.writer := rfl
@[simp] theorem State.issue_lamps (r : OwnReq) : (s.issue r).lamps = s.lamps := rfl
@[simp] theorem State.issue_dram (r : OwnReq) : (s.issue r).dram = s.dram := rfl
@[simp] theorem State.issue_flash (r : OwnReq) : (s.issue r).flash = s.flash := rfl
@[simp] theorem State.issue_pending (r : OwnReq) : (s.issue r).pending = s.pending := rfl

/-! #### issueAll -/

@[simp] theorem State.issueAll_powerGood (rs : List OwnReq) : (s.issueAll rs).powerGood = s.powerGood := rfl
@[simp] theorem State.issueAll_part (rs : List OwnReq) : (s.issueAll rs).part = s.part := rfl
@[simp] theorem State.issueAll_ticks (rs : List OwnReq) : (s.issueAll rs).ticks = s.ticks := rfl
@[simp] theorem State.issueAll_cfg (rs : List OwnReq) : (s.issueAll rs).cfg = s.cfg := rfl
@[simp] theorem State.issueAll_path (rs : List OwnReq) : (s.issueAll rs).path = s.path := rfl
@[simp] theorem State.issueAll_intake (rs : List OwnReq) : (s.issueAll rs).intake = s.intake := rfl
@[simp] theorem State.issueAll_guide (rs : List OwnReq) : (s.issueAll rs).guide = s.guide := rfl
@[simp] theorem State.issueAll_ctxs (rs : List OwnReq) : (s.issueAll rs).ctxs = s.ctxs := rfl
@[simp] theorem State.issueAll_loadOrder (rs : List OwnReq) : (s.issueAll rs).loadOrder = s.loadOrder := rfl
@[simp] theorem State.issueAll_outs (rs : List OwnReq) : (s.issueAll rs).outs = s.outs := rfl
@[simp] theorem State.issueAll_rights (rs : List OwnReq) : (s.issueAll rs).rights = s.rights := rfl
@[simp] theorem State.issueAll_access (rs : List OwnReq) : (s.issueAll rs).access = s.access := rfl
@[simp] theorem State.issueAll_purse (rs : List OwnReq) : (s.issueAll rs).purse = s.purse := rfl
@[simp] theorem State.issueAll_flashPort (rs : List OwnReq) : (s.issueAll rs).flashPort = s.flashPort := rfl
@[simp] theorem State.issueAll_settings (rs : List OwnReq) : (s.issueAll rs).settings = s.settings := rfl
@[simp] theorem State.issueAll_profiles (rs : List OwnReq) : (s.issueAll rs).profiles = s.profiles := rfl
@[simp] theorem State.issueAll_writer (rs : List OwnReq) : (s.issueAll rs).writer = s.writer := rfl
@[simp] theorem State.issueAll_lamps (rs : List OwnReq) : (s.issueAll rs).lamps = s.lamps := rfl
@[simp] theorem State.issueAll_dram (rs : List OwnReq) : (s.issueAll rs).dram = s.dram := rfl
@[simp] theorem State.issueAll_flash (rs : List OwnReq) : (s.issueAll rs).flash = s.flash := rfl
@[simp] theorem State.issueAll_pending (rs : List OwnReq) : (s.issueAll rs).pending = s.pending := rfl

/-! #### present -/

@[simp] theorem State.present_powerGood (u : UpReq) : (s.present u).powerGood = s.powerGood := rfl
@[simp] theorem State.present_part (u : UpReq) : (s.present u).part = s.part := rfl
@[simp] theorem State.present_ticks (u : UpReq) : (s.present u).ticks = s.ticks := rfl
@[simp] theorem State.present_cfg (u : UpReq) : (s.present u).cfg = s.cfg := rfl
@[simp] theorem State.present_path (u : UpReq) : (s.present u).path = s.path := rfl
@[simp] theorem State.present_intake (u : UpReq) : (s.present u).intake = s.intake := rfl
@[simp] theorem State.present_guide (u : UpReq) : (s.present u).guide = s.guide := rfl
@[simp] theorem State.present_ctxs (u : UpReq) : (s.present u).ctxs = s.ctxs := rfl
@[simp] theorem State.present_loadOrder (u : UpReq) : (s.present u).loadOrder = s.loadOrder := rfl
@[simp] theorem State.present_outs (u : UpReq) : (s.present u).outs = s.outs := rfl
@[simp] theorem State.present_rights (u : UpReq) : (s.present u).rights = s.rights := rfl
@[simp] theorem State.present_access (u : UpReq) : (s.present u).access = s.access := rfl
@[simp] theorem State.present_purse (u : UpReq) : (s.present u).purse = s.purse := rfl
@[simp] theorem State.present_flashPort (u : UpReq) : (s.present u).flashPort = s.flashPort := rfl
@[simp] theorem State.present_settings (u : UpReq) : (s.present u).settings = s.settings := rfl
@[simp] theorem State.present_profiles (u : UpReq) : (s.present u).profiles = s.profiles := rfl
@[simp] theorem State.present_writer (u : UpReq) : (s.present u).writer = s.writer := rfl
@[simp] theorem State.present_lamps (u : UpReq) : (s.present u).lamps = s.lamps := rfl
@[simp] theorem State.present_dram (u : UpReq) : (s.present u).dram = s.dram := rfl
@[simp] theorem State.present_flash (u : UpReq) : (s.present u).flash = s.flash := rfl
@[simp] theorem State.present_pending (u : UpReq) : (s.present u).pending = s.pending := rfl

/-! #### freePort -/

@[simp] theorem State.freePort_powerGood : (s.freePort).powerGood = s.powerGood := rfl
@[simp] theorem State.freePort_part : (s.freePort).part = s.part := rfl
@[simp] theorem State.freePort_ticks : (s.freePort).ticks = s.ticks := rfl
@[simp] theorem State.freePort_cfg : (s.freePort).cfg = s.cfg := rfl
@[simp] theorem State.freePort_path : (s.freePort).path = s.path := rfl
@[simp] theorem State.freePort_intake : (s.freePort).intake = s.intake := rfl
@[simp] theorem State.freePort_guide : (s.freePort).guide = s.guide := rfl
@[simp] theorem State.freePort_ctxs : (s.freePort).ctxs = s.ctxs := rfl
@[simp] theorem State.freePort_loadOrder : (s.freePort).loadOrder = s.loadOrder := rfl
@[simp] theorem State.freePort_outs : (s.freePort).outs = s.outs := rfl
@[simp] theorem State.freePort_rights : (s.freePort).rights = s.rights := rfl
@[simp] theorem State.freePort_access : (s.freePort).access = s.access := rfl
@[simp] theorem State.freePort_purse : (s.freePort).purse = s.purse := rfl
@[simp] theorem State.freePort_flashPort : (s.freePort).flashPort = s.flashPort := rfl
@[simp] theorem State.freePort_settings : (s.freePort).settings = s.settings := rfl
@[simp] theorem State.freePort_profiles : (s.freePort).profiles = s.profiles := rfl
@[simp] theorem State.freePort_writer : (s.freePort).writer = s.writer := rfl
@[simp] theorem State.freePort_lamps : (s.freePort).lamps = s.lamps := rfl
@[simp] theorem State.freePort_dram : (s.freePort).dram = s.dram := rfl
@[simp] theorem State.freePort_flash : (s.freePort).flash = s.flash := rfl
@[simp] theorem State.freePort_pending : (s.freePort).pending = s.pending := rfl

/-! #### dramWrite -/

@[simp] theorem State.dramWrite_powerGood (a : Nat) (bs : List Byte) : (s.dramWrite a bs).powerGood = s.powerGood := rfl
@[simp] theorem State.dramWrite_part (a : Nat) (bs : List Byte) : (s.dramWrite a bs).part = s.part := rfl
@[simp] theorem State.dramWrite_ticks (a : Nat) (bs : List Byte) : (s.dramWrite a bs).ticks = s.ticks := rfl
@[simp] theorem State.dramWrite_cfg (a : Nat) (bs : List Byte) : (s.dramWrite a bs).cfg = s.cfg := rfl
@[simp] theorem State.dramWrite_path (a : Nat) (bs : List Byte) : (s.dramWrite a bs).path = s.path := rfl
@[simp] theorem State.dramWrite_port (a : Nat) (bs : List Byte) : (s.dramWrite a bs).port = s.port := rfl
@[simp] theorem State.dramWrite_intake (a : Nat) (bs : List Byte) : (s.dramWrite a bs).intake = s.intake := rfl
@[simp] theorem State.dramWrite_guide (a : Nat) (bs : List Byte) : (s.dramWrite a bs).guide = s.guide := rfl
@[simp] theorem State.dramWrite_ctxs (a : Nat) (bs : List Byte) : (s.dramWrite a bs).ctxs = s.ctxs := rfl
@[simp] theorem State.dramWrite_loadOrder (a : Nat) (bs : List Byte) : (s.dramWrite a bs).loadOrder = s.loadOrder := rfl
@[simp] theorem State.dramWrite_outs (a : Nat) (bs : List Byte) : (s.dramWrite a bs).outs = s.outs := rfl
@[simp] theorem State.dramWrite_rights (a : Nat) (bs : List Byte) : (s.dramWrite a bs).rights = s.rights := rfl
@[simp] theorem State.dramWrite_access (a : Nat) (bs : List Byte) : (s.dramWrite a bs).access = s.access := rfl
@[simp] theorem State.dramWrite_purse (a : Nat) (bs : List Byte) : (s.dramWrite a bs).purse = s.purse := rfl
@[simp] theorem State.dramWrite_flashPort (a : Nat) (bs : List Byte) : (s.dramWrite a bs).flashPort = s.flashPort := rfl
@[simp] theorem State.dramWrite_settings (a : Nat) (bs : List Byte) : (s.dramWrite a bs).settings = s.settings := rfl
@[simp] theorem State.dramWrite_profiles (a : Nat) (bs : List Byte) : (s.dramWrite a bs).profiles = s.profiles := rfl
@[simp] theorem State.dramWrite_writer (a : Nat) (bs : List Byte) : (s.dramWrite a bs).writer = s.writer := rfl
@[simp] theorem State.dramWrite_lamps (a : Nat) (bs : List Byte) : (s.dramWrite a bs).lamps = s.lamps := rfl
@[simp] theorem State.dramWrite_flash (a : Nat) (bs : List Byte) : (s.dramWrite a bs).flash = s.flash := rfl
@[simp] theorem State.dramWrite_pending (a : Nat) (bs : List Byte) : (s.dramWrite a bs).pending = s.pending := rfl

/-! #### flashWrite -/

@[simp] theorem State.flashWrite_powerGood (a : Nat) (bs : List Byte) : (s.flashWrite a bs).powerGood = s.powerGood := rfl
@[simp] theorem State.flashWrite_part (a : Nat) (bs : List Byte) : (s.flashWrite a bs).part = s.part := rfl
@[simp] theorem State.flashWrite_ticks (a : Nat) (bs : List Byte) : (s.flashWrite a bs).ticks = s.ticks := rfl
@[simp] theorem State.flashWrite_cfg (a : Nat) (bs : List Byte) : (s.flashWrite a bs).cfg = s.cfg := rfl
@[simp] theorem State.flashWrite_path (a : Nat) (bs : List Byte) : (s.flashWrite a bs).path = s.path := rfl
@[simp] theorem State.flashWrite_port (a : Nat) (bs : List Byte) : (s.flashWrite a bs).port = s.port := rfl
@[simp] theorem State.flashWrite_intake (a : Nat) (bs : List Byte) : (s.flashWrite a bs).intake = s.intake := rfl
@[simp] theorem State.flashWrite_guide (a : Nat) (bs : List Byte) : (s.flashWrite a bs).guide = s.guide := rfl
@[simp] theorem State.flashWrite_ctxs (a : Nat) (bs : List Byte) : (s.flashWrite a bs).ctxs = s.ctxs := rfl
@[simp] theorem State.flashWrite_loadOrder (a : Nat) (bs : List Byte) : (s.flashWrite a bs).loadOrder = s.loadOrder := rfl
@[simp] theorem State.flashWrite_outs (a : Nat) (bs : List Byte) : (s.flashWrite a bs).outs = s.outs := rfl
@[simp] theorem State.flashWrite_rights (a : Nat) (bs : List Byte) : (s.flashWrite a bs).rights = s.rights := rfl
@[simp] theorem State.flashWrite_access (a : Nat) (bs : List Byte) : (s.flashWrite a bs).access = s.access := rfl
@[simp] theorem State.flashWrite_purse (a : Nat) (bs : List Byte) : (s.flashWrite a bs).purse = s.purse := rfl
@[simp] theorem State.flashWrite_flashPort (a : Nat) (bs : List Byte) : (s.flashWrite a bs).flashPort = s.flashPort := rfl
@[simp] theorem State.flashWrite_settings (a : Nat) (bs : List Byte) : (s.flashWrite a bs).settings = s.settings := rfl
@[simp] theorem State.flashWrite_profiles (a : Nat) (bs : List Byte) : (s.flashWrite a bs).profiles = s.profiles := rfl
@[simp] theorem State.flashWrite_writer (a : Nat) (bs : List Byte) : (s.flashWrite a bs).writer = s.writer := rfl
@[simp] theorem State.flashWrite_lamps (a : Nat) (bs : List Byte) : (s.flashWrite a bs).lamps = s.lamps := rfl
@[simp] theorem State.flashWrite_dram (a : Nat) (bs : List Byte) : (s.flashWrite a bs).dram = s.dram := rfl
@[simp] theorem State.flashWrite_pending (a : Nat) (bs : List Byte) : (s.flashWrite a bs).pending = s.pending := rfl

/-! #### flashErase -/

@[simp] theorem State.flashErase_powerGood (k : Nat) : (s.flashErase k).powerGood = s.powerGood := rfl
@[simp] theorem State.flashErase_part (k : Nat) : (s.flashErase k).part = s.part := rfl
@[simp] theorem State.flashErase_ticks (k : Nat) : (s.flashErase k).ticks = s.ticks := rfl
@[simp] theorem State.flashErase_cfg (k : Nat) : (s.flashErase k).cfg = s.cfg := rfl
@[simp] theorem State.flashErase_path (k : Nat) : (s.flashErase k).path = s.path := rfl
@[simp] theorem State.flashErase_port (k : Nat) : (s.flashErase k).port = s.port := rfl
@[simp] theorem State.flashErase_intake (k : Nat) : (s.flashErase k).intake = s.intake := rfl
@[simp] theorem State.flashErase_guide (k : Nat) : (s.flashErase k).guide = s.guide := rfl
@[simp] theorem State.flashErase_ctxs (k : Nat) : (s.flashErase k).ctxs = s.ctxs := rfl
@[simp] theorem State.flashErase_loadOrder (k : Nat) : (s.flashErase k).loadOrder = s.loadOrder := rfl
@[simp] theorem State.flashErase_outs (k : Nat) : (s.flashErase k).outs = s.outs := rfl
@[simp] theorem State.flashErase_rights (k : Nat) : (s.flashErase k).rights = s.rights := rfl
@[simp] theorem State.flashErase_access (k : Nat) : (s.flashErase k).access = s.access := rfl
@[simp] theorem State.flashErase_purse (k : Nat) : (s.flashErase k).purse = s.purse := rfl
@[simp] theorem State.flashErase_flashPort (k : Nat) : (s.flashErase k).flashPort = s.flashPort := rfl
@[simp] theorem State.flashErase_settings (k : Nat) : (s.flashErase k).settings = s.settings := rfl
@[simp] theorem State.flashErase_profiles (k : Nat) : (s.flashErase k).profiles = s.profiles := rfl
@[simp] theorem State.flashErase_writer (k : Nat) : (s.flashErase k).writer = s.writer := rfl
@[simp] theorem State.flashErase_lamps (k : Nat) : (s.flashErase k).lamps = s.lamps := rfl
@[simp] theorem State.flashErase_dram (k : Nat) : (s.flashErase k).dram = s.dram := rfl
@[simp] theorem State.flashErase_pending (k : Nat) : (s.flashErase k).pending = s.pending := rfl

/-! #### freeFlash -/

@[simp] theorem State.freeFlash_powerGood : (s.freeFlash).powerGood = s.powerGood := rfl
@[simp] theorem State.freeFlash_part : (s.freeFlash).part = s.part := rfl
@[simp] theorem State.freeFlash_ticks : (s.freeFlash).ticks = s.ticks := rfl
@[simp] theorem State.freeFlash_cfg : (s.freeFlash).cfg = s.cfg := rfl
@[simp] theorem State.freeFlash_path : (s.freeFlash).path = s.path := rfl
@[simp] theorem State.freeFlash_port : (s.freeFlash).port = s.port := rfl
@[simp] theorem State.freeFlash_intake : (s.freeFlash).intake = s.intake := rfl
@[simp] theorem State.freeFlash_guide : (s.freeFlash).guide = s.guide := rfl
@[simp] theorem State.freeFlash_ctxs : (s.freeFlash).ctxs = s.ctxs := rfl
@[simp] theorem State.freeFlash_loadOrder : (s.freeFlash).loadOrder = s.loadOrder := rfl
@[simp] theorem State.freeFlash_outs : (s.freeFlash).outs = s.outs := rfl
@[simp] theorem State.freeFlash_rights : (s.freeFlash).rights = s.rights := rfl
@[simp] theorem State.freeFlash_access : (s.freeFlash).access = s.access := rfl
@[simp] theorem State.freeFlash_purse : (s.freeFlash).purse = s.purse := rfl
@[simp] theorem State.freeFlash_settings : (s.freeFlash).settings = s.settings := rfl
@[simp] theorem State.freeFlash_profiles : (s.freeFlash).profiles = s.profiles := rfl
@[simp] theorem State.freeFlash_writer : (s.freeFlash).writer = s.writer := rfl
@[simp] theorem State.freeFlash_lamps : (s.freeFlash).lamps = s.lamps := rfl
@[simp] theorem State.freeFlash_dram : (s.freeFlash).dram = s.dram := rfl
@[simp] theorem State.freeFlash_flash : (s.freeFlash).flash = s.flash := rfl
@[simp] theorem State.freeFlash_pending : (s.freeFlash).pending = s.pending := rfl

/-! #### markChange -/

@[simp] theorem State.markChange_powerGood : (s.markChange).powerGood = s.powerGood := rfl
@[simp] theorem State.markChange_part : (s.markChange).part = s.part := rfl
@[simp] theorem State.markChange_ticks : (s.markChange).ticks = s.ticks := rfl
@[simp] theorem State.markChange_cfg : (s.markChange).cfg = s.cfg := rfl
@[simp] theorem State.markChange_path : (s.markChange).path = s.path := rfl
@[simp] theorem State.markChange_port : (s.markChange).port = s.port := rfl
@[simp] theorem State.markChange_intake : (s.markChange).intake = s.intake := rfl
@[simp] theorem State.markChange_guide : (s.markChange).guide = s.guide := rfl
@[simp] theorem State.markChange_ctxs : (s.markChange).ctxs = s.ctxs := rfl
@[simp] theorem State.markChange_loadOrder : (s.markChange).loadOrder = s.loadOrder := rfl
@[simp] theorem State.markChange_outs : (s.markChange).outs = s.outs := rfl
@[simp] theorem State.markChange_rights : (s.markChange).rights = s.rights := rfl
@[simp] theorem State.markChange_access : (s.markChange).access = s.access := rfl
@[simp] theorem State.markChange_purse : (s.markChange).purse = s.purse := rfl
@[simp] theorem State.markChange_flashPort : (s.markChange).flashPort = s.flashPort := rfl
@[simp] theorem State.markChange_profiles : (s.markChange).profiles = s.profiles := rfl
@[simp] theorem State.markChange_writer : (s.markChange).writer = s.writer := rfl
@[simp] theorem State.markChange_lamps : (s.markChange).lamps = s.lamps := rfl
@[simp] theorem State.markChange_dram : (s.markChange).dram = s.dram := rfl
@[simp] theorem State.markChange_flash : (s.markChange).flash = s.flash := rfl
@[simp] theorem State.markChange_pending : (s.markChange).pending = s.pending := rfl

/-! #### markMetering -/

@[simp] theorem State.markMetering_powerGood : (s.markMetering).powerGood = s.powerGood := rfl
@[simp] theorem State.markMetering_part : (s.markMetering).part = s.part := rfl
@[simp] theorem State.markMetering_ticks : (s.markMetering).ticks = s.ticks := rfl
@[simp] theorem State.markMetering_cfg : (s.markMetering).cfg = s.cfg := rfl
@[simp] theorem State.markMetering_path : (s.markMetering).path = s.path := rfl
@[simp] theorem State.markMetering_port : (s.markMetering).port = s.port := rfl
@[simp] theorem State.markMetering_intake : (s.markMetering).intake = s.intake := rfl
@[simp] theorem State.markMetering_guide : (s.markMetering).guide = s.guide := rfl
@[simp] theorem State.markMetering_ctxs : (s.markMetering).ctxs = s.ctxs := rfl
@[simp] theorem State.markMetering_loadOrder : (s.markMetering).loadOrder = s.loadOrder := rfl
@[simp] theorem State.markMetering_outs : (s.markMetering).outs = s.outs := rfl
@[simp] theorem State.markMetering_rights : (s.markMetering).rights = s.rights := rfl
@[simp] theorem State.markMetering_access : (s.markMetering).access = s.access := rfl
@[simp] theorem State.markMetering_purse : (s.markMetering).purse = s.purse := rfl
@[simp] theorem State.markMetering_flashPort : (s.markMetering).flashPort = s.flashPort := rfl
@[simp] theorem State.markMetering_profiles : (s.markMetering).profiles = s.profiles := rfl
@[simp] theorem State.markMetering_writer : (s.markMetering).writer = s.writer := rfl
@[simp] theorem State.markMetering_lamps : (s.markMetering).lamps = s.lamps := rfl
@[simp] theorem State.markMetering_dram : (s.markMetering).dram = s.dram := rfl
@[simp] theorem State.markMetering_flash : (s.markMetering).flash = s.flash := rfl
@[simp] theorem State.markMetering_pending : (s.markMetering).pending = s.pending := rfl

/-! #### setHalf -/

@[simp] theorem State.setHalf_powerGood (l : HalfPlace) (h : Option Half) : (s.setHalf l h).powerGood = s.powerGood := rfl
@[simp] theorem State.setHalf_part (l : HalfPlace) (h : Option Half) : (s.setHalf l h).part = s.part := rfl
@[simp] theorem State.setHalf_ticks (l : HalfPlace) (h : Option Half) : (s.setHalf l h).ticks = s.ticks := rfl
@[simp] theorem State.setHalf_cfg (l : HalfPlace) (h : Option Half) : (s.setHalf l h).cfg = s.cfg := rfl
@[simp] theorem State.setHalf_path (l : HalfPlace) (h : Option Half) : (s.setHalf l h).path = s.path := rfl
@[simp] theorem State.setHalf_port (l : HalfPlace) (h : Option Half) : (s.setHalf l h).port = s.port := rfl
@[simp] theorem State.setHalf_intake (l : HalfPlace) (h : Option Half) : (s.setHalf l h).intake = s.intake := rfl
@[simp] theorem State.setHalf_guide (l : HalfPlace) (h : Option Half) : (s.setHalf l h).guide = s.guide := rfl
@[simp] theorem State.setHalf_loadOrder (l : HalfPlace) (h : Option Half) : (s.setHalf l h).loadOrder = s.loadOrder := rfl
@[simp] theorem State.setHalf_outs (l : HalfPlace) (h : Option Half) : (s.setHalf l h).outs = s.outs := rfl
@[simp] theorem State.setHalf_rights (l : HalfPlace) (h : Option Half) : (s.setHalf l h).rights = s.rights := rfl
@[simp] theorem State.setHalf_access (l : HalfPlace) (h : Option Half) : (s.setHalf l h).access = s.access := rfl
@[simp] theorem State.setHalf_purse (l : HalfPlace) (h : Option Half) : (s.setHalf l h).purse = s.purse := rfl
@[simp] theorem State.setHalf_flashPort (l : HalfPlace) (h : Option Half) : (s.setHalf l h).flashPort = s.flashPort := rfl
@[simp] theorem State.setHalf_settings (l : HalfPlace) (h : Option Half) : (s.setHalf l h).settings = s.settings := rfl
@[simp] theorem State.setHalf_profiles (l : HalfPlace) (h : Option Half) : (s.setHalf l h).profiles = s.profiles := rfl
@[simp] theorem State.setHalf_writer (l : HalfPlace) (h : Option Half) : (s.setHalf l h).writer = s.writer := rfl
@[simp] theorem State.setHalf_lamps (l : HalfPlace) (h : Option Half) : (s.setHalf l h).lamps = s.lamps := rfl
@[simp] theorem State.setHalf_dram (l : HalfPlace) (h : Option Half) : (s.setHalf l h).dram = s.dram := rfl
@[simp] theorem State.setHalf_flash (l : HalfPlace) (h : Option Half) : (s.setHalf l h).flash = s.flash := rfl
@[simp] theorem State.setHalf_pending (l : HalfPlace) (h : Option Half) : (s.setHalf l h).pending = s.pending := rfl

/-! #### setGate -/

@[simp] theorem State.setGate_powerGood (o : Fin 6) (g : Gate) : (s.setGate o g).powerGood = s.powerGood := rfl
@[simp] theorem State.setGate_part (o : Fin 6) (g : Gate) : (s.setGate o g).part = s.part := rfl
@[simp] theorem State.setGate_ticks (o : Fin 6) (g : Gate) : (s.setGate o g).ticks = s.ticks := rfl
@[simp] theorem State.setGate_cfg (o : Fin 6) (g : Gate) : (s.setGate o g).cfg = s.cfg := rfl
@[simp] theorem State.setGate_path (o : Fin 6) (g : Gate) : (s.setGate o g).path = s.path := rfl
@[simp] theorem State.setGate_port (o : Fin 6) (g : Gate) : (s.setGate o g).port = s.port := rfl
@[simp] theorem State.setGate_intake (o : Fin 6) (g : Gate) : (s.setGate o g).intake = s.intake := rfl
@[simp] theorem State.setGate_guide (o : Fin 6) (g : Gate) : (s.setGate o g).guide = s.guide := rfl
@[simp] theorem State.setGate_ctxs (o : Fin 6) (g : Gate) : (s.setGate o g).ctxs = s.ctxs := rfl
@[simp] theorem State.setGate_loadOrder (o : Fin 6) (g : Gate) : (s.setGate o g).loadOrder = s.loadOrder := rfl
@[simp] theorem State.setGate_rights (o : Fin 6) (g : Gate) : (s.setGate o g).rights = s.rights := rfl
@[simp] theorem State.setGate_access (o : Fin 6) (g : Gate) : (s.setGate o g).access = s.access := rfl
@[simp] theorem State.setGate_purse (o : Fin 6) (g : Gate) : (s.setGate o g).purse = s.purse := rfl
@[simp] theorem State.setGate_flashPort (o : Fin 6) (g : Gate) : (s.setGate o g).flashPort = s.flashPort := rfl
@[simp] theorem State.setGate_settings (o : Fin 6) (g : Gate) : (s.setGate o g).settings = s.settings := rfl
@[simp] theorem State.setGate_profiles (o : Fin 6) (g : Gate) : (s.setGate o g).profiles = s.profiles := rfl
@[simp] theorem State.setGate_writer (o : Fin 6) (g : Gate) : (s.setGate o g).writer = s.writer := rfl
@[simp] theorem State.setGate_lamps (o : Fin 6) (g : Gate) : (s.setGate o g).lamps = s.lamps := rfl
@[simp] theorem State.setGate_dram (o : Fin 6) (g : Gate) : (s.setGate o g).dram = s.dram := rfl
@[simp] theorem State.setGate_flash (o : Fin 6) (g : Gate) : (s.setGate o g).flash = s.flash := rfl
@[simp] theorem State.setGate_pending (o : Fin 6) (g : Gate) : (s.setGate o g).pending = s.pending := rfl

/-! #### dropOffer -/

@[simp] theorem State.dropOffer_powerGood (o : Fin 6) : (s.dropOffer o).powerGood = s.powerGood := rfl
@[simp] theorem State.dropOffer_part (o : Fin 6) : (s.dropOffer o).part = s.part := rfl
@[simp] theorem State.dropOffer_ticks (o : Fin 6) : (s.dropOffer o).ticks = s.ticks := rfl
@[simp] theorem State.dropOffer_cfg (o : Fin 6) : (s.dropOffer o).cfg = s.cfg := rfl
@[simp] theorem State.dropOffer_path (o : Fin 6) : (s.dropOffer o).path = s.path := rfl
@[simp] theorem State.dropOffer_port (o : Fin 6) : (s.dropOffer o).port = s.port := rfl
@[simp] theorem State.dropOffer_intake (o : Fin 6) : (s.dropOffer o).intake = s.intake := rfl
@[simp] theorem State.dropOffer_guide (o : Fin 6) : (s.dropOffer o).guide = s.guide := rfl
@[simp] theorem State.dropOffer_ctxs (o : Fin 6) : (s.dropOffer o).ctxs = s.ctxs := rfl
@[simp] theorem State.dropOffer_loadOrder (o : Fin 6) : (s.dropOffer o).loadOrder = s.loadOrder := rfl
@[simp] theorem State.dropOffer_rights (o : Fin 6) : (s.dropOffer o).rights = s.rights := rfl
@[simp] theorem State.dropOffer_access (o : Fin 6) : (s.dropOffer o).access = s.access := rfl
@[simp] theorem State.dropOffer_purse (o : Fin 6) : (s.dropOffer o).purse = s.purse := rfl
@[simp] theorem State.dropOffer_flashPort (o : Fin 6) : (s.dropOffer o).flashPort = s.flashPort := rfl
@[simp] theorem State.dropOffer_settings (o : Fin 6) : (s.dropOffer o).settings = s.settings := rfl
@[simp] theorem State.dropOffer_profiles (o : Fin 6) : (s.dropOffer o).profiles = s.profiles := rfl
@[simp] theorem State.dropOffer_writer (o : Fin 6) : (s.dropOffer o).writer = s.writer := rfl
@[simp] theorem State.dropOffer_lamps (o : Fin 6) : (s.dropOffer o).lamps = s.lamps := rfl
@[simp] theorem State.dropOffer_dram (o : Fin 6) : (s.dropOffer o).dram = s.dram := rfl
@[simp] theorem State.dropOffer_flash (o : Fin 6) : (s.dropOffer o).flash = s.flash := rfl
@[simp] theorem State.dropOffer_pending (o : Fin 6) : (s.dropOffer o).pending = s.pending := rfl

/-! #### gateIdle -/

@[simp] theorem State.gateIdle_powerGood (o : Fin 6) : (s.gateIdle o).powerGood = s.powerGood := rfl
@[simp] theorem State.gateIdle_part (o : Fin 6) : (s.gateIdle o).part = s.part := rfl
@[simp] theorem State.gateIdle_ticks (o : Fin 6) : (s.gateIdle o).ticks = s.ticks := rfl
@[simp] theorem State.gateIdle_cfg (o : Fin 6) : (s.gateIdle o).cfg = s.cfg := rfl
@[simp] theorem State.gateIdle_path (o : Fin 6) : (s.gateIdle o).path = s.path := rfl
@[simp] theorem State.gateIdle_port (o : Fin 6) : (s.gateIdle o).port = s.port := rfl
@[simp] theorem State.gateIdle_intake (o : Fin 6) : (s.gateIdle o).intake = s.intake := rfl
@[simp] theorem State.gateIdle_guide (o : Fin 6) : (s.gateIdle o).guide = s.guide := rfl
@[simp] theorem State.gateIdle_ctxs (o : Fin 6) : (s.gateIdle o).ctxs = s.ctxs := rfl
@[simp] theorem State.gateIdle_loadOrder (o : Fin 6) : (s.gateIdle o).loadOrder = s.loadOrder := rfl
@[simp] theorem State.gateIdle_rights (o : Fin 6) : (s.gateIdle o).rights = s.rights := rfl
@[simp] theorem State.gateIdle_access (o : Fin 6) : (s.gateIdle o).access = s.access := rfl
@[simp] theorem State.gateIdle_purse (o : Fin 6) : (s.gateIdle o).purse = s.purse := rfl
@[simp] theorem State.gateIdle_flashPort (o : Fin 6) : (s.gateIdle o).flashPort = s.flashPort := rfl
@[simp] theorem State.gateIdle_settings (o : Fin 6) : (s.gateIdle o).settings = s.settings := rfl
@[simp] theorem State.gateIdle_profiles (o : Fin 6) : (s.gateIdle o).profiles = s.profiles := rfl
@[simp] theorem State.gateIdle_writer (o : Fin 6) : (s.gateIdle o).writer = s.writer := rfl
@[simp] theorem State.gateIdle_lamps (o : Fin 6) : (s.gateIdle o).lamps = s.lamps := rfl
@[simp] theorem State.gateIdle_dram (o : Fin 6) : (s.gateIdle o).dram = s.dram := rfl
@[simp] theorem State.gateIdle_flash (o : Fin 6) : (s.gateIdle o).flash = s.flash := rfl
@[simp] theorem State.gateIdle_pending (o : Fin 6) : (s.gateIdle o).pending = s.pending := rfl

/-! #### leaveContext -/

@[simp] theorem State.leaveContext_powerGood (o : Fin 6) (c : Fin 8) : (s.leaveContext o c).powerGood = s.powerGood := rfl
@[simp] theorem State.leaveContext_part (o : Fin 6) (c : Fin 8) : (s.leaveContext o c).part = s.part := rfl
@[simp] theorem State.leaveContext_ticks (o : Fin 6) (c : Fin 8) : (s.leaveContext o c).ticks = s.ticks := rfl
@[simp] theorem State.leaveContext_cfg (o : Fin 6) (c : Fin 8) : (s.leaveContext o c).cfg = s.cfg := rfl
@[simp] theorem State.leaveContext_path (o : Fin 6) (c : Fin 8) : (s.leaveContext o c).path = s.path := rfl
@[simp] theorem State.leaveContext_port (o : Fin 6) (c : Fin 8) : (s.leaveContext o c).port = s.port := rfl
@[simp] theorem State.leaveContext_intake (o : Fin 6) (c : Fin 8) : (s.leaveContext o c).intake = s.intake := rfl
@[simp] theorem State.leaveContext_guide (o : Fin 6) (c : Fin 8) : (s.leaveContext o c).guide = s.guide := rfl
@[simp] theorem State.leaveContext_loadOrder (o : Fin 6) (c : Fin 8) : (s.leaveContext o c).loadOrder = s.loadOrder := rfl
@[simp] theorem State.leaveContext_outs (o : Fin 6) (c : Fin 8) : (s.leaveContext o c).outs = s.outs := rfl
@[simp] theorem State.leaveContext_rights (o : Fin 6) (c : Fin 8) : (s.leaveContext o c).rights = s.rights := rfl
@[simp] theorem State.leaveContext_access (o : Fin 6) (c : Fin 8) : (s.leaveContext o c).access = s.access := rfl
@[simp] theorem State.leaveContext_purse (o : Fin 6) (c : Fin 8) : (s.leaveContext o c).purse = s.purse := rfl
@[simp] theorem State.leaveContext_flashPort (o : Fin 6) (c : Fin 8) : (s.leaveContext o c).flashPort = s.flashPort := rfl
@[simp] theorem State.leaveContext_settings (o : Fin 6) (c : Fin 8) : (s.leaveContext o c).settings = s.settings := rfl
@[simp] theorem State.leaveContext_profiles (o : Fin 6) (c : Fin 8) : (s.leaveContext o c).profiles = s.profiles := rfl
@[simp] theorem State.leaveContext_writer (o : Fin 6) (c : Fin 8) : (s.leaveContext o c).writer = s.writer := rfl
@[simp] theorem State.leaveContext_lamps (o : Fin 6) (c : Fin 8) : (s.leaveContext o c).lamps = s.lamps := rfl
@[simp] theorem State.leaveContext_dram (o : Fin 6) (c : Fin 8) : (s.leaveContext o c).dram = s.dram := rfl
@[simp] theorem State.leaveContext_flash (o : Fin 6) (c : Fin 8) : (s.leaveContext o c).flash = s.flash := rfl
@[simp] theorem State.leaveContext_pending (o : Fin 6) (c : Fin 8) : (s.leaveContext o c).pending = s.pending := rfl

/-! #### driveLamps -/

@[simp] theorem State.driveLamps_powerGood : (s.driveLamps).powerGood = s.powerGood := rfl
@[simp] theorem State.driveLamps_part : (s.driveLamps).part = s.part := rfl
@[simp] theorem State.driveLamps_ticks : (s.driveLamps).ticks = s.ticks := rfl
@[simp] theorem State.driveLamps_cfg : (s.driveLamps).cfg = s.cfg := rfl
@[simp] theorem State.driveLamps_path : (s.driveLamps).path = s.path := rfl
@[simp] theorem State.driveLamps_port : (s.driveLamps).port = s.port := rfl
@[simp] theorem State.driveLamps_intake : (s.driveLamps).intake = s.intake := rfl
@[simp] theorem State.driveLamps_guide : (s.driveLamps).guide = s.guide := rfl
@[simp] theorem State.driveLamps_ctxs : (s.driveLamps).ctxs = s.ctxs := rfl
@[simp] theorem State.driveLamps_loadOrder : (s.driveLamps).loadOrder = s.loadOrder := rfl
@[simp] theorem State.driveLamps_outs : (s.driveLamps).outs = s.outs := rfl
@[simp] theorem State.driveLamps_rights : (s.driveLamps).rights = s.rights := rfl
@[simp] theorem State.driveLamps_access : (s.driveLamps).access = s.access := rfl
@[simp] theorem State.driveLamps_purse : (s.driveLamps).purse = s.purse := rfl
@[simp] theorem State.driveLamps_flashPort : (s.driveLamps).flashPort = s.flashPort := rfl
@[simp] theorem State.driveLamps_settings : (s.driveLamps).settings = s.settings := rfl
@[simp] theorem State.driveLamps_profiles : (s.driveLamps).profiles = s.profiles := rfl
@[simp] theorem State.driveLamps_writer : (s.driveLamps).writer = s.writer := rfl
@[simp] theorem State.driveLamps_dram : (s.driveLamps).dram = s.dram := rfl
@[simp] theorem State.driveLamps_flash : (s.driveLamps).flash = s.flash := rfl
@[simp] theorem State.driveLamps_pending : (s.driveLamps).pending = s.pending := rfl

/-! #### serveDram -/

@[simp] theorem State.serveDram_powerGood : (s.serveDram).powerGood = s.powerGood := rfl
@[simp] theorem State.serveDram_part : (s.serveDram).part = s.part := rfl
@[simp] theorem State.serveDram_ticks : (s.serveDram).ticks = s.ticks := rfl
@[simp] theorem State.serveDram_cfg : (s.serveDram).cfg = s.cfg := rfl
@[simp] theorem State.serveDram_path : (s.serveDram).path = s.path := rfl
@[simp] theorem State.serveDram_intake : (s.serveDram).intake = s.intake := rfl
@[simp] theorem State.serveDram_guide : (s.serveDram).guide = s.guide := rfl
@[simp] theorem State.serveDram_ctxs : (s.serveDram).ctxs = s.ctxs := rfl
@[simp] theorem State.serveDram_loadOrder : (s.serveDram).loadOrder = s.loadOrder := rfl
@[simp] theorem State.serveDram_outs : (s.serveDram).outs = s.outs := rfl
@[simp] theorem State.serveDram_rights : (s.serveDram).rights = s.rights := rfl
@[simp] theorem State.serveDram_access : (s.serveDram).access = s.access := rfl
@[simp] theorem State.serveDram_purse : (s.serveDram).purse = s.purse := rfl
@[simp] theorem State.serveDram_flashPort : (s.serveDram).flashPort = s.flashPort := rfl
@[simp] theorem State.serveDram_settings : (s.serveDram).settings = s.settings := rfl
@[simp] theorem State.serveDram_profiles : (s.serveDram).profiles = s.profiles := rfl
@[simp] theorem State.serveDram_writer : (s.serveDram).writer = s.writer := rfl
@[simp] theorem State.serveDram_lamps : (s.serveDram).lamps = s.lamps := rfl
@[simp] theorem State.serveDram_dram : (s.serveDram).dram = s.dram := rfl
@[simp] theorem State.serveDram_flash : (s.serveDram).flash = s.flash := rfl
@[simp] theorem State.serveDram_pending : (s.serveDram).pending = s.pending := rfl

end FieldsOfUpdates

section WhatUpdatesWrite

variable (s : State)

@[simp] theorem State.modOut_outs (o : Fin 6) (f : Output → Output) :
    (s.modOut o f).outs = s.outs.set o (f s.outs[o]) := rfl
@[simp] theorem State.modCtx_ctxs (c : Fin 8) (f : Context → Context) :
    (s.modCtx c f).ctxs = s.ctxs.set c (f s.ctxs[c]) := rfl
@[simp] theorem State.modProfile_profiles (q : Fin 6) (f : Profile → Profile) :
    (s.modProfile q f).profiles = s.profiles.set q (f s.profiles[q]) := rfl
@[simp] theorem State.modRing_path (k : Fin 4) (f : Ring → Ring) :
    (s.modRing k f).path = { s.path with rings := s.path.rings.set k (f s.path.rings[k]) } := rfl
@[simp] theorem State.modPurse_purse (f : Purse → Purse) : (s.modPurse f).purse = f s.purse := rfl
@[simp] theorem State.modGuide_guide (f : Guide → Guide) : (s.modGuide f).guide = f s.guide := rfl
@[simp] theorem State.modGuideCounters_guide (f : GuideCounters → GuideCounters) :
    (s.modGuideCounters f).guide = { s.guide with counters := f s.guide.counters } := rfl
@[simp] theorem State.modWriter_writer (f : Writer → Writer) : (s.modWriter f).writer = f s.writer := rfl
@[simp] theorem State.modIntake_intake (f : Intake → Intake) : (s.modIntake f).intake = f s.intake := rfl
@[simp] theorem State.modRights_rights (f : Rights → Rights) : (s.modRights f).rights = f s.rights := rfl
@[simp] theorem State.issue_port (r : OwnReq) : (s.issue r).port = s.port.issue r := rfl
@[simp] theorem State.issueAll_port (rs : List OwnReq) :
    (s.issueAll rs).port = { s.port with own := s.port.own ++ rs } := rfl
@[simp] theorem State.present_port (u : UpReq) : (s.present u).port = { s.port with up := s.port.up ++ [u] } := rfl
@[simp] theorem State.freePort_port : s.freePort.port = { s.port with serving := none } := rfl
@[simp] theorem State.freeFlash_flashPort : s.freeFlash.flashPort = { s.flashPort with op := none } := rfl
@[simp] theorem State.dramWrite_dram (a : Nat) (bs : List Byte) :
    (s.dramWrite a bs).dram = s.dram.writeBytes dramDefault a bs := rfl
@[simp] theorem State.flashWrite_flash (a : Nat) (bs : List Byte) :
    (s.flashWrite a bs).flash = s.flash.writeBytes flashDefault a bs := rfl
@[simp] theorem State.flashErase_flash (k : Nat) : (s.flashErase k).flash = s.flash.clear (k * 4096) 4096 := rfl
@[simp] theorem State.markChange_settings : s.markChange.settings = { s.settings with dirty := .change } := rfl
@[simp] theorem State.serveDram_port : s.serveDram.port = s.port.serve s.fetchWaits := rfl

end WhatUpdatesWrite

end Sys2Proof.Machine
end

