-- ==== Sys2Proof/Laws/Ops.lean ====
section
/-! SUPPORT. The shared operations: what a notice, a count, an answer, a completion, a port choice and the end of a command
can change, each said once. -/

namespace Sys2Proof.Machine

section SharedOperations

variable (s : State)

/-! ### The DRAM port: choosing neither adds nor loses a request (R15) -/

@[simp] theorem Port.serve_upAll (p : Port) (w : Bool) : (p.serve w).upAll = p.upAll := by
  obtain ⟨up, own, pass, serving⟩ := p
  rcases serving with _ | (u | r)
  · rcases up with _ | ⟨u, us⟩ <;> rcases own with _ | ⟨r, rs⟩ <;> simp only [Port.serve, Port.upAll]
    by_cases h : (w || decide (pass < 16)) = true <;> simp [h]
  · rfl
  · rfl

@[simp] theorem Port.serve_ownAll (p : Port) (w : Bool) : (p.serve w).ownAll = p.ownAll := by
  obtain ⟨up, own, pass, serving⟩ := p
  rcases serving with _ | (u | r)
  · rcases up with _ | ⟨u, us⟩ <;> rcases own with _ | ⟨r, rs⟩ <;> simp only [Port.serve, Port.ownAll]
    by_cases h : (w || decide (pass < 16)) = true <;> simp [h]
  · rfl
  · rfl

@[simp] theorem Port.issue_upAll (p : Port) (r : OwnReq) : (p.issue r).upAll = p.upAll := rfl

@[simp] theorem Port.issue_ownAll (p : Port) (r : OwnReq) : (p.issue r).ownAll = p.ownAll ++ [r] := by
  obtain ⟨up, own, pass, serving⟩ := p
  rcases serving with _ | (u | r') <;> rfl

/-! ### Notices (R182): only the Notice Writer and the own FIFO change -/

@[simp] theorem State.notify_powerGood (n : Notice) : (s.notify n).powerGood = s.powerGood := by
  unfold State.notify; dsimp only; split <;> [split <;> rfl; rfl]
@[simp] theorem State.notify_part (n : Notice) : (s.notify n).part = s.part := by
  unfold State.notify; dsimp only; split <;> [split <;> rfl; rfl]
@[simp] theorem State.notify_ticks (n : Notice) : (s.notify n).ticks = s.ticks := by
  unfold State.notify; dsimp only; split <;> [split <;> rfl; rfl]
@[simp] theorem State.notify_cfg (n : Notice) : (s.notify n).cfg = s.cfg := by
  unfold State.notify; dsimp only; split <;> [split <;> rfl; rfl]
@[simp] theorem State.notify_path (n : Notice) : (s.notify n).path = s.path := by
  unfold State.notify; dsimp only; split <;> [split <;> rfl; rfl]
@[simp] theorem State.notify_intake (n : Notice) : (s.notify n).intake = s.intake := by
  unfold State.notify; dsimp only; split <;> [split <;> rfl; rfl]
@[simp] theorem State.notify_guide (n : Notice) : (s.notify n).guide = s.guide := by
  unfold State.notify; dsimp only; split <;> [split <;> rfl; rfl]
@[simp] theorem State.notify_ctxs (n : Notice) : (s.notify n).ctxs = s.ctxs := by
  unfold State.notify; dsimp only; split <;> [split <;> rfl; rfl]
@[simp] theorem State.notify_loadOrder (n : Notice) : (s.notify n).loadOrder = s.loadOrder := by
  unfold State.notify; dsimp only; split <;> [split <;> rfl; rfl]
@[simp] theorem State.notify_outs (n : Notice) : (s.notify n).outs = s.outs := by
  unfold State.notify; dsimp only; split <;> [split <;> rfl; rfl]
@[simp] theorem State.notify_rights (n : Notice) : (s.notify n).rights = s.rights := by
  unfold State.notify; dsimp only; split <;> [split <;> rfl; rfl]
@[simp] theorem State.notify_access (n : Notice) : (s.notify n).access = s.access := by
  unfold State.notify; dsimp only; split <;> [split <;> rfl; rfl]
@[simp] theorem State.notify_purse (n : Notice) : (s.notify n).purse = s.purse := by
  unfold State.notify; dsimp only; split <;> [split <;> rfl; rfl]
@[simp] theorem State.notify_flashPort (n : Notice) : (s.notify n).flashPort = s.flashPort := by
  unfold State.notify; dsimp only; split <;> [split <;> rfl; rfl]
@[simp] theorem State.notify_settings (n : Notice) : (s.notify n).settings = s.settings := by
  unfold State.notify; dsimp only; split <;> [split <;> rfl; rfl]
@[simp] theorem State.notify_profiles (n : Notice) : (s.notify n).profiles = s.profiles := by
  unfold State.notify; dsimp only; split <;> [split <;> rfl; rfl]
@[simp] theorem State.notify_lamps (n : Notice) : (s.notify n).lamps = s.lamps := by
  unfold State.notify; dsimp only; split <;> [split <;> rfl; rfl]
@[simp] theorem State.notify_dram (n : Notice) : (s.notify n).dram = s.dram := by
  unfold State.notify; dsimp only; split <;> [split <;> rfl; rfl]
@[simp] theorem State.notify_flash (n : Notice) : (s.notify n).flash = s.flash := by
  unfold State.notify; dsimp only; split <;> [split <;> rfl; rfl]
@[simp] theorem State.notify_pending (n : Notice) : (s.notify n).pending = s.pending := by
  unfold State.notify; dsimp only; split <;> [split <;> rfl; rfl]

@[simp] theorem State.notify_upAll (n : Notice) : (s.notify n).port.upAll = s.port.upAll := by
  unfold State.notify; dsimp only; split <;> [split <;> rfl; rfl]

@[simp] theorem State.notify_serving (n : Notice) : (s.notify n).port.serving = s.port.serving := by
  unfold State.notify; dsimp only; split <;> [split <;> rfl; rfl]

/-- R182: a notice that finds the ring full is dropped; the first such one issues the write of the overrun word. -/
theorem State.notify_full (n : Notice) (h : s.writer.full = true) :
    s.notify n =
      let t := { s with writer := { s.writer with overrun := true, dropped := min 65535 (s.writer.dropped + 1) } }
      if s.writer.overrun then t else t.issue s.overrunWrite := by
  simp only [State.notify, h, if_true]

/-- R182: a notice that finds room issues its entry and its publishing write. -/
theorem State.notify_room (n : Notice) (h : s.writer.full = false) :
    s.notify n = { s with
      writer := { s.writer with writeIdx := (s.writer.writeIdx + 1) % 1023, overrun := false, dropped := 0 }
      port := (s.port.issue (s.entryWrite n)).issue (s.publishWrite ((s.writer.writeIdx + 1) % 1023)) } := by
  simp [State.notify, h]

/-- Whatever a notice issues, it is a Notice Writer's own write. -/
theorem State.notify_own (n : Notice) : ∃ rs : List OwnReq, (s.notify n).port = { s.port with own := s.port.own ++ rs } ∧
    ∀ r ∈ rs, r.what.ofNotices = true := by
  cases hf : s.writer.full
  · refine ⟨[s.entryWrite n, s.publishWrite ((s.writer.writeIdx + 1) % 1023)], ?_, ?_⟩
    · rw [State.notify_room s n hf]; simp [Port.issue]
    · simp [State.entryWrite, State.publishWrite, OwnKind.ofNotices]
  · rw [State.notify_full s n hf]
    by_cases ho : s.writer.overrun = true
    · exact ⟨[], by simp [ho], by simp⟩
    · exact ⟨[s.overrunWrite], by simp [ho, State.issue, Port.issue], by simp [State.overrunWrite, OwnKind.ofNotices]⟩

/-! ### Counting and answering -/

@[simp] theorem State.count_powerGood (o : Fin 6) (f : OutputCounters → OutputCounters) : (s.count o f).powerGood = s.powerGood := by
  unfold State.count; split <;> rfl
@[simp] theorem State.count_part (o : Fin 6) (f : OutputCounters → OutputCounters) : (s.count o f).part = s.part := by
  unfold State.count; split <;> rfl
@[simp] theorem State.count_ticks (o : Fin 6) (f : OutputCounters → OutputCounters) : (s.count o f).ticks = s.ticks := by
  unfold State.count; split <;> rfl
@[simp] theorem State.count_cfg (o : Fin 6) (f : OutputCounters → OutputCounters) : (s.count o f).cfg = s.cfg := by
  unfold State.count; split <;> rfl
@[simp] theorem State.count_path (o : Fin 6) (f : OutputCounters → OutputCounters) : (s.count o f).path = s.path := by
  unfold State.count; split <;> rfl
@[simp] theorem State.count_port (o : Fin 6) (f : OutputCounters → OutputCounters) : (s.count o f).port = s.port := by
  unfold State.count; split <;> rfl
@[simp] theorem State.count_intake (o : Fin 6) (f : OutputCounters → OutputCounters) : (s.count o f).intake = s.intake := by
  unfold State.count; split <;> rfl
@[simp] theorem State.count_guide (o : Fin 6) (f : OutputCounters → OutputCounters) : (s.count o f).guide = s.guide := by
  unfold State.count; split <;> rfl
@[simp] theorem State.count_ctxs (o : Fin 6) (f : OutputCounters → OutputCounters) : (s.count o f).ctxs = s.ctxs := by
  unfold State.count; split <;> rfl
@[simp] theorem State.count_loadOrder (o : Fin 6) (f : OutputCounters → OutputCounters) : (s.count o f).loadOrder = s.loadOrder := by
  unfold State.count; split <;> rfl
@[simp] theorem State.count_rights (o : Fin 6) (f : OutputCounters → OutputCounters) : (s.count o f).rights = s.rights := by
  unfold State.count; split <;> rfl
@[simp] theorem State.count_access (o : Fin 6) (f : OutputCounters → OutputCounters) : (s.count o f).access = s.access := by
  unfold State.count; split <;> rfl
@[simp] theorem State.count_purse (o : Fin 6) (f : OutputCounters → OutputCounters) : (s.count o f).purse = s.purse := by
  unfold State.count; split <;> rfl
@[simp] theorem State.count_flashPort (o : Fin 6) (f : OutputCounters → OutputCounters) : (s.count o f).flashPort = s.flashPort := by
  unfold State.count; split <;> rfl
@[simp] theorem State.count_settings (o : Fin 6) (f : OutputCounters → OutputCounters) : (s.count o f).settings = s.settings := by
  unfold State.count; split <;> rfl
@[simp] theorem State.count_profiles (o : Fin 6) (f : OutputCounters → OutputCounters) : (s.count o f).profiles = s.profiles := by
  unfold State.count; split <;> rfl
@[simp] theorem State.count_writer (o : Fin 6) (f : OutputCounters → OutputCounters) : (s.count o f).writer = s.writer := by
  unfold State.count; split <;> rfl
@[simp] theorem State.count_lamps (o : Fin 6) (f : OutputCounters → OutputCounters) : (s.count o f).lamps = s.lamps := by
  unfold State.count; split <;> rfl
@[simp] theorem State.count_dram (o : Fin 6) (f : OutputCounters → OutputCounters) : (s.count o f).dram = s.dram := by
  unfold State.count; split <;> rfl
@[simp] theorem State.count_flash (o : Fin 6) (f : OutputCounters → OutputCounters) : (s.count o f).flash = s.flash := by
  unfold State.count; split <;> rfl
@[simp] theorem State.count_pending (o : Fin 6) (f : OutputCounters → OutputCounters) : (s.count o f).pending = s.pending := by
  unfold State.count; split <;> rfl

@[simp] theorem State.answer_powerGood (u : UpReq) (d : List Byte) : (s.answer u d).powerGood = s.powerGood := by
  unfold State.answer; split <;> rfl
@[simp] theorem State.answer_part (u : UpReq) (d : List Byte) : (s.answer u d).part = s.part := by
  unfold State.answer; split <;> rfl
@[simp] theorem State.answer_ticks (u : UpReq) (d : List Byte) : (s.answer u d).ticks = s.ticks := by
  unfold State.answer; split <;> rfl
@[simp] theorem State.answer_cfg (u : UpReq) (d : List Byte) : (s.answer u d).cfg = s.cfg := by
  unfold State.answer; split <;> rfl
@[simp] theorem State.answer_port (u : UpReq) (d : List Byte) : (s.answer u d).port = s.port := by
  unfold State.answer; split <;> rfl
@[simp] theorem State.answer_intake (u : UpReq) (d : List Byte) : (s.answer u d).intake = s.intake := by
  unfold State.answer; split <;> rfl
@[simp] theorem State.answer_guide (u : UpReq) (d : List Byte) : (s.answer u d).guide = s.guide := by
  unfold State.answer; split <;> rfl
@[simp] theorem State.answer_ctxs (u : UpReq) (d : List Byte) : (s.answer u d).ctxs = s.ctxs := by
  unfold State.answer; split <;> rfl
@[simp] theorem State.answer_loadOrder (u : UpReq) (d : List Byte) : (s.answer u d).loadOrder = s.loadOrder := by
  unfold State.answer; split <;> rfl
@[simp] theorem State.answer_outs (u : UpReq) (d : List Byte) : (s.answer u d).outs = s.outs := by
  unfold State.answer; split <;> rfl
@[simp] theorem State.answer_rights (u : UpReq) (d : List Byte) : (s.answer u d).rights = s.rights := by
  unfold State.answer; split <;> rfl
@[simp] theorem State.answer_access (u : UpReq) (d : List Byte) : (s.answer u d).access = s.access := by
  unfold State.answer; split <;> rfl
@[simp] theorem State.answer_purse (u : UpReq) (d : List Byte) : (s.answer u d).purse = s.purse := by
  unfold State.answer; split <;> rfl
@[simp] theorem State.answer_flashPort (u : UpReq) (d : List Byte) : (s.answer u d).flashPort = s.flashPort := by
  unfold State.answer; split <;> rfl
@[simp] theorem State.answer_settings (u : UpReq) (d : List Byte) : (s.answer u d).settings = s.settings := by
  unfold State.answer; split <;> rfl
@[simp] theorem State.answer_profiles (u : UpReq) (d : List Byte) : (s.answer u d).profiles = s.profiles := by
  unfold State.answer; split <;> rfl
@[simp] theorem State.answer_writer (u : UpReq) (d : List Byte) : (s.answer u d).writer = s.writer := by
  unfold State.answer; split <;> rfl
@[simp] theorem State.answer_lamps (u : UpReq) (d : List Byte) : (s.answer u d).lamps = s.lamps := by
  unfold State.answer; split <;> rfl
@[simp] theorem State.answer_dram (u : UpReq) (d : List Byte) : (s.answer u d).dram = s.dram := by
  unfold State.answer; split <;> rfl
@[simp] theorem State.answer_flash (u : UpReq) (d : List Byte) : (s.answer u d).flash = s.flash := by
  unfold State.answer; split <;> rfl
@[simp] theorem State.answer_pending (u : UpReq) (d : List Byte) : (s.answer u d).pending = s.pending := by
  unfold State.answer; split <;> rfl

/-! ### Completions at the DRAM port -/

@[simp] theorem State.completeWrite_powerGood (u : UpReq) : (s.completeWrite u).powerGood = s.powerGood := by
  simp [State.completeWrite]
@[simp] theorem State.completeWrite_part (u : UpReq) : (s.completeWrite u).part = s.part := by
  simp [State.completeWrite]
@[simp] theorem State.completeWrite_ticks (u : UpReq) : (s.completeWrite u).ticks = s.ticks := by
  simp [State.completeWrite]
@[simp] theorem State.completeWrite_cfg (u : UpReq) : (s.completeWrite u).cfg = s.cfg := by
  simp [State.completeWrite]
@[simp] theorem State.completeWrite_intake (u : UpReq) : (s.completeWrite u).intake = s.intake := by
  simp [State.completeWrite]
@[simp] theorem State.completeWrite_guide (u : UpReq) : (s.completeWrite u).guide = s.guide := by
  simp [State.completeWrite]
@[simp] theorem State.completeWrite_ctxs (u : UpReq) : (s.completeWrite u).ctxs = s.ctxs := by
  simp [State.completeWrite]
@[simp] theorem State.completeWrite_loadOrder (u : UpReq) : (s.completeWrite u).loadOrder = s.loadOrder := by
  simp [State.completeWrite]
@[simp] theorem State.completeWrite_outs (u : UpReq) : (s.completeWrite u).outs = s.outs := by
  simp [State.completeWrite]
@[simp] theorem State.completeWrite_rights (u : UpReq) : (s.completeWrite u).rights = s.rights := by
  simp [State.completeWrite]
@[simp] theorem State.completeWrite_access (u : UpReq) : (s.completeWrite u).access = s.access := by
  simp [State.completeWrite]
@[simp] theorem State.completeWrite_purse (u : UpReq) : (s.completeWrite u).purse = s.purse := by
  simp [State.completeWrite]
@[simp] theorem State.completeWrite_flashPort (u : UpReq) : (s.completeWrite u).flashPort = s.flashPort := by
  simp [State.completeWrite]
@[simp] theorem State.completeWrite_settings (u : UpReq) : (s.completeWrite u).settings = s.settings := by
  simp [State.completeWrite]
@[simp] theorem State.completeWrite_profiles (u : UpReq) : (s.completeWrite u).profiles = s.profiles := by
  simp [State.completeWrite]
@[simp] theorem State.completeWrite_writer (u : UpReq) : (s.completeWrite u).writer = s.writer := by
  simp [State.completeWrite]
@[simp] theorem State.completeWrite_lamps (u : UpReq) : (s.completeWrite u).lamps = s.lamps := by
  simp [State.completeWrite]
@[simp] theorem State.completeWrite_flash (u : UpReq) : (s.completeWrite u).flash = s.flash := by
  simp [State.completeWrite]
@[simp] theorem State.completeWrite_pending (u : UpReq) : (s.completeWrite u).pending = s.pending := by
  simp [State.completeWrite]

@[simp] theorem State.completeOwn_powerGood (r : OwnReq) : (s.completeOwn r).powerGood = s.powerGood := by
  rfl
@[simp] theorem State.completeOwn_part (r : OwnReq) : (s.completeOwn r).part = s.part := by
  rfl
@[simp] theorem State.completeOwn_ticks (r : OwnReq) : (s.completeOwn r).ticks = s.ticks := by
  rfl
@[simp] theorem State.completeOwn_cfg (r : OwnReq) : (s.completeOwn r).cfg = s.cfg := by
  rfl
@[simp] theorem State.completeOwn_path (r : OwnReq) : (s.completeOwn r).path = s.path := by
  rfl
@[simp] theorem State.completeOwn_intake (r : OwnReq) : (s.completeOwn r).intake = s.intake := by
  rfl
@[simp] theorem State.completeOwn_guide (r : OwnReq) : (s.completeOwn r).guide = s.guide := by
  rfl
@[simp] theorem State.completeOwn_ctxs (r : OwnReq) : (s.completeOwn r).ctxs = s.ctxs := by
  rfl
@[simp] theorem State.completeOwn_loadOrder (r : OwnReq) : (s.completeOwn r).loadOrder = s.loadOrder := by
  rfl
@[simp] theorem State.completeOwn_outs (r : OwnReq) : (s.completeOwn r).outs = s.outs := by
  rfl
@[simp] theorem State.completeOwn_rights (r : OwnReq) : (s.completeOwn r).rights = s.rights := by
  rfl
@[simp] theorem State.completeOwn_access (r : OwnReq) : (s.completeOwn r).access = s.access := by
  rfl
@[simp] theorem State.completeOwn_purse (r : OwnReq) : (s.completeOwn r).purse = s.purse := by
  rfl
@[simp] theorem State.completeOwn_flashPort (r : OwnReq) : (s.completeOwn r).flashPort = s.flashPort := by
  rfl
@[simp] theorem State.completeOwn_settings (r : OwnReq) : (s.completeOwn r).settings = s.settings := by
  rfl
@[simp] theorem State.completeOwn_profiles (r : OwnReq) : (s.completeOwn r).profiles = s.profiles := by
  rfl
@[simp] theorem State.completeOwn_writer (r : OwnReq) : (s.completeOwn r).writer = s.writer := by
  rfl
@[simp] theorem State.completeOwn_lamps (r : OwnReq) : (s.completeOwn r).lamps = s.lamps := by
  rfl
@[simp] theorem State.completeOwn_flash (r : OwnReq) : (s.completeOwn r).flash = s.flash := by
  rfl
@[simp] theorem State.completeOwn_pending (r : OwnReq) : (s.completeOwn r).pending = s.pending := by
  rfl

@[simp] theorem State.freePort_serving : (s.freePort).port.serving = none := rfl
@[simp] theorem State.freePort_up : (s.freePort).port.up = s.port.up := rfl
@[simp] theorem State.freePort_own : (s.freePort).port.own = s.port.own := rfl

/-! ### The end of a command (R187, R137, R15) -/

/-- An operation of the flash arbiter changes nothing but the flash port, the settings store and the target. -/
structure FlashOnly (s t : State) : Prop where
  powerGood : t.powerGood = s.powerGood

  part : t.part = s.part
  ticks : t.ticks = s.ticks
  cfg : t.cfg = s.cfg
  path : t.path = s.path
  port : t.port = s.port
  intake : t.intake = s.intake
  guide : t.guide = s.guide
  ctxs : t.ctxs = s.ctxs
  loadOrder : t.loadOrder = s.loadOrder
  outs : t.outs = s.outs
  rights : t.rights = s.rights
  access : t.access = s.access
  profiles : t.profiles = s.profiles
  writer : t.writer = s.writer
  lamps : t.lamps = s.lamps
  dram : t.dram = s.dram
  flash : t.flash = s.flash
  pending : t.pending = s.pending
  purse : t.purse.untargeted = s.purse.untargeted

theorem State.startRewrite_only : FlashOnly s s.startRewrite := by
  unfold State.startRewrite; split <;> [skip; split] <;> constructor <;> rfl

theorem State.startErase_only (t : Target) : FlashOnly s (s.startErase t) := by
  unfold State.startErase
  split
  · constructor <;> rfl
  · obtain ⟨_, _, _, _, _, _, _, _, _, _, _, _, _, _, _, _, _, _, _⟩ :=
      State.startRewrite_only (s.modPurse (fun p => { p with target := some ⟨t.sector, false⟩ }))
    constructor <;> assumption

/-- R137: the arbiter's choice changes nothing but the flash port, the settings store and the target. -/
theorem State.chooseFlash_only : FlashOnly s s.chooseFlash := by
  unfold State.chooseFlash
  split
  · split
    · constructor <;> rfl
    · split
      · exact State.startErase_only s _
      · exact State.startRewrite_only s
    · exact State.startRewrite_only s
  · constructor <;> rfl

/-- R137: a port that is not free to start an operation starts none. -/
theorem State.chooseFlash_busy (h : s.flashFree = false) : s.chooseFlash = s := by simp [State.chooseFlash, h]

@[simp] theorem State.settle_powerGood : s.settle.powerGood = s.powerGood := (State.chooseFlash_only s.driveLamps).powerGood
@[simp] theorem State.settle_part : s.settle.part = s.part := (State.chooseFlash_only s.driveLamps).part
@[simp] theorem State.settle_ticks : s.settle.ticks = s.ticks := (State.chooseFlash_only s.driveLamps).ticks
@[simp] theorem State.settle_cfg : s.settle.cfg = s.cfg := (State.chooseFlash_only s.driveLamps).cfg
@[simp] theorem State.settle_path : s.settle.path = s.path := (State.chooseFlash_only s.driveLamps).path
@[simp] theorem State.settle_intake : s.settle.intake = s.intake := (State.chooseFlash_only s.driveLamps).intake
@[simp] theorem State.settle_guide : s.settle.guide = s.guide := (State.chooseFlash_only s.driveLamps).guide
@[simp] theorem State.settle_ctxs : s.settle.ctxs = s.ctxs := (State.chooseFlash_only s.driveLamps).ctxs
@[simp] theorem State.settle_loadOrder : s.settle.loadOrder = s.loadOrder := (State.chooseFlash_only s.driveLamps).loadOrder
@[simp] theorem State.settle_outs : s.settle.outs = s.outs := (State.chooseFlash_only s.driveLamps).outs
@[simp] theorem State.settle_rights : s.settle.rights = s.rights := (State.chooseFlash_only s.driveLamps).rights
@[simp] theorem State.settle_access : s.settle.access = s.access := (State.chooseFlash_only s.driveLamps).access
@[simp] theorem State.settle_profiles : s.settle.profiles = s.profiles := (State.chooseFlash_only s.driveLamps).profiles
@[simp] theorem State.settle_writer : s.settle.writer = s.writer := (State.chooseFlash_only s.driveLamps).writer
@[simp] theorem State.settle_dram : s.settle.dram = s.dram := (State.chooseFlash_only s.driveLamps).dram
@[simp] theorem State.settle_flash : s.settle.flash = s.flash := (State.chooseFlash_only s.driveLamps).flash
@[simp] theorem State.settle_pending : s.settle.pending = s.pending := (State.chooseFlash_only s.driveLamps).pending

@[simp] theorem State.settle_upAll : s.settle.port.upAll = s.port.upAll := by
  show ((s.driveLamps.chooseFlash.port).serve _).upAll = _
  rw [Port.serve_upAll, (State.chooseFlash_only s.driveLamps).port]; rfl

@[simp] theorem State.settle_ownAll : s.settle.port.ownAll = s.port.ownAll := by
  show ((s.driveLamps.chooseFlash.port).serve _).ownAll = _
  rw [Port.serve_ownAll, (State.chooseFlash_only s.driveLamps).port]; rfl

@[simp] theorem State.settle_lamps : s.settle.lamps = s.driveLamps.lamps := (State.chooseFlash_only s.driveLamps).lamps

theorem State.settle_purse : s.settle.purse.untargeted = s.purse.untargeted :=
  (State.chooseFlash_only s.driveLamps).purse

/-- With the flash port not free, the end of a command starts no flash operation. -/
theorem State.settle_busy (h : s.flashFree = false) :
    s.settle.flashPort = s.flashPort ∧ s.settle.settings = s.settings ∧ s.settle.purse = s.purse := by
  have e : s.settle = s.driveLamps.serveDram := by
    unfold State.settle; rw [State.chooseFlash_busy s.driveLamps h]
  rw [e]; exact ⟨rfl, rfl, rfl⟩

@[simp] theorem State.settle_balance : s.settle.purse.balance = s.purse.balance := by
  have h := congrArg Purse.balance (State.settle_purse s); exact h
@[simp] theorem State.settle_list : s.settle.purse.list = s.purse.list := by
  have h := congrArg Purse.list (State.settle_purse s); exact h
@[simp] theorem State.settle_writePos : s.settle.purse.writePos = s.purse.writePos := by
  have h := congrArg Purse.writePos (State.settle_purse s); exact h
@[simp] theorem State.settle_erased : s.settle.purse.erased = s.purse.erased := by
  have h := congrArg Purse.erased (State.settle_purse s); exact h
@[simp] theorem State.settle_queue : s.settle.purse.queue = s.purse.queue := by
  have h := congrArg Purse.queue (State.settle_purse s); exact h
@[simp] theorem State.settle_watermark : s.settle.purse.watermark = s.purse.watermark := by
  have h := congrArg Purse.watermark (State.settle_purse s); exact h

/-- A command that answers a settled state answers a next state. -/
theorem done_eq (t : State) : done t = .next t.settle := rfl

/-- The end of a command changes no kind of state: the arbiters only move requests and start flash work (R15, R137). -/
theorem State.settle_same (a : Area) : a.same s s.settle := by
  cases a
  case flashWork =>
    intro h
    obtain ⟨h1, h2, h3⟩ := State.settle_busy s h
    exact ⟨h1, h2, by rw [h3]⟩
  case journal => exact State.settle_purse s
  all_goals simp [Area.same]

/-- The end of a command keeps the frame of the effect before it. -/
theorem onlyChanges_settle {as : List Area} {t : State} (hp : Area.flashWork ∈ as ∨ Area.power ∉ as)
    (h : onlyChanges as s t) : onlyChanges as s t.settle := by
  intro a ha
  have h1 := h a ha
  cases a
  case flashWork =>
    intro hf
    obtain ⟨e1, e2, e3⟩ := h1 hf
    obtain ⟨p1, p2⟩ := h .power (hp.resolve_left ha)
    have ht : t.flashFree = false := by
      unfold State.flashFree at hf ⊢; rw [p1, p2, e1]; exact hf
    obtain ⟨g1, g2, g3⟩ := State.settle_busy t ht
    exact ⟨g1.trans e1, g2.trans e2, by rw [g3]; exact e3⟩
  case journal => exact (State.settle_purse t).trans h1
  all_goals simp_all [Area.same]

end SharedOperations

end Sys2Proof.Machine
end

