-- ==== Sys2Proof/Laws/Flash.lean ====
section
/-! SUPPORT. What the flash arbiter's choice reads, and what the end of a command therefore leaves of the flash port, the
settings store and the purse (R137, R144, R145, R148). -/

namespace Sys2Proof.Machine

/-- R144: the check of a sector is the condition that the statements spell out. -/
theorem State.sectorPasses_iff (s : State) (k : Fin 8) : s.sectorPasses k = true ↔ targetPasses k s := by
  unfold State.sectorPasses targetPasses State.recordSpent
  rw [List.all_eq_true]
  refine forall₂_congr fun r _ => ?_
  by_cases hk : sectorOf r.place = k
  · cases hr : r.kind <;> cases hm : s.guide.nowMinute <;> simp [hk]
  · simp [hk]

/-- What the arbiter's choice reads is the same in two states. -/
structure FlashInputs (s t : State) : Prop where
  powerGood : t.powerGood = s.powerGood
  part : t.part = s.part
  now : t.ticks.now = s.ticks.now
  guide : t.guide = s.guide
  rights : t.rights = s.rights
  profiles : t.profiles = s.profiles
  flashPort : t.flashPort = s.flashPort
  settings : t.settings = s.settings
  purse : t.purse = s.purse

/-- What the arbiter leaves of the port, the settings store and the purse is the same in two states. -/
def FlashResult (s t : State) : Prop := t.flashPort = s.flashPort ∧ t.settings = s.settings ∧ t.purse = s.purse

theorem FlashInputs.snapshot {s t : State} (h : FlashInputs s t) : t.snapshot = s.snapshot := by
  unfold State.snapshot State.snapshotBody
  rw [h.rights, h.guide, h.profiles, h.now]

theorem FlashInputs.sectorPasses {s t : State} (h : FlashInputs s t) (k : Fin 8) :
    t.sectorPasses k = s.sectorPasses k := by
  unfold State.sectorPasses State.recordSpent
  rw [h.purse, h.guide]

theorem FlashInputs.eligible {s t : State} (h : FlashInputs s t) : t.rewriteEligible = s.rewriteEligible := by
  unfold State.rewriteEligible
  rw [h.settings, h.now]

theorem FlashInputs.startRewrite {s t : State} (h : FlashInputs s t) : FlashResult s.startRewrite t.startRewrite := by
  unfold State.startRewrite FlashResult
  rw [h.eligible, h.settings, h.flashPort, h.now, h.snapshot]
  split
  · exact ⟨rfl, rfl, h.purse⟩
  · split
    · exact ⟨rfl, rfl, h.purse⟩
    · exact ⟨h.flashPort, h.settings, h.purse⟩

theorem FlashInputs.startErase {s t : State} (h : FlashInputs s t) (x : Target) :
    FlashResult (s.startErase x) (t.startErase x) := by
  unfold State.startErase
  rw [h.sectorPasses]
  split
  · exact ⟨by simp only [h.flashPort], h.settings, h.purse⟩
  · refine FlashInputs.startRewrite ⟨h.powerGood, h.part, h.now, h.guide, h.rights, h.profiles, h.flashPort, h.settings, ?_⟩
    simp only [State.modPurse, h.purse]

/-- R137: the arbiter's choice depends on its inputs alone. -/
theorem FlashInputs.chooseFlash {s t : State} (h : FlashInputs s t) : FlashResult s.chooseFlash t.chooseFlash := by
  have hf : t.flashFree = s.flashFree := by unfold State.flashFree; rw [h.powerGood, h.part, h.flashPort]
  have hq : t.purse.queue = s.purse.queue := by rw [h.purse]
  have ht : t.purse.target = s.purse.target := by rw [h.purse]
  unfold State.chooseFlash
  rw [hf, hq, ht]
  split
  · split
    · exact ⟨by simp only [h.flashPort], h.settings, h.purse⟩
    · split
      · exact h.startErase _
      · exact h.startRewrite
    · exact h.startRewrite
  · exact ⟨h.flashPort, h.settings, h.purse⟩

/-- With the port still free after it, the rewrite found nothing to start. -/
theorem State.startRewrite_free {s : State} (h : s.startRewrite.flashFree = true) :
    s.startRewrite = s ∧ s.settings.rewrite = none ∧ s.rewriteEligible = false := by
  unfold State.startRewrite at h ⊢
  split at h
  · simp [State.flashFree] at h
  · split at h
    · simp [State.flashFree] at h
    · exact ⟨by simp_all, by assumption, by simp_all⟩

/-- R137: at the end of a command the arbiter has its choice on what the command left. -/
theorem State.settle_flashFollows (s : State) : flashFollows s.flashPort s.settings s.purse s.settle := by
  have h : FlashInputs s.driveLamps { s.settle with
      flashPort := s.flashPort, settings := s.settings, purse := s.purse } :=
    ⟨State.settle_powerGood s, State.settle_part s, by simp, State.settle_guide s, State.settle_rights s,
      State.settle_profiles s, rfl, rfl, rfl⟩
  obtain ⟨h1, h2, h3⟩ := h.chooseFlash
  exact ⟨_, rfl, h1.symm, h2.symm, h3.symm⟩

/-- A rewrite that is not eligible is neither forced nor due to a CHANGE. -/
theorem State.not_eligible {s : State} (h : s.rewriteEligible = false) :
    s.settings.forced = false ∧ s.settings.dirty ≠ .change := by
  unfold State.rewriteEligible at h
  cases hd : s.settings.dirty <;> simp_all

/-- R137: after the arbiter's choice nothing that it may start waits at a free port. -/
theorem State.chooseFlash_served (s : State) : FlashServed s.chooseFlash := by
  intro hf
  unfold State.chooseFlash at hf ⊢
  split at hf
  · rename_i hs
    rw [if_pos hs]
    split at hf
    · simp [State.flashFree] at hf
    · rename_i t hq ht
      split at hf
      · rename_i hw
        rw [if_pos hw]
        unfold State.startErase at hf ⊢
        split at hf
        · simp [State.flashFree] at hf
        · rename_i hp
          rw [if_neg hp]
          obtain ⟨e, hr, he⟩ := State.startRewrite_free hf
          rw [e]
          exact ⟨hq, by simp [State.modPurse], hr, State.not_eligible he⟩
      · rename_i hw
        rw [if_neg hw]
        obtain ⟨e, hr, he⟩ := State.startRewrite_free hf
        rw [e]
        refine ⟨hq, ?_, hr, State.not_eligible he⟩
        intro k hk
        rw [ht] at hk
        cases hk
        exact hw rfl
    · rename_i hq ht
      obtain ⟨e, hr, he⟩ := State.startRewrite_free hf
      rw [e]
      exact ⟨hq, by simp [ht], hr, State.not_eligible he⟩
  · rename_i hs
    exact absurd hf hs

/-- R137: nor at the end of a command. -/
theorem State.settle_served (s : State) : FlashServed s.settle := fun h => State.chooseFlash_served s.driveLamps h

end Sys2Proof.Machine
end

