-- ==== Sys2Proof/Laws/Gate.lean ====
section
/-! SUPPORT. What evaluating a gate can change (R163, R171, R176, R177, R134) and what recomputing verdicts can change
(R118 to R120), each said once. -/

namespace Sys2Proof.Machine

/-! ### Evaluations -/

/-- Of an output, an evaluation can change the gate values, the offer and the EVENT unlock alone. -/
structure GateFields (x y : Output) : Prop where
  tune : y.tune = x.tune
  delivery : y.delivery = x.delivery
  pace : y.pace = x.pace
  periodUnlock : y.periodUnlock = x.periodUnlock
  counters : y.counters = x.counters

/-- An evaluation changes those fields of outputs, and it hands over notices. -/
structure GateWork (s t : State) : Prop where
  powerGood : t.powerGood = s.powerGood
  part : t.part = s.part
  ticks : t.ticks = s.ticks
  cfg : t.cfg = s.cfg
  path : t.path = s.path
  intake : t.intake = s.intake
  guide : t.guide = s.guide
  ctxs : t.ctxs = s.ctxs
  loadOrder : t.loadOrder = s.loadOrder
  rights : t.rights = s.rights
  access : t.access = s.access
  purse : t.purse = s.purse
  flashPort : t.flashPort = s.flashPort
  settings : t.settings = s.settings
  profiles : t.profiles = s.profiles
  lamps : t.lamps = s.lamps
  dram : t.dram = s.dram
  flash : t.flash = s.flash
  pending : t.pending = s.pending
  port : ∃ rs : List OwnReq, t.port = { s.port with own := s.port.own ++ rs } ∧ ∀ r ∈ rs, r.what.ofNotices = true
  outs : ∀ x : Fin 6, GateFields s.outs[x] t.outs[x]

theorem GateFields.refl (x : Output) : GateFields x x := ⟨rfl, rfl, rfl, rfl, rfl⟩

theorem GateFields.trans {x y z : Output} (h : GateFields x y) (k : GateFields y z) : GateFields x z :=
  ⟨k.tune.trans h.tune, k.delivery.trans h.delivery, k.pace.trans h.pace, k.periodUnlock.trans h.periodUnlock,
    k.counters.trans h.counters⟩

theorem GateWork.refl (s : State) : GateWork s s := by
  constructor <;> first | rfl | exact ⟨[], by simp, by simp⟩ | exact fun x => GateFields.refl _

theorem GateWork.trans {s t u : State} (h : GateWork s t) (k : GateWork t u) : GateWork s u := by
  obtain ⟨rs, e1, n1⟩ := h.port
  obtain ⟨qs, e2, n2⟩ := k.port
  constructor
  case port =>
    refine ⟨rs ++ qs, by rw [e2, e1]; simp [List.append_assoc], ?_⟩
    intro r hr
    rcases List.mem_append.mp hr with hr | hr
    · exact n1 r hr
    · exact n2 r hr
  case outs => exact fun x => (h.outs x).trans (k.outs x)
  case powerGood => exact k.powerGood.trans h.powerGood
  case part => exact k.part.trans h.part
  case ticks => exact k.ticks.trans h.ticks
  case cfg => exact k.cfg.trans h.cfg
  case path => exact k.path.trans h.path
  case intake => exact k.intake.trans h.intake
  case guide => exact k.guide.trans h.guide
  case ctxs => exact k.ctxs.trans h.ctxs
  case loadOrder => exact k.loadOrder.trans h.loadOrder
  case rights => exact k.rights.trans h.rights
  case access => exact k.access.trans h.access
  case purse => exact k.purse.trans h.purse
  case flashPort => exact k.flashPort.trans h.flashPort
  case settings => exact k.settings.trans h.settings
  case profiles => exact k.profiles.trans h.profiles
  case lamps => exact k.lamps.trans h.lamps
  case dram => exact k.dram.trans h.dram
  case flash => exact k.flash.trans h.flash
  case pending => exact k.pending.trans h.pending

theorem State.notify_work (s : State) (n : Notice) : GateWork s (s.notify n) := by
  constructor
  case port => exact State.notify_own s n
  case outs => intro x; rw [State.notify_outs]; exact GateFields.refl _
  all_goals simp

theorem State.modOut_work (s : State) (o : Fin 6) (f : Output → Output) (h : ∀ x, GateFields x (f x)) :
    GateWork s (s.modOut o f) := by
  constructor
  case port => exact ⟨[], by simp, by simp⟩
  case outs =>
    intro x
    by_cases e : (o : Nat) = (x : Nat)
    · have : o = x := Fin.ext e
      subst this
      simpa [State.modOut] using h s.outs[o]
    · simp only [State.modOut, Fin.getElem_fin]
      rw [Vector.getElem_set_ne _ _ e]
      exact GateFields.refl _
  all_goals rfl

theorem State.clearStaleUnlock_work (s : State) (o : Fin 6) : GateWork s (s.clearStaleUnlock o) := by
  unfold State.clearStaleUnlock
  split
  · exact GateWork.refl s
  · exact State.modOut_work s o _ (fun _ => ⟨rfl, rfl, rfl, rfl, rfl⟩)

theorem State.dropOffer_work (s : State) (o : Fin 6) : GateWork s (s.dropOffer o) :=
  State.modOut_work s o _ (fun _ => ⟨rfl, rfl, rfl, rfl, rfl⟩)

theorem State.makeOffer_work (s : State) (o : Fin 6) (e : EventCriteria) (p : Nat) : GateWork s (s.makeOffer o e p) :=
  (State.notify_work s _).trans (State.modOut_work _ o _ (fun _ => ⟨rfl, rfl, rfl, rfl, rfl⟩))

theorem State.offerOrNone_work (s : State) (o : Fin 6) : GateWork s (s.offerOrNone o) := by
  unfold State.offerOrNone
  split
  · exact State.dropOffer_work s o
  · split
    · exact State.dropOffer_work s o
    · exact State.makeOffer_work s o _ _

theorem State.handValue_work (s : State) (o : Fin 6) (g : Gate) : GateWork s (s.handValue o g) := by
  unfold State.handValue
  split
  · split
    · exact State.offerOrNone_work s o
    · split
      · exact GateWork.refl s
      · exact State.offerOrNone_work s o
  · exact State.dropOffer_work s o

theorem State.reportGate_work (s : State) (o : Fin 6) (c : GateCause) : GateWork s (s.reportGate o c) := by
  unfold State.reportGate
  split
  · exact GateWork.refl s
  · split
    · exact GateWork.refl s
    · exact (State.notify_work s _).trans (State.modOut_work _ o _ (fun _ => ⟨rfl, rfl, rfl, rfl, rfl⟩))

theorem State.gateIdle_work (s : State) (o : Fin 6) : GateWork s (s.gateIdle o) :=
  State.modOut_work s o _ (fun _ => ⟨rfl, rfl, rfl, rfl, rfl⟩)

theorem State.setGate_work (s : State) (o : Fin 6) (g : Gate) : GateWork s (s.setGate o g) :=
  State.modOut_work s o _ (fun _ => ⟨rfl, rfl, rfl, rfl, rfl⟩)

/-- R176: what one evaluation can change. -/
theorem State.evaluate_work (s : State) (c : GateCause) (d : Bool) (o : Fin 6) : GateWork s (s.evaluate c d o) := by
  unfold State.evaluate
  split
  · exact State.gateIdle_work s o
  · refine GateWork.trans ?_ (State.handValue_work _ o _)
    have h := (State.clearStaleUnlock_work s o).trans (State.setGate_work (s.clearStaleUnlock o) o
      ((s.clearStaleUnlock o).gateInputs o ‹Tuned›).value)
    split
    · exact h
    · exact h.trans (State.reportGate_work _ o c)

/-- Work of this kind on each output of a list is work of this kind. -/
theorem GateWork.foldl {α : Type} (f : State → α → State) (h : ∀ s a, GateWork s (f s a)) (l : List α) (s : State) :
    GateWork s (l.foldl f s) := by
  induction l generalizing s with
  | nil => exact GateWork.refl s
  | cons a l ih => exact (h s a).trans (ih _)

/-- R176: what evaluating several outputs can change. -/
theorem State.evaluateAll_work (s : State) (c : GateCause) (d : Bool) (os : List (Fin 6)) :
    GateWork s (s.evaluateAll c d os) :=
  GateWork.foldl _ (fun s o => State.evaluate_work s c d o) os s

/-- R178: what the deferred notices can change. -/
theorem State.deferredNotices_work (s : State) : GateWork s s.deferredNotices :=
  GateWork.foldl _ (fun s o => State.reportGate_work s o .minute) allOutputs s

theorem State.evaluateChanged_work (s before : State) (d : Bool) (pick : Fin 8 → Bool) :
    GateWork s (s.evaluateChanged before d pick) :=
  State.evaluateAll_work s _ d _

theorem State.evaluateTuned_work (s : State) (c : GateCause) (o : Fin 6) : GateWork s (s.evaluateTuned c o) := by
  unfold State.evaluateTuned
  split
  · exact GateWork.refl s
  · exact State.evaluate_work s c false o

theorem State.evaluateIfGoverningChanged_work (s : State) (m : Option (HalfParity × Nat)) (c : Fin 8) :
    GateWork s (s.evaluateIfGoverningChanged m c) := by
  unfold State.evaluateIfGoverningChanged
  split
  · exact State.evaluateAll_work s _ _ _
  · exact GateWork.refl s

theorem GateWork.upAll {s t : State} (h : GateWork s t) : t.port.upAll = s.port.upAll := by
  obtain ⟨rs, e, -⟩ := h.port
  rw [e]; rfl

/-- The own requests that such work adds are Notice Writer's own writes, after all that waited before. -/
theorem GateWork.ownAll {s t : State} (h : GateWork s t) :
    ∃ rs : List OwnReq, t.port.ownAll = s.port.ownAll ++ rs ∧ ∀ r ∈ rs, r.what.ofNotices = true := by
  obtain ⟨rs, e, n⟩ := h.port
  refine ⟨rs, ?_, n⟩
  rw [e]
  obtain ⟨up, own, pass, serving⟩ := s.port
  rcases serving with _ | (u | r) <;> rfl

/-- Such work keeps every kind of state but outputs, own requests and the Notice Writer. -/
theorem GateWork.frame {s t : State} (h : GateWork s t) : onlyChanges [.outputs, .own, .writer] s t := by
  intro a ha
  cases a
  case flashWork => exact fun _ => ⟨h.flashPort, h.settings, by rw [h.purse]⟩
  case journal => show t.purse.untargeted = _; rw [h.purse]
  case power => exact ⟨h.powerGood, h.part⟩
  case contexts => exact ⟨h.ctxs, h.loadOrder⟩
  case upstream => exact h.upAll
  case time => exact h.ticks
  case config => exact h.cfg
  case path => exact h.path
  case intake => exact h.intake
  case guide => exact h.guide
  case rights => exact h.rights
  case access => exact h.access
  case profiles => exact h.profiles
  case dram => exact h.dram
  case flash => exact h.flash
  case queue => exact h.pending
  all_goals simp at ha

/-! ### Recomputations of verdicts -/

/-- A half that is the same but for its verdict. -/
structure VerdictOnly (x y : Option Half) : Prop where
  same : x.map (fun h => { h with verdict := .notEntitled }) = y.map (fun h => { h with verdict := .notEntitled })

/-- Of a context, a recomputation can change the verdicts of its halves alone. -/
structure VerdictFields (x y : Context) : Prop where
  life : y.life = x.life
  members : y.members = x.members
  parity : y.parity = x.parity
  epoch : y.epoch = x.epoch
  even : VerdictOnly x.even y.even
  odd : VerdictOnly x.odd y.odd

/-- A recomputation changes verdicts and the preview table. -/
structure VerdictWork (s t : State) : Prop where
  powerGood : t.powerGood = s.powerGood
  part : t.part = s.part
  ticks : t.ticks = s.ticks
  cfg : t.cfg = s.cfg
  path : t.path = s.path
  port : t.port = s.port
  intake : t.intake = s.intake
  guide : t.guide = s.guide
  loadOrder : t.loadOrder = s.loadOrder
  outs : t.outs = s.outs
  rights : t.rights = s.rights
  purse : t.purse = s.purse
  flashPort : t.flashPort = s.flashPort
  settings : t.settings = s.settings
  profiles : t.profiles = s.profiles
  writer : t.writer = s.writer
  lamps : t.lamps = s.lamps
  dram : t.dram = s.dram
  flash : t.flash = s.flash
  pending : t.pending = s.pending
  ctxs : ∀ c : Fin 8, VerdictFields s.ctxs[c] t.ctxs[c]
  owned : t.access.owned = s.access.owned

theorem VerdictFields.refl (x : Context) : VerdictFields x x := ⟨rfl, rfl, rfl, rfl, ⟨rfl⟩, ⟨rfl⟩⟩

theorem VerdictFields.trans {x y z : Context} (h : VerdictFields x y) (k : VerdictFields y z) : VerdictFields x z :=
  ⟨k.life.trans h.life, k.members.trans h.members, k.parity.trans h.parity, k.epoch.trans h.epoch,
    ⟨h.even.same.trans k.even.same⟩, ⟨h.odd.same.trans k.odd.same⟩⟩

theorem VerdictWork.refl (s : State) : VerdictWork s s := by
  constructor <;> first | rfl | exact fun c => VerdictFields.refl _

theorem VerdictWork.trans {s t u : State} (h : VerdictWork s t) (k : VerdictWork t u) : VerdictWork s u := by
  constructor
  case ctxs => exact fun c => (h.ctxs c).trans (k.ctxs c)
  case owned => exact k.owned.trans h.owned
  case powerGood => exact k.powerGood.trans h.powerGood
  case part => exact k.part.trans h.part
  case ticks => exact k.ticks.trans h.ticks
  case cfg => exact k.cfg.trans h.cfg
  case path => exact k.path.trans h.path
  case port => exact k.port.trans h.port
  case intake => exact k.intake.trans h.intake
  case guide => exact k.guide.trans h.guide
  case loadOrder => exact k.loadOrder.trans h.loadOrder
  case outs => exact k.outs.trans h.outs
  case rights => exact k.rights.trans h.rights
  case purse => exact k.purse.trans h.purse
  case flashPort => exact k.flashPort.trans h.flashPort
  case settings => exact k.settings.trans h.settings
  case profiles => exact k.profiles.trans h.profiles
  case writer => exact k.writer.trans h.writer
  case lamps => exact k.lamps.trans h.lamps
  case dram => exact k.dram.trans h.dram
  case flash => exact k.flash.trans h.flash
  case pending => exact k.pending.trans h.pending

/-- A change of one context, seen in each context. -/
theorem State.modCtx_get (s : State) (c d : Fin 8) (f : Context → Context) :
    (s.modCtx c f).ctxs[d] = if c = d then f s.ctxs[d] else s.ctxs[d] := by
  simp only [State.modCtx, Fin.getElem_fin, Vector.getElem_set]
  by_cases e : c = d
  · subst e; simp
  · have : ¬ (c : Nat) = (d : Nat) := fun h => e (Fin.ext h)
    simp [e, this]

/-- A change of one output, seen in each output. -/
theorem State.modOut_get (s : State) (o x : Fin 6) (f : Output → Output) :
    (s.modOut o f).outs[x] = if o = x then f s.outs[x] else s.outs[x] := by
  simp only [State.modOut, Fin.getElem_fin, Vector.getElem_set]
  by_cases e : o = x
  · subst e; simp
  · have : ¬ (o : Nat) = (x : Nat) := fun h => e (Fin.ext h)
    simp [e, this]

/-- A change of one profile, seen in each profile. -/
theorem State.modProfile_get (s : State) (q x : Fin 6) (f : Profile → Profile) :
    (s.modProfile q f).profiles[x] = if q = x then f s.profiles[x] else s.profiles[x] := by
  simp only [State.modProfile, Fin.getElem_fin, Vector.getElem_set]
  by_cases e : q = x
  · subst e; simp
  · have : ¬ (q : Nat) = (x : Nat) := fun h => e (Fin.ext h)
    simp [e, this]

/-- A change of one ring, seen in each ring. -/
theorem State.modRing_get (s : State) (k x : Fin 4) (f : Ring → Ring) :
    (s.modRing k f).path.rings[x] = if k = x then f s.path.rings[x] else s.path.rings[x] := by
  simp only [State.modRing, Fin.getElem_fin, Vector.getElem_set]
  by_cases e : k = x
  · subst e; simp
  · have : ¬ (k : Nat) = (x : Nat) := fun h => e (Fin.ext h)
    simp [e, this]

theorem AccessUnit.judgePreview_owned (a : AccessUnit) (e : EventCriteria) (t : Option Nat) :
    (a.judgePreview e t).access.owned = a.owned := by
  unfold AccessUnit.judgePreview
  dsimp only
  split
  · rfl
  · split
    · rfl
    · split
      · rfl
      · split <;> rfl

theorem State.judge_owned (s : State) (c : Criteria) : (s.judge c).access.owned = s.access.owned := by
  unfold State.judge
  split
  · rfl
  · rfl
  · split
    · rfl
    · exact AccessUnit.judgePreview_owned _ _ _

/-- Giving a half at a place another verdict is work of this kind. -/
theorem State.setVerdict_work (s : State) (l : HalfPlace) (h : Half) (v : Verdict) (a : AccessUnit)
    (hl : s.halfAt l = some h) (ho : a.owned = s.access.owned) :
    VerdictWork s (({ s with access := a } : State).setHalf l (some { h with verdict := v })) := by
  constructor
  case ctxs =>
    intro c
    obtain ⟨d, p⟩ := l
    simp only [State.setHalf]
    rw [State.modCtx_get]
    by_cases e : d = c
    · subst e
      rw [if_pos rfl]
      cases p
      · have hl' : (s.ctxs[d]).even = some h := hl
        exact ⟨rfl, rfl, rfl, rfl, ⟨by simp [Context.setHalf]; rw [Fin.getElem_fin] at hl'; exact ⟨h, hl', rfl, rfl, rfl, rfl, rfl, rfl⟩⟩, ⟨rfl⟩⟩
      · have hl' : (s.ctxs[d]).odd = some h := hl
        exact ⟨rfl, rfl, rfl, rfl, ⟨rfl⟩, ⟨by simp [Context.setHalf]; rw [Fin.getElem_fin] at hl'; exact ⟨h, hl', rfl, rfl, rfl, rfl, rfl, rfl⟩⟩⟩
    · rw [if_neg e]; exact VerdictFields.refl _
  case owned => exact ho
  all_goals rfl

theorem VerdictWork.foldl {α : Type} (f : State → α → State) (h : ∀ s a, VerdictWork s (f s a)) (l : List α)
    (s : State) : VerdictWork s (l.foldl f s) := by
  induction l generalizing s with
  | nil => exact VerdictWork.refl s
  | cons a l ih => exact (h s a).trans (ih _)

/-- R120: what recomputing one half can change. -/
theorem State.recomputeHalf_work (n : Nat) : ∀ (s : State) (l : HalfPlace), VerdictWork s (State.recomputeHalf n s l) := by
  induction n with
  | zero => exact fun s l => VerdictWork.refl s
  | succ n ih =>
    intro s l
    unfold State.recomputeHalf
    split
    · exact VerdictWork.refl s
    · rename_i h hl
      have w := State.setVerdict_work s l h (s.judge h.criteria).verdict (s.judge h.criteria).access hl
        (State.judge_owned s h.criteria)
      dsimp only
      split
      · exact w
      · exact w.trans (VerdictWork.foldl _ ih _ _)

/-- R120: what a recomputation can change. -/
theorem State.recompute_work (s : State) (ls : List HalfPlace) : VerdictWork s (s.recompute ls) :=
  VerdictWork.foldl _ (State.recomputeHalf_work recomputeDepth) ls s

end Sys2Proof.Machine
end

