-- ==== Sys2Proof/Laws/Memory.lean ====
section
/-! SUPPORT. The sparse memories: every operation keeps the canonical form, and a read after a write. -/

namespace Sys2Proof.Machine

variable {d : Byte}

@[simp] theorem Memory.wfFrom_nil (lo : Nat) : Memory.wfFrom d lo [] = true := rfl

theorem Memory.wfFrom_cons (lo k : Nat) (v : Byte) (m : Memory) :
    Memory.wfFrom d lo ((k, v) :: m) = true ↔ lo ≤ k ∧ v ≠ d ∧ Memory.wfFrom d (k + 1) m = true := by
  simp [Memory.wfFrom, and_assoc]

/-- A smaller bound is kept too. -/
theorem Memory.wfFrom_mono {lo lo' : Nat} {m : Memory} (h : lo' ≤ lo) (w : Memory.wfFrom d lo m = true) :
    Memory.wfFrom d lo' m = true := by
  cases m with
  | nil => rfl
  | cons c m =>
    obtain ⟨k, v⟩ := c
    rw [Memory.wfFrom_cons] at w ⊢
    exact ⟨le_trans h w.1, w.2⟩

/-- Writing a byte keeps the canonical form. -/
theorem Memory.write_wfFrom {m : Memory} : ∀ {lo : Nat} (a : Nat) (b : Byte), lo ≤ a →
    Memory.wfFrom d lo m = true → Memory.wfFrom d lo (Memory.write d m a b) = true := by
  induction m with
  | nil =>
    intro lo a b h _
    by_cases hb : b = d <;> simp [Memory.write, hb, Memory.wfFrom_cons, h]
  | cons c m ih =>
    obtain ⟨k, v⟩ := c
    intro lo a b h w
    obtain ⟨hk, hv, hm⟩ := (Memory.wfFrom_cons lo k v m).mp w
    rcases lt_trichotomy a k with hlt | rfl | hgt
    · by_cases hb : b = d
      · simpa [Memory.write, hlt, hb] using w
      · simp [Memory.write, hlt, hb, Memory.wfFrom_cons, h, hv, hm, Nat.succ_le_of_lt hlt]
    · by_cases hb : b = d
      · simpa [Memory.write, hb] using Memory.wfFrom_mono (Nat.le_succ_of_le hk) hm
      · simp [Memory.write, hb, Memory.wfFrom_cons, hk, hm]
    · have h1 : ¬ a < k := by omega
      have h2 : a ≠ k := by omega
      simp [Memory.write, h1, h2, Memory.wfFrom_cons, hk, hv, ih a b (Nat.succ_le_of_lt hgt) hm]

/-- Writing bytes keeps the canonical form. -/
theorem Memory.writeBytes_wf (bs : List Byte) : ∀ {m : Memory} (a : Nat),
    Memory.wf d m = true → Memory.wf d (Memory.writeBytes d m a bs) = true := by
  induction bs with
  | nil => intro m a w; exact w
  | cons b bs ih => intro m a w; exact ih (a + 1) (Memory.write_wfFrom a b (Nat.zero_le a) w)

/-- Dropping entries keeps the canonical form. -/
theorem Memory.filter_wfFrom (p : Host.Cell → Bool) {m : Memory} : ∀ {lo : Nat},
    Memory.wfFrom d lo m = true → Memory.wfFrom d lo (m.filter p) = true := by
  induction m with
  | nil => intro lo w; exact w
  | cons c m ih =>
    obtain ⟨k, v⟩ := c
    intro lo w
    obtain ⟨hk, hv, hm⟩ := (Memory.wfFrom_cons lo k v m).mp w
    by_cases hp : p (k, v)
    · simp [hp, Memory.wfFrom_cons, hk, hv, ih hm]
    · simpa [hp] using Memory.wfFrom_mono (Nat.le_succ_of_le hk) (ih hm)

/-- Clearing a range keeps the canonical form. -/
theorem Memory.clear_wf {m : Memory} (a n : Nat) (w : Memory.wf d m = true) :
    Memory.wf d (Memory.clear m a n) = true := Memory.filter_wfFrom _ w

/-- Below the bound of a canonical memory every byte reads as unlisted. -/
theorem Memory.read_below {m : Memory} {lo a : Nat} (w : Memory.wfFrom d lo m = true) (h : a < lo) :
    Memory.read d m a = d := by
  cases m with
  | nil => rfl
  | cons c m =>
    obtain ⟨k, v⟩ := c
    obtain ⟨hk, -, -⟩ := (Memory.wfFrom_cons lo k v m).mp w
    have h1 : k ≠ a := by omega
    have h2 : a < k := by omega
    simp [Memory.read, h1, h2]

/-- A read after a write: the byte written at its address, every other byte as it was. -/
theorem Memory.read_write {m : Memory} : ∀ {lo : Nat} (a : Nat) (b : Byte) (x : Nat),
    Memory.wfFrom d lo m = true →
    Memory.read d (Memory.write d m a b) x = if x = a then b else Memory.read d m x := by
  induction m with
  | nil =>
    intro lo a b x _
    by_cases hb : b = d
    · by_cases hx : x = a <;> simp [Memory.write, Memory.read, hb]
    · by_cases hx : x = a
      · simp [Memory.write, Memory.read, hb, hx]
      · simp [Memory.write, Memory.read, hb, hx, Ne.symm hx]
  | cons c m ih =>
    obtain ⟨k, v⟩ := c
    intro lo a b x w
    obtain ⟨hk, hv, hm⟩ := (Memory.wfFrom_cons lo k v m).mp w
    rcases lt_trichotomy a k with hlt | rfl | hgt
    · by_cases hb : b = d
      · by_cases hx : x = a
        · have h1 : k ≠ a := by omega
          simp [Memory.write, Memory.read, hlt, hb, hx, h1]
        · simp [Memory.write, hlt, hb, hx]
      · by_cases hx : x = a
        · simp [Memory.write, Memory.read, hlt, hb, hx]
        · simp only [Memory.write, hlt, hb, if_true, if_false, hx]
          rw [Memory.read]
          rw [if_neg (Ne.symm hx)]
          by_cases hxa : x < a
          · have h1 : k ≠ x := by omega
            have h2 : x < k := by omega
            simp [Memory.read, hxa, h1, h2]
          · simp [hxa]
    · by_cases hb : b = d
      · by_cases hx : x = a
        · subst hx
          simpa [Memory.write, hb] using Memory.read_below hm (Nat.lt_succ_self x)
        · simp only [Memory.write, lt_irrefl, hb, if_true, if_false, hx]
          by_cases hxa : x < a
          · rw [Memory.read_below hm (by omega : x < a + 1)]
            simp [Memory.read, Ne.symm hx, hxa]
          · simp [Memory.read, Ne.symm hx, hxa]
      · by_cases hx : x = a
        · simp [Memory.write, Memory.read, hb, hx]
        · simp [Memory.write, Memory.read, hb, hx, Ne.symm hx]
    · have h1 : ¬ a < k := by omega
      have h2 : a ≠ k := by omega
      simp only [Memory.write, h1, h2, if_false]
      by_cases hkx : k = x
      · have h3 : x ≠ a := by omega
        simp [Memory.read, hkx, h3]
      · by_cases hxk : x < k
        · have h3 : x ≠ a := by omega
          simp [Memory.read, hkx, hxk, h3]
        · simp only [Memory.read, hkx, hxk, if_false]
          exact ih a b x hm

/-- A read after a write of several bytes. -/
theorem Memory.read_writeBytes (bs : List Byte) : ∀ {m : Memory} (a x : Nat), Memory.wf d m = true →
    Memory.read d (Memory.writeBytes d m a bs) x =
      if a ≤ x ∧ x < a + bs.length then bs.getD (x - a) 0 else Memory.read d m x := by
  induction bs with
  | nil =>
    intro m a x _
    have h : ¬ (a ≤ x ∧ x < a + 0) := by omega
    simp only [Memory.writeBytes, List.length_nil, if_neg h]
  | cons b bs ih =>
    intro m a x w
    rw [Memory.writeBytes, ih (a + 1) x (Memory.write_wfFrom a b (Nat.zero_le a) w), Memory.read_write a b x w]
    by_cases h1 : a + 1 ≤ x ∧ x < a + 1 + bs.length
    · have h2 : a ≤ x ∧ x < a + (b :: bs).length := by simp only [List.length_cons]; omega
      rw [if_pos h1, if_pos h2]
      have h3 : x - a = (x - (a + 1)) + 1 := by omega
      rw [h3, List.getD_cons_succ]
    · rw [if_neg h1]
      by_cases hx : x = a
      · subst hx
        have h2 : x ≤ x ∧ x < x + (b :: bs).length := by simp only [List.length_cons]; omega
        rw [if_pos rfl, if_pos h2]; simp
      · have h2 : ¬ (a ≤ x ∧ x < a + (b :: bs).length) := by simp only [List.length_cons]; omega
        rw [if_neg hx, if_neg h2]

/-- Reading where bytes were written gives them back. -/
theorem Memory.readBytes_writeBytes (bs : List Byte) {m : Memory} (a : Nat) (w : Memory.wf d m = true) :
    Memory.readBytes d (Memory.writeBytes d m a bs) a bs.length = bs := by
  apply List.ext_getElem
  · simp [Memory.readBytes]
  · intro i h1 h2
    simp only [Memory.readBytes, List.getElem_map, List.getElem_range]
    rw [Memory.read_writeBytes bs a (a + i) w, if_pos ⟨by omega, by omega⟩]
    simp [h2]

/-- Clearing a range: its bytes read as unlisted, every other byte as it was. -/
theorem Memory.read_clear {m : Memory} (a n : Nat) : ∀ {lo : Nat} (x : Nat), Memory.wfFrom d lo m = true →
    Memory.read d (Memory.clear m a n) x = if a ≤ x ∧ x < a + n then d else Memory.read d m x := by
  induction m with
  | nil => intro lo x _; by_cases h : a ≤ x ∧ x < a + n <;> simp [Memory.clear, Memory.read]
  | cons c m ih =>
    obtain ⟨k, v⟩ := c
    intro lo x w
    obtain ⟨-, -, hm⟩ := (Memory.wfFrom_cons lo k v m).mp w
    have step := ih x hm
    have below : x ≤ k → Memory.read d (Memory.clear m a n) x = d := fun h =>
      Memory.read_below (Memory.filter_wfFrom _ hm) (by omega)
    by_cases hk : a ≤ k ∧ k < a + n
    · have e : Memory.clear ((k, v) :: m) a n = Memory.clear m a n := by simp [Memory.clear, hk]
      rw [e, step]
      by_cases hx : a ≤ x ∧ x < a + n
      · rw [if_pos hx, if_pos hx]
      · rw [if_neg hx, if_neg hx]
        have h1 : k ≠ x := by rintro rfl; exact hx hk
        by_cases h2 : x < k
        · rw [Memory.read_below hm (by omega)]; simp [Memory.read, h1, h2]
        · simp [Memory.read, h1, h2]
    · have e : Memory.clear ((k, v) :: m) a n = (k, v) :: Memory.clear m a n :=
        List.filter_cons_of_pos (by simp; omega)
      rw [e]
      by_cases h1 : k = x
      · subst h1; simp [Memory.read, hk]
      · by_cases h2 : x < k
        · simp [Memory.read, h1, h2]
        · simp only [Memory.read, h1, h2, if_false]; exact step

/-- Flash bytes read where they were programmed. -/
theorem State.flashRead_flashWrite (s : State) (a n : Nat) (bs : List Byte) (h : bs.length = n)
    (w : Memory.wf flashDefault s.flash = true) : (s.flashWrite a bs).flashRead a n = bs := by
  subst h
  exact Memory.readBytes_writeBytes bs a w

/-- DRAM bytes read where they were written. -/
theorem State.dramRead_dramWrite (s : State) (a n : Nat) (bs : List Byte) (h : bs.length = n)
    (w : Memory.wf dramDefault s.dram = true) : (s.dramWrite a bs).dramRead a n = bs := by
  subst h
  exact Memory.readBytes_writeBytes bs a w

/-- DRAM and flash before power-good are canonical. -/
theorem State.reset_memories : Memory.wf dramDefault State.reset.dram = true ∧
    Memory.wf flashDefault State.reset.flash = true := ⟨rfl, rfl⟩

end Sys2Proof.Machine
end

