-- ==== Sys2Proof/Laws/PerInstr.lean ====
section
/-! SUPPORT. The family WellFormed: what the checks of WellFormed.lean say, in the terms of the spec, for each command. -/

namespace Sys2Proof.Laws.WellFormed

/-- The four blocks that work at a minute tick (R40). -/
def tickBlocks : List TickBlock := [.guide, .access, .purse, .profiles]

/-- A command is well formed exactly when a request it carries has 1 to 256 bytes, its first and last byte lie in one
256-byte block, and it starts below 1 GiB (R1); an order it carries is an arrangement of the four blocks (R40); and
bytes it carries fit one flash sector (R136). -/
def Statement (c : Instr) : Prop :=
  c.wf = true ↔
    (∀ r : Request, c = .upstreamRequest r →
      (1 ≤ r.len ∧ r.len ≤ 256) ∧ (r.addr + r.len - 1) / 256 = r.addr / 256 ∧ r.addr < 2 ^ 30) ∧
    (∀ order : List TickBlock, c = .time order ∨ c = .minuteTick order → order.Perm tickBlocks) ∧
    (∀ remains : List Byte, c = .powerLoss remains → remains.length ≤ 4096)

/-- An order passes its check exactly when it arranges the four blocks. -/
theorem order_iff (order : List TickBlock) : tickOrderOk order = true ↔ order.Perm tickBlocks := by
  constructor
  · intro h
    simp only [tickOrderOk, Bool.and_eq_true, beq_iff_eq, List.all_eq_true, List.contains_iff_mem] at h
    have hs : tickBlocks.Subperm order := List.subperm_of_subset (by decide) (fun b hb => h.2 b hb)
    exact (hs.perm_of_length_le (by rw [h.1]; decide)).symm
  · intro h
    simp only [tickOrderOk, Bool.and_eq_true, beq_iff_eq, List.all_eq_true, List.contains_iff_mem]
    exact ⟨h.length_eq, fun b hb => h.mem_iff.mpr hb⟩

/-- A request passes its checks exactly when it keeps R1. -/
theorem request_iff (r : Request) : r.wf = true ↔
    (1 ≤ r.len ∧ r.len ≤ 256) ∧ (r.addr + r.len - 1) / 256 = r.addr / 256 ∧ r.addr < 2 ^ 30 := by
  simp only [Request.wf, Request.lenOk, Request.blockOk, Request.addrOk, Bool.and_eq_true, decide_eq_true_eq]
  omega

/-- The commands that carry a request, an order or bytes, which the statement asks something of. -/
def checked : Instr → Bool
  | .upstreamRequest _ | .time _ | .minuteTick _ | .powerLoss _ => true
  | _ => false

/-- The statement for a command of which nothing is asked. -/
theorem unchecked {c : Instr} (hw : c.wf = true) (hc : checked c = false) : Statement c := by
  refine ⟨fun _ => ⟨?_, ?_, ?_⟩, fun _ => hw⟩
  · rintro r rfl
    exact Bool.noConfusion hc
  · rintro order (rfl | rfl) <;> exact Bool.noConfusion hc
  · rintro remains rfl
    exact Bool.noConfusion hc

theorem powerGood : Statement .powerGood := unchecked rfl rfl
theorem powerLoss (remains : List Byte) : Statement (.powerLoss remains) := by simp [Statement, Instr.wf, remainsLenOk]
theorem linkReset (fetchComplete : Bool) : Statement (.linkReset fetchComplete) := unchecked rfl rfl
theorem configImageReadComplete : Statement .configImageReadComplete := unchecked rfl rfl
theorem upstreamRequest (r : Request) : Statement (.upstreamRequest r) := by simp [Statement, Instr.wf, request_iff]
theorem passRequestComplete : Statement .passRequestComplete := unchecked rfl rfl
theorem cellArrival : Statement .cellArrival := unchecked rfl rfl
theorem silenceTimerExpiry (w : Fin 4) : Statement (.silenceTimerExpiry w) := unchecked rfl rfl
theorem cellRead (read : ReadStep) : Statement (.cellRead read) := unchecked rfl rfl
theorem paceWindowOpen : Statement .paceWindowOpen := unchecked rfl rfl
theorem ownWriteComplete : Statement .ownWriteComplete := unchecked rfl rfl
theorem slotTake : Statement .slotTake := unchecked rfl rfl
theorem recordBadKind : Statement .recordBadKind := unchecked rfl rfl
theorem outcomeWriteComplete : Statement .outcomeWriteComplete := unchecked rfl rfl
theorem time (order : List TickBlock) : Statement (.time order) := by simp [Statement, Instr.wf, order_iff]
theorem oneSecondTick : Statement .oneSecondTick := unchecked rfl rfl
theorem previewExhaustion (event : Nat) : Statement (.previewExhaustion event) := unchecked rfl rfl
theorem minutesUsedRise (q : Fin 6) : Statement (.minutesUsedRise q) := unchecked rfl rfl
theorem minuteTick (order : List TickBlock) : Statement (.minuteTick order) := by simp [Statement, Instr.wf, order_iff]
theorem services : Statement .services := unchecked rfl rfl
theorem events : Statement .events := unchecked rfl rfl
theorem tuneView : Statement .tuneView := unchecked rfl rfl
theorem tuneStage : Statement .tuneStage := unchecked rfl rfl
theorem release : Statement .release := unchecked rfl rfl
theorem keyWaitExpiry (o : Fin 6) : Statement (.keyWaitExpiry o) := unchecked rfl rfl
theorem stagedLifetimeExpiry (c : Fin 8) : Statement (.stagedLifetimeExpiry c) := unchecked rfl rfl
theorem key (u : KeyUnwrap) : Statement (.key u) := unchecked rfl rfl
theorem ageingExpiry (c : Fin 8) (p : HalfParity) : Statement (.ageingExpiry c p) := unchecked rfl rfl
theorem buy : Statement .buy := unchecked rfl rfl
theorem rights (u : RightsUnwrap) : Statement (.rights u) := unchecked rfl rfl
theorem pinUnlockEvent : Statement .pinUnlockEvent := unchecked rfl rfl
theorem pinUnlockPeriod : Statement .pinUnlockPeriod := unchecked rfl rfl
theorem pinChange : Statement .pinChange := unchecked rfl rfl
theorem lockoutTimerExpiry (q : Fin 6) : Statement (.lockoutTimerExpiry q) := unchecked rfl rfl
theorem periodUnlockExpiry (o : Fin 6) : Statement (.periodUnlockExpiry o) := unchecked rfl rfl
theorem profile : Statement .profile := unchecked rfl rfl
theorem powerStandby : Statement .powerStandby := unchecked rfl rfl
theorem powerWake : Statement .powerWake := unchecked rfl rfl
theorem publishingWriteComplete : Statement .publishingWriteComplete := unchecked rfl rfl
theorem controlBlockWriteComplete : Statement .controlBlockWriteComplete := unchecked rfl rfl
theorem consumerIndexWrite : Statement .consumerIndexWrite := unchecked rfl rfl
theorem mitigationDelayExpiry : Statement .mitigationDelayExpiry := unchecked rfl rfl
theorem statisticsTimerExpiry : Statement .statisticsTimerExpiry := unchecked rfl rfl
theorem settingsReadComplete : Statement .settingsReadComplete := unchecked rfl rfl
theorem journalMount : Statement .journalMount := unchecked rfl rfl
theorem flashInhibitEnd : Statement .flashInhibitEnd := unchecked rfl rfl
theorem pageProgramComplete : Statement .pageProgramComplete := unchecked rfl rfl
theorem eraseComplete : Statement .eraseComplete := unchecked rfl rfl
theorem meteringPaceElapsed : Statement .meteringPaceElapsed := unchecked rfl rfl
theorem settingsRewriteStepComplete : Statement .settingsRewriteStepComplete := unchecked rfl rfl
theorem blinkCycle : Statement .blinkCycle := unchecked rfl rfl
theorem discardedFetchComplete : Statement .discardedFetchComplete := unchecked rfl rfl

end Sys2Proof.Laws.WellFormed
end

