-- ==== Sys2Proof/Laws/Reads.lean ====
section
/-! SUPPORT. What the event of a cell read (R12, R64) can change when the tune record takes it: the tune state and the
delivery record of its output, and the notices of R73, R75 and R76. -/

namespace Sys2Proof.Machine

/-- Frames compose; a frame without the flash port's work needs that the port stays busy. -/
theorem onlyChanges.trans {as : List Area} {s t u : State} (h : onlyChanges as s t) (k : onlyChanges as t u)
    (hf : s.flashFree = false → t.flashFree = false) : onlyChanges as s u := by
  intro a ha
  have h1 := h a ha
  have k1 := k a ha
  cases a
  case flashWork =>
    intro hs
    obtain ⟨e1, e2, e3⟩ := h1 hs
    obtain ⟨f1, f2, f3⟩ := k1 (hf hs)
    exact ⟨f1.trans e1, f2.trans e2, f3.trans e3⟩
  case power => exact ⟨k1.1.trans h1.1, k1.2.trans h1.2⟩
  case contexts => exact ⟨k1.1.trans h1.1, k1.2.trans h1.2⟩
  all_goals exact Eq.trans k1 h1

/-- Taking reads of output `o`: the other fields of its record, the other outputs and the other kinds of state are kept. -/
structure ReadWork (o : Fin 6) (s t : State) : Prop where
  frame : onlyChanges [.outputs, .own, .writer] s t
  flash : t.flashFree = s.flashFree
  others : otherOutputs o s t
  record : t.outs[o] = { s.outs[o] with tune := (t.outs[o]).tune, delivery := (t.outs[o]).delivery }
  tuned : (t.outs[o]).tune.isSome = (s.outs[o]).tune.isSome

theorem ReadWork.refl (o : Fin 6) (s : State) : ReadWork o s s :=
  ⟨(GateWork.refl s).frame, rfl, fun _ _ => rfl, rfl, rfl⟩

theorem ReadWork.trans {o : Fin 6} {s t u : State} (h : ReadWork o s t) (k : ReadWork o t u) : ReadWork o s u :=
  ⟨h.frame.trans k.frame (fun e => h.flash.trans e), k.flash.trans h.flash,
    fun x hx => (k.others x hx).trans (h.others x hx), by rw [k.record, h.record], k.tuned.trans h.tuned⟩

/-- A change of the tune state and the delivery record of one output. -/
theorem State.modOut_reads (s : State) (o : Fin 6) (f : Output → Output)
    (h : f s.outs[o] = { s.outs[o] with tune := (f s.outs[o]).tune, delivery := (f s.outs[o]).delivery })
    (ht : (f s.outs[o]).tune.isSome = (s.outs[o]).tune.isSome) : ReadWork o s (s.modOut o f) := by
  refine ⟨?_, rfl, ?_, ?_, ?_⟩
  · intro a ha
    cases a <;> first | (simp at ha; done) | rfl | exact ⟨rfl, rfl⟩ | exact fun _ => ⟨rfl, rfl, rfl⟩
  · intro x hx
    rw [State.modOut_get, if_neg (Ne.symm hx)]
  · rw [State.modOut_get, if_pos rfl]; exact h
  · rw [State.modOut_get, if_pos rfl]; exact ht

/-- A notice is such work for every output. -/
theorem State.notify_reads (s : State) (o : Fin 6) (n : Notice) : ReadWork o s (s.notify n) :=
  ⟨(State.notify_work s n).frame, by simp [State.flashFree], fun _ _ => by rw [State.notify_outs],
    by rw [State.notify_outs], by rw [State.notify_outs]⟩

/-- A new phase of a tune record, and a notice. -/
theorem State.rephase_reads (s : State) (o : Fin 6) (t : Tuned) (p : Phase) (n : Notice) (h : (s.outs[o]).tune = some t) :
    ReadWork o s ((s.modOut o (fun x => { x with tune := some { t with phase := p } })).notify n) :=
  (State.modOut_reads s o _ rfl (by rw [h]; rfl)).trans (State.notify_reads _ o n)

theorem State.tuneDelivery_reads (s : State) (o : Fin 6) : ReadWork o s (s.tuneDelivery o) := by
  unfold State.tuneDelivery
  split
  · exact ReadWork.refl o s
  · next t ht =>
    dsimp only
    split
    · exact State.rephase_reads s o t _ _ ht
    · exact ReadWork.refl o s
    · split
      · exact State.rephase_reads s o t _ _ ht
      · exact ReadWork.refl o s

theorem State.tuneBlank_reads (s : State) (o : Fin 6) : ReadWork o s (s.tuneBlank o) := by
  unfold State.tuneBlank
  split
  · next t _ ht _ =>
    split
    · exact State.rephase_reads s o t _ _ ht
    · exact ReadWork.refl o s
  · exact ReadWork.refl o s

/-- R12: a delivery or a blank that reaches the tune record. -/
theorem State.takeRead_reads (s : State) (o : Fin 6) (e : ReadEvent) : ReadWork o s (s.takeRead o e) := by
  cases e
  · exact (State.modOut_reads s o _ rfl rfl).trans (State.tuneDelivery_reads _ o)
  · exact (State.modOut_reads s o _ rfl rfl).trans (State.tuneBlank_reads _ o)

/-- R12, R64: a judged read that is answered changes, beside what its event changes, the answers on the link alone. -/
theorem State.answerRead_reads (s : State) (o : Fin 6) (e : ReadEvent) (u : UpReq) (data : List Byte) :
    ReadWork o s (s.takeRead o e) ∧ (s.answerRead o e u data).outs = (s.takeRead o e).outs ∧
      (s.answerRead o e u data).path = { s.path with
        answers := s.path.answers ++ if u.lost then [] else [⟨u.req, data⟩] } := by
  have h := State.takeRead_reads s o e
  have hp : (s.takeRead o e).path = s.path := h.frame .path (by simp)
  refine ⟨h, State.answer_outs _ _ _, ?_⟩
  unfold State.answerRead State.answer
  split
  · rw [hp]; simp
  · simp [hp]

/-- R64: keeping a judged read changes the list of those whose responses are still to leave, and nothing else. -/
@[simp] theorem State.keepRead_path (s : State) (l : Leaving) :
    (s.keepRead l).path = { s.path with leaving := s.path.leaving ++ [l] } := rfl

theorem State.keepRead_frame (s : State) (l : Leaving) : onlyChanges [.path] s (s.keepRead l) := by
  intro a ha
  cases a <;> first | (simp at ha; done) | rfl | exact ⟨rfl, rfl⟩ | exact fun _ => ⟨rfl, rfl, rfl⟩

end Sys2Proof.Machine
end

