-- ==== Sys2Proof/Tests/Slice0.lean ====
section
/-! SUPPORT. Tests: one ill-formed term for each check of WellFormed; small one-step tests whose expected values are
computed by hand from the rules they name; and, for each statement with hypotheses, a state that meets them. -/

namespace Sys2Proof.Tests

set_option Elab.async false

open Sys2Proof Sys2Proof.Machine

/-! ### States to test on -/

/-- A configuration: capture window 0 at 1 MiB, slots at 64 KiB, report ring at 128 KiB; tag 1 views output 0, tag 2
exports output 1; profile 0 for both. -/
def cfg : Image := { Image.none with
  version := 7
  unitId := 99
  windows := #v[some ⟨0x100000, 65536⟩, none, none, none]
  msgBase := 0x10000
  repBase := 0x20000
  requesters := (Vector.replicate 16 Requester.other).set 1 (.viewer 0) |>.set 2 (.exporter 1)
  outputs := #v[⟨true, false, 0, 1⟩, ⟨true, true, 0, 2⟩, OutputCfg.none, OutputCfg.none, OutputCfg.none, OutputCfg.none]
  mitCount := 2
  mitDelay := 8
  statPeriod := 60 }

/-- The part in ACTIVE with that configuration, at part time 1,000,000 ms, everything else as at power-on. -/
def active : State := { State.reset with
  powerGood := true
  part := .active
  cfg := cfg
  ticks := ⟨1000000, 1000, none, [], []⟩
  flashPort := ⟨none, false⟩ }

/-- A tuning of service 5 on window 0 with stream 300. -/
def tuning : Tuning := ⟨5, 0, [300], true⟩

/-- A half of service 5 with EVENT criteria: event 7, minutes 100 to 160, price 400, 2 preview minutes, late discount. -/
def half : Half := ⟨0x11, 0x22, .event ⟨7, 100, 60, 400, 2, none, true⟩, some 3, .purchaseNeeded, 1, 999000⟩

/-- The part with output 0 on service 5 in context 0, an even half governing, its gate OPEN, the clock at minute 110. -/
def watching : State := { active with
  guide := { active.guide with clock := some 6600, map := [⟨5, [300], true, false, 0x0001, some 4, none⟩] }
  ctxs := active.ctxs.set 0 ⟨.active tuning, [0], some .even, some 3, some half, none⟩
  outs := active.outs.set 0 { Output.atPowerOn with
    tune := some ⟨.presenting, 5, 0, 0, 995000⟩, gate := .opened, reported := .opened
    delivery := ⟨some 999500, 4, none⟩ }
  profiles := active.profiles.set 0 { Profile.unloaded with ceiling := 15 } }

/-- A state whose record in processing is `r`, in slot 0, with its fetch in service. -/
def having (s : State) (r : Record) : State :=
  { s.dramWrite 0x10000 r with
    intake := { s.intake with taken := s.intake.taken.set 0 true, proc := some ⟨0, .fetching⟩ }
    port := { s.port with serving := some (.own ⟨.fetch 0, 0x10000, [], false⟩) } }

/-- The record at hand. -/
def atSlot (s : State) : Fetched := s.fetched.getD ⟨0, [], false⟩

/-- The header of a record of a kind code with a body length, then its body. -/
def record (kind length : Nat) (body : List Nat) : Record :=
  ([kind, 0, length, 0, 0, 0, 0, 0] ++ body).map (BitVec.ofNat 8)

/-- A state with an upstream request in service. -/
def serving (s : State) (r : Request) (k : WindowKind) : State :=
  { s with port := { s.port with serving := some (.upstream ⟨r, k, none, false⟩) } }

/-- A state with an own request in service. -/
def servingOwn (s : State) (k : OwnKind) (a : Nat) (d : List Byte) (void : Bool) : State :=
  { s with port := { s.port with serving := some (.own ⟨k, a, d, void⟩) } }

/-- A state whose flash port carries an operation. -/
def flashing (s : State) (op : FlashOp) : State := { s with flashPort := ⟨some op, false⟩ }

/-- The state that a command answers. -/
def after (c : Instr) (s : State) : State :=
  match exec c s with
  | .next t => t
  | .fault _ | .refused _ => s

/-! ### Records for the states above -/

/-- TUNE VIEW of output 0 to service 5 on window 0. -/
def viewRecord : Record := record 2 6 [0, 1, 0, 0, 0, 5]
/-- TUNE STAGE of service 5 on window 0. -/
def stageRecord : Record := record 2 6 [0, 2, 0, 0, 0, 5]
/-- RELEASE of output 0. -/
def releaseRecord (o : Nat) : Record := record 3 1 [o]
/-- BUY of event 7 on output 0 with a confirmed price of 334. -/
def buyRecord (kind length : Nat) : Record :=
  record kind length ([0, 0, 0, 0, 0, 0, 0, 7, 0, 0, 1, 78] ++ [0, 0, 0, 0, 0, 0, 0, 0])
/-- PIN of output 0 with an action, the PIN 0000 and the new PIN 1234. -/
def pinRecord (action minutes : Nat) : Record :=
  record 5 20 [0, action, 0, minutes, 48, 48, 48, 48, 0, 0, 0, 0, 49, 50, 51, 52, 0, 0, 0, 0]
/-- PROFILE of profile 0: ceiling 9, with the master PIN 0000. -/
def profileRecord : Record :=
  record 6 28 [0, 1, 9, 0, 0, 0, 0, 0, 0, 0, 0, 0, 48, 48, 48, 48, 0, 0, 0, 0, 0, 0, 0, 0, 0, 0, 0, 0]
/-- POWER with an action. -/
def powerRecord (action : Nat) : Record := record 7 1 [action]
/-- RIGHTS for unit 99, sequence 4, with one item. -/
def rightsRecord : Record := record 16 32 [1, 1, 0, 0, 0, 0, 0, 99, 0, 0, 0, 4]
/-- TIME: clock 6,601, offset 60, or an offset of 900. -/
def timeRecord (clock offset : Nat) : Record :=
  record 17 8 [0, 0, clock / 256, clock % 256, offset / 256, offset % 256, 0, 0]
/-- SERVICES with map version 9 and one REMOVE item of service 5. -/
def removeRecord (svc : Nat) : Record := record 18 8 [0, 9, 1, 0, 2, 0, svc / 256, svc % 256]
/-- SERVICES with map version 9 and one ADD item of service 6: stream 301. -/
def addRecord : Record := record 18 14 [0, 9, 1, 0, 1, 1, 0, 6, 3, 255, 0, 1, 1, 45]
/-- KEY for service 5 on window 0 with an epoch and one even FREE_TO_AIR block. -/
def keyRecord (svc epoch : Nat) : Record :=
  record 1 52 ([0, svc, 0, 1, 0, epoch] ++ List.replicate 10 0 ++ [2, 1, 0, 255, 0, 255, 0, 0] ++ List.replicate 12 0 ++
    List.replicate 15 0 ++ [34])
/-- EVENTS of service 5, section version 1, one event: id 8, minutes 200 to 230, with no title. -/
def eventsBody : List Nat := [0, 5, 1, 1, 0, 0, 0, 8, 0, 0, 0, 200, 0, 30, 255, 0, 0, 0, 0, 0]
/-- The EVENTS record with its section CRC, 8D508A42h (computed outside the model). -/
def eventsRecord : Record := record 19 24 (eventsBody ++ [0x8D, 0x50, 0x8A, 0x42])

/-- The same record for service 0, with its CRC, AF25237Fh (computed outside the model). -/
def zeroEventsRecord : Record := record 19 24 ((eventsBody.set 1 0) ++ [0xAF, 0x25, 0x23, 0x7F])

/-- The same record with a wrong CRC. -/
def badEventsRecord : Record := record 19 24 (eventsBody ++ [0x8D, 0x50, 0x8A, 0x43])

/-! ### Tools -/

/-- A command answers a next state. -/
def runs (c : Instr) (s : State) : Bool :=
  match exec c s with
  | .next _ => true
  | .fault _ | .refused _ => false

/-- A command that runs answers the state `after`. -/
theorem exec_eq_after (c : Instr) (s : State) (h : runs c s = true) : exec c s = .next (after c s) := by
  unfold runs at h
  unfold after
  cases he : exec c s with
  | next t => rfl
  | fault f => rw [he] at h; cases h
  | refused r => rw [he] at h; cases h

/-- The check that the tune record of an output agrees with its context. -/
def outputChecks (s : State) (o : Fin 6) : Bool :=
  match (s.outs[o]).tune with
  | none => true
  | some t =>
    (s.ctxs[t.context]).members.contains o &&
      match (s.ctxs[t.context]).life with
      | .active u => u.service = t.service && u.window = t.window
      | .staged _ _ | .free => false

/-- The check that a member of a context names it. -/
def memberChecks (s : State) (c : Fin 8) (o : Fin 6) : Bool :=
  match (s.outs[o]).tune with
  | none => false
  | some t => t.context = c

/-- The checks of `PoolOk`, as one value. -/
def poolChecks (s : State) : Bool :=
  (allOutputs.all (outputChecks s)) &&
    allContexts.all (fun c => (s.ctxs[c]).members.all (memberChecks s c) &&
      (!(s.ctxs[c]).isActive || !(s.ctxs[c]).members.isEmpty))

theorem poolOk_of_checks (s : State) (h : poolChecks s = true) : PoolOk s := by
  simp only [poolChecks, Bool.and_eq_true, List.all_eq_true] at h
  have ho : ∀ o : Fin 6, outputChecks s o = true := fun o => h.1 o (by fin_cases o <;> decide)
  have hc : ∀ c : Fin 8, _ := fun c => h.2 c (by fin_cases c <;> decide)
  refine ⟨?_, ?_, ?_⟩
  · intro o t ht
    have h1 := ho o
    simp only [outputChecks, ht, Bool.and_eq_true, List.contains_iff_mem] at h1
    refine ⟨h1.1, ?_⟩
    cases hl : (s.ctxs[t.context]).life with
    | active u =>
      rw [hl] at h1
      exact ⟨u, rfl, by simpa using h1.2⟩
    | staged u n => rw [hl] at h1; exact absurd h1.2 (by simp)
    | free => rw [hl] at h1; exact absurd h1.2 (by simp)
  · intro c o hm
    have h1 := (hc c).1 o hm
    simp only [memberChecks] at h1
    cases ht : (s.outs[o]).tune with
    | none => rw [ht] at h1; cases h1
    | some t => rw [ht] at h1; exact ⟨t, rfl, by simpa using h1⟩
  · intro c ha hn
    have h1 := (hc c).2
    rw [ha, hn] at h1
    cases h1

/-! ### WellFormed: one ill-formed term for each check -/

theorem test_empty_request_refused : Request.lenOk ⟨0, 0, .read 0⟩ = false ∧ Request.lenOk ⟨0, 0, .read 257⟩ = false := by
  decide

theorem test_crossing_request_refused : Request.blockOk ⟨0, 255, .read 2⟩ = false := by decide

theorem test_request_above_memory_refused : Request.addrOk ⟨0, 2 ^ 30, .read 1⟩ = false := by decide

theorem test_order_without_all_blocks_refused :
    tickOrderOk [.guide, .guide, .access, .purse] = false ∧ tickOrderOk [.guide, .access, .purse] = false := by decide

theorem test_long_remains_refused : remainsLenOk (List.replicate 4097 0) = false := by decide +kernel

theorem test_ill_formed_commands_stop :
    runs (.upstreamRequest ⟨0, 2 ^ 30, .read 1⟩) active = false ∧ runs (.upstreamRequest ⟨0, 255, .read 2⟩) active = false ∧
      runs (.minuteTick [.guide]) active = false ∧ runs (.upstreamRequest ⟨0, 2 ^ 30 - 1, .read 1⟩) active = true := by
  decide +kernel

/-! ### Small tests with expected values worked out from the rules -/

/-- R146, R138: the check values of the two CRCs over the ASCII digits 1 to 9. -/
theorem test_crc_check_values :
    crc32 ([0x31, 0x32, 0x33, 0x34, 0x35, 0x36, 0x37, 0x38, 0x39] : List Byte) = 0x0376E6E7 ∧
      crc16 ([0x31, 0x32, 0x33, 0x34, 0x35, 0x36, 0x37, 0x38, 0x39] : List Byte) = 0x29B1 := by decide +kernel

/-- R128: 10 of 60 minutes have passed of an event of price 400: 400 × 50 / 60 rounded up; in its last minute a quarter. -/
theorem test_price_falls :
    (⟨7, 100, 60, 400, 2, none, true⟩ : EventCriteria).priceAt 110 = some 334 ∧
      (⟨7, 100, 60, 400, 2, none, true⟩ : EventCriteria).priceAt 159 = some 100 ∧
      (⟨7, 100, 60, 400, 2, none, true⟩ : EventCriteria).priceAt 160 = none := by decide

/-- R11, 12.3: a blank packet has sync 47h, stream 1FFFh, parity clear, payload only. -/
theorem test_blank_packet : (packetOf ([0, 0, 0, 0] ++ blankPacket)).sync = 0x47 ∧
    (packetOf ([0, 0, 0, 0] ++ blankPacket)).stream = 0x1FFF ∧ blankPacket.length = 188 := by decide +kernel

/-- R15: 15 requests passed over leave the own head waiting, 16 do not. -/
theorem test_pass_count_of_sixteen :
    (Port.mk [⟨⟨0, 0, .read 1⟩, .plain, none, false⟩] [⟨.entry, 0, [], false⟩] 15 none).serve false =
        Port.mk [] [⟨.entry, 0, [], false⟩] 16 (some (.upstream ⟨⟨0, 0, .read 1⟩, .plain, none, false⟩)) ∧
      (Port.mk [⟨⟨0, 0, .read 1⟩, .plain, none, false⟩] [⟨.entry, 0, [], false⟩] 16 none).serve false =
        Port.mk [⟨⟨0, 0, .read 1⟩, .plain, none, false⟩] [] 0 (some (.own ⟨.entry, 0, [], false⟩)) := by decide

/-- Inputs of a VIEWER output: a guide rating, the governing half of `half` (rating 3) bought, a ceiling of 8, and an
EVENT override or none. -/
def rated (rating : Nat) (unlocked : Bool) : GateInputs :=
  ⟨false, true, true, some rating, none, some (.even, { half with verdict := .entitled }), 8, false, false, false, unlocked,
    false⟩

/-- R173, R174: a rating above the ceiling closes the gate, one at the ceiling does not, an EVENT unlock lifts it. -/
theorem test_gate_rating : (rated 9 false).value = .closed .rating ∧ (rated 8 false).value = .opened ∧
    (rated 9 true).value = .opened := by decide +kernel

/-! ### Witnesses: a state and operands that meet the hypotheses of each statement -/

/-- A read of 192 bytes of a cell. -/
def readOf (tag : Fin 16) (a n : Nat) : Request := ⟨tag, a, .read n⟩
/-- A write. -/
def writeOf (a : Nat) (d : List Nat) : Request := ⟨0, a, .write (d.map (BitVec.ofNat 8))⟩
/-- The upstream request in service. -/
def waits (r : Request) (k : WindowKind) : UpReq := ⟨r, k, none, false⟩
/-- The part in a part state. -/
def inPart (p : PartState) (s : State) : State := { s with part := p }
/-- An order of the four blocks. -/
def order : List TickBlock := [.profiles, .purse, .access, .guide]

theorem witness_StepRunsFrontCommand : ({ active with pending := [.buy, .release] } : State).pending = .buy :: [.release] :=
  rfl

/-- The part with nothing due. -/
def quiet : State := { active with
  ticks := { active.ticks with now := 1000001 }
  path := { active.path with paceWindow := 100000 }
  lamps := { active.lamps with phase := ({ active with ticks := { active.ticks with now := 1000001 } } : State).blinkLit } }

theorem witness_StepWithoutCommand :
    (State.reset.pending = [] ∧ State.reset.powerGood = false) ∧
      (active.pending = [] ∧ active.powerGood = true ∧ active.dueEvents ≠ []) ∧
      (quiet.pending = [] ∧ quiet.powerGood = true ∧ quiet.dueEvents = []) := by decide +kernel

theorem witness_ExactlyIllFormedCommandsStop (remains : List Byte) : Instr.buy ≠ .powerLoss remains := by
  intro h; cases h

theorem witness_PowerGoodStartsImageRead : State.reset.powerGood = false := rfl

/-- A purchase record of 100 that leaves a balance of 400, at place 3. -/
def purchase : JournalRecord := ⟨5, .purchase, -100, 400, 7, 160, 6600, some 0, 0, 3⟩

theorem witness_PowerLossKeepsOrTears_idle : active.powerGood = true ∧ active.flashPort.op = none ∧
    FlashOp.imageRead.range = none := by decide +kernel

theorem witness_PowerLossKeepsOrTears_torn :
    (flashing active (.program purchase)).powerGood = true ∧
      (flashing active (.program purchase)).flashPort.op = some (.program purchase) ∧
      MemoriesOk (flashing active (.program purchase)) ∧ (List.replicate 32 (0 : Byte)).length = 32 ∧
      (∃ b ∈ List.replicate 32 (0 : Byte), b ≠ 0xFF) ∧ journalRecordOf (List.replicate 32 0) purchase.place = none := by
  unfold MemoriesOk; decide +kernel

theorem witness_LinkResetClearsLinkState : active.powerGood = true ∧ (inPart .start active).part = .start ∧
    (inPart .fault active).part = .fault ∧ (inPart .mounting active).part.running = true ∧
    (inPart .active active).part.running = true ∧ (inPart .standby active).part.running = true := by decide +kernel

/-- Slot 3 in fetch, and an export read held for pacing. -/
def resetting : State := { active with
  intake := { active.intake with taken := active.intake.taken.set 3 true, proc := some ⟨3, .fetching⟩ }
  path := { active.path with paceHeld := [⟨readOf 2 0x100000 192, .capture 0, some 0, false⟩] }
  port := { active.port with serving := some (.own ⟨.fetch 3, 0x10300, [], false⟩) } }

/-- R34, R14, R192: the record goes on detached or is gone; the held read is a blank counted for output 1; the control block
and READY are issued. -/
theorem witness_LinkResetClearsLinkState_record : resetting.fetched.isSome = true ∧
    (resetting.boundOutput 2 = some 1 ∧ (resetting.outCfg 1).enabled = true) ∧
    ((after (.linkReset true) resetting).intake.proc.map (·.slot) = some 3 ∧
      (after (.linkReset false) resetting).intake.proc = none) ∧
    (after (.linkReset true) resetting).path.answers =
      [⟨readOf 2 0x100000 192, List.replicate 4 0xFF ++ blankPacket⟩] ∧
    ((after (.linkReset true) resetting).outs[1]).counters = ⟨0, 0, 1, 0, 0, 0⟩ ∧
    (after (.linkReset true) resetting).port.ownAll.map (·.what) = [.controlBlock, .entry, .publish 1] := by decide +kernel

/-- A configuration image: message window at 64 KiB, report window at 128 KiB, no capture window, tags of class OTHER,
every other byte FFh, its CRC-32 393C7A1Eh (computed outside the model). -/
def imaged : State :=
  { (((((({ State.reset with powerGood := true, flashPort := ⟨some .imageRead, true⟩ } : State).flashWrite 16 [0]).flashWrite
    28 [0]).flashWrite 40 [0]).flashWrite 52 [0]).flashWrite 64 [0, 1, 0, 0, 0, 2, 0, 0]) with part := .start }

set_option maxRecDepth 20000 in
theorem witness_ImageReadMountsOrFaults_good :
    (imaged.flashWrite 508 [0x39, 0x3C, 0x7A, 0x1E]).flashPort.op = some .imageRead ∧
      (∀ n : Fin 256, (imaged.flashWrite 508 [0x39, 0x3C, 0x7A, 0x1E]).intake.taken[n] = false) ∧
      imageGood (imaged.flashWrite 508 [0x39, 0x3C, 0x7A, 0x1E]).imageBytes = true := by decide +kernel

set_option maxRecDepth 20000 in
theorem witness_ImageReadMountsOrFaults_bad : imaged.flashPort.op = some .imageRead ∧
    (∀ n : Fin 256, imaged.intake.taken[n] = false) ∧ imageGood imaged.imageBytes = false := by decide +kernel

theorem witness_PowerRecordsMoveBetweenActiveAndStandby (p : PartState) (h : p = .active ∨ p = .standby) :
    (atHand (having (inPart p active) (powerRecord 1)) .power (atSlot (having (inPart p active) (powerRecord 1))) ∧
      (atSlot (having (inPart p active) (powerRecord 1))).bytes.b1 0 = 1) ∧
    (atHand (having (inPart p active) (powerRecord 2)) .power (atSlot (having (inPart p active) (powerRecord 2))) ∧
      (atSlot (having (inPart p active) (powerRecord 2))).bytes.b1 0 = 2) := by
  rcases h with rfl | rfl <;> (unfold atHand; decide +kernel)

theorem witness_RequestsAreHeldOrPresented :
    (writeOf 0x10000 [1]).wf = true ∧ (readOf 1 0x3FFFFF00 256).wf = true ∧ active.powerGood = true ∧
      (inPart .standby active).part.running = true ∧
      (having active (releaseRecord 0)).classify (writeOf 0x10000 [1]).addr = .message ∧
      isWrite (writeOf 0x10000 [1]) = true ∧
      (having active (releaseRecord 0)).intake.taken[(having active (releaseRecord 0)).slotOf 0x10000] = true := by
  decide +kernel

theorem witness_PassedRequestsReadAndWriteMemory :
    MemoriesOk (serving active (writeOf 0x500 [1, 2]) .plain) ∧
      (serving active (writeOf 0x500 [1, 2]) .plain).servingUp = some (waits (writeOf 0x500 [1, 2]) .plain) ∧
      (serving active (writeOf 0x500 [1, 2]) .plain).completionOf (waits (writeOf 0x500 [1, 2]) .plain) = .pass ∧
      (serving active (readOf 3 0x10000 20) .message).completionOf (waits (readOf 3 0x10000 20) .message) = .pass := by
  unfold MemoriesOk; decide +kernel

theorem witness_RingsFollowArrivals_arrival :
    MemoriesOk (serving active (writeOf 0x100000 [0, 0, 0, 0, 0x47]) (.capture 0)) ∧
      (serving active (writeOf 0x100000 [0, 0, 0, 0, 0x47]) (.capture 0)).servingUp =
        some (waits (writeOf 0x100000 [0, 0, 0, 0, 0x47]) (.capture 0)) ∧
      active.completionOf (waits (writeOf 0x100000 [0, 0, 0, 0, 0x47]) (.capture 0)) = .arrival 0 true ∧
      active.completionOf (waits (writeOf 0x100000 [0, 0, 0, 0, 0x46]) (.capture 0)) = .arrival 0 false := by
  unfold MemoriesOk; decide +kernel

/-- Window 0 LIVE, its last good arrival exactly 1,000 ms ago. -/
def fading : State :=
  { active with path := { active.path with rings := active.path.rings.set 0 ⟨.live, 2, some 999000, 4, 0, 0⟩ } }

theorem witness_RingsFollowArrivals_silence : fading.silenceDue 0 = true := by decide +kernel

/-- The cell of window 0 with a packet of stream 300 and a header byte 3. -/
def cellBytes (header3 : Byte) : List Byte := [1, 2, 3, 4, 0x47, 0x01, 0x2C, header3] ++ List.replicate 184 0xAA

/-- Output 0 presents stream 300 from that cell. -/
def showing (header3 : Byte) : State :=
  serving (watching.dramWrite 0x100000 (cellBytes header3)) (readOf 1 0x100000 192) (.capture 0)

/-- The same with the gate CLOSED. -/
def shut : State :=
  { showing 0x90 with outs := watching.outs.set 0 { watching.outs[0] with gate := .closed .hours, reported := .closed .hours } }

theorem witness_ClosedGateGivesBlankPackets :
    (shut.servingUp = some (waits (readOf 1 0x100000 192) (.capture 0)) ∧
      shut.completionOf (waits (readOf 1 0x100000 192) (.capture 0)) = .cell 0 0 ∧
      wholeRead (readOf 1 0x100000 192) = true ∧ shut.paceFull 0 = false ∧
      ((after (.cellRead (.whole .clean)) shut).outs[0]).gate ≠ .opened) ∧
    exec (.cellRead (.whole .clean)) shut = .next (after (.cellRead (.whole .clean)) shut) :=
  ⟨by decide +kernel, exec_eq_after _ _ (by decide +kernel)⟩

/-- Output 0 of `watching` reads that cell with another stream number, packet parity and gate. -/
def judging (stream header3 : Byte) (parity : HalfParity) (g : Gate) : State :=
  { serving (watching.dramWrite 0x100000 ((cellBytes header3).set 6 stream)) (readOf 1 0x100000 192) (.capture 0) with
    ctxs := watching.ctxs.set 0 { watching.ctxs[0] with parity := some parity }
    outs := watching.outs.set 0 { watching.outs[0] with gate := g, reported := g } }

/-- The last blank reason of output 0 once its read has been taken. -/
def blankOf (s : State) : Option BlankReason := ((after (.cellRead (.whole .clean)) s).outs[0]).delivery.lastBlank

/-- R8 to R12: a read with each blank reason; stream 301 is not listed, 300 (low byte 2Ch) is. -/
theorem witness_ClosedGateGivesBlankPackets_reasons :
    blankOf { judging 0x2C 0x10 .even .opened with outs := active.outs } = some .idle ∧
      blankOf (serving (watching.dramWrite 0x100000 (zeros 192)) (readOf 1 0x100000 192) (.capture 0)) = some .otherStream ∧
      blankOf (judging 0x2D 0x90 .even .opened) = some .otherStream ∧
      blankOf (judging 0x2D 0x10 .even (.closed .hours)) = some .gate ∧
      blankOf (judging 0x2C 0x50 .even .opened) = some .otherStream ∧
      blankOf (judging 0x2C 0x10 .even (.closed .hours)) = some .gate ∧
      blankOf (judging 0x2C 0x90 .even (.closed .hours)) = some .gate ∧
      blankOf (judging 0x2C 0xD0 .odd .opened) = some .noKey := by decide +kernel

theorem witness_CellReadsDeliverOrWait_partial_held :
    wholeRead (readOf 1 0x100000 191) = false ∧ wholeRead (readOf 1 0x100001 192) = false ∧
      (serving active (readOf 1 0x100000 191) (.capture 0)).completionOf (waits (readOf 1 0x100000 191) (.capture 0)) =
        .cell 0 0 ∧
      (serving active (readOf 2 0x100000 192) (.capture 0)).completionOf (waits (readOf 2 0x100000 192) (.capture 0)) =
        .cell 0 1 ∧
      wholeRead (readOf 2 0x100000 192) = true ∧
      ({ active with outs := active.outs.set 1 { Output.atPowerOn with pace := 2 } } : State).paceFull 1 = true := by
  decide +kernel

theorem witness_CellReadsDeliverOrWait_delivery :
    (showing 0x10).servingUp = some (waits (readOf 1 0x100000 192) (.capture 0)) ∧
      (showing 0x10).completionOf (waits (readOf 1 0x100000 192) (.capture 0)) = .cell 0 0 ∧
      (showing 0x10).paceFull 0 = false ∧
      ((showing 0x10).outs[0]).tune = some ⟨.presenting, 5, 0, 0, 995000⟩ ∧ ((showing 0x10).outs[0]).gate = .opened ∧
      (packetOf (cellBytes 0x10)).malformed = false ∧ ((showing 0x10).ctxs[0]).lists 300 = true ∧
      (packetOf (cellBytes 0x10)).stream = 300 ∧ (packetOf (cellBytes 0x10)).parity = .clear ∧
      (showing 0x10).dramRead 0x100000 192 = cellBytes 0x10 ∧
      (packetOf (cellBytes 0x90)).parity = .scrambled .even ∧ ((showing 0x90).ctxs[0]).parity = some .even ∧
      ((showing 0x90).ctxs[0]).half .even = some half := by decide +kernel

/-- R9, R91: a packet of odd parity flips the even context first. R97: an uncorrectable half is discarded. -/
theorem witness_CellReadsDeliverOrWait_flip_fault :
    ((packetOf (cellBytes 0xD0)).parity = .scrambled .odd ∧ ((showing 0xD0).ctxs[0]).parity ≠ some .odd ∧
      after (.cellRead (.whole .clean)) (showing 0xD0) =
        after (.cellRead (.whole .clean)) ((showing 0xD0).flipParity 0 .odd) ∧
      ((after (.cellRead (.whole .clean)) (showing 0xD0)).ctxs[0]).parity = some .odd) ∧
    (((after (.cellRead (.whole .uncorrectable)) (showing 0x90)).ctxs[0]).half .even = none ∧
      ((after (.cellRead (.whole .uncorrectable)) (showing 0x90)).outs[0]).delivery.lastBlank = some .noKey) ∧
    (watching.ctxs[0]).tuning = some tuning := by decide +kernel

/-- A state with one judged read of output 0 whose response is still to leave. -/
def owing (s : State) (e : ReadEvent) : State :=
  { s with path := { s.path with leaving := [⟨0, e, waits (readOf 1 0x100000 192) (.capture 0), cellBytes 0x10⟩] } }

/-- R12, R64: a judged delivery waits, and is taken when its response leaves. -/
theorem witness_CellReadsDeliverOrWait_judged :
    ((after (.cellRead (.judged .clean)) (showing 0x10)).path.leaving = (owing watching .delivery).path.leaving ∧
      ((after (.cellRead (.judged .clean)) (showing 0x10)).outs[0]).delivery = (watching.outs[0]).delivery) ∧
    (owing watching .delivery).path.leaving[0]? =
      some ⟨0, .delivery, waits (readOf 1 0x100000 192) (.capture 0), cellBytes 0x10⟩ ∧
    ((after (.cellRead (.answered 0)) (owing watching .delivery)).outs[0]).delivery = ⟨some 1000000, 5, none⟩ ∧
    (after (.cellRead (.answered 0)) (owing watching .delivery)).path.leaving = [] := by decide +kernel

theorem witness_PaceWindowPresentsHeldReads : ({ active with
    path := { active.path with paceHeld := [waits (readOf 2 0x100000 192) (.capture 0)] } } : State).paceDue = true := by
  decide +kernel

theorem witness_OwnRequestsComplete :
    MemoriesOk (servingOwn active .entry 0x20040 [1] false) ∧
      (servingOwn active .entry 0x20040 [1] false).servingOwn = some ⟨.entry, 0x20040, [1], false⟩ ∧
      OwnKind.entry.plain = true ∧
      (servingOwn active .controlBlock 0x20000 (zeros 64) false).servingOwn =
        some ⟨.controlBlock, 0x20000, zeros 64, false⟩ ∧
      (servingOwn active (.fetch 3) 0x10300 [] true).servingOwn = some ⟨.fetch 3, 0x10300, [], true⟩ := by
  unfold MemoriesOk; decide +kernel

/-- A record in processing in slot 3. -/
def processing : State := { active with intake := { active.intake with
  taken := active.intake.taken.set 3 true, proc := some ⟨3, .fetching⟩ } }

theorem witness_HeaderWriteTakesSlot :
    MemoriesOk (serving active (writeOf 0x10500 [0x11]) .message) ∧
      (serving active (writeOf 0x10500 [0x11]) .message).servingUp = some (waits (writeOf 0x10500 [0x11]) .message) ∧
      (serving active (writeOf 0x10500 [0x11]) .message).completionOf (waits (writeOf 0x10500 [0x11]) .message) =
        .take 5 0x11 ∧
      (serving processing (writeOf 0x10500 [1]) .message).completionOf (waits (writeOf 0x10500 [1]) .message) =
        .take 5 1 ∧
      processing.intake.proc ≠ none ∧ active.intake.proc = none ∧ active.intake.urgent = [] ∧ active.intake.bulk = [] := by
  unfold MemoriesOk; decide +kernel

/-- The outcome write of slot 3 in service, with slots in the two queues and a streak. -/
def finishing (urgent bulk : List (Fin 256)) (streak : Nat) (void : Bool) : State :=
  servingOwn { processing with intake := { processing.intake with
    proc := some ⟨3, .decided⟩, urgent := urgent, bulk := bulk, streak := streak } } (.outcome 3) 0x10303 (zeros 5) void

theorem witness_OutcomeWriteFreesSlotAndSelects :
    MemoriesOk (finishing [7] [8] 3 false) ∧
      (finishing [7] [8] 3 false).servingOwn = some ⟨.outcome 3, 0x10303, zeros 5, false⟩ ∧
      (finishing [7] [8] 3 true).servingOwn = some ⟨.outcome 3, 0x10303, zeros 5, true⟩ ∧
      ((finishing [7] [8] 3 false).intake.urgent = 7 :: [] ∧ (finishing [7] [8] 3 false).intake.streak < 4) ∧
      ((finishing [7] [8] 4 false).intake.bulk = 8 :: [] ∧ 4 ≤ (finishing [7] [8] 4 false).intake.streak) ∧
      ((finishing [] [] 4 false).intake.urgent = [] ∧ (finishing [] [] 4 false).intake.bulk = []) := by
  unfold MemoriesOk; decide +kernel

/-- A record is at hand, as the first clauses of RecordAnswersAndRefusals ask. -/
def attachedKind (s : State) (k : Option Kind) : Bool :=
  match s.fetched with
  | none => false
  | some f => f.attached && f.bytes.kind = k

theorem witness_RecordAnswersAndRefusals_screened :
    attachedKind (having active (record 0x55 0 [])) none = true ∧
      attachedKind (having active (buyRecord 4 21)) (some .buy) = true ∧
      (atSlot (having active (buyRecord 4 21))).bytes.lengthOk .buy = false ∧
      (atSlot (having active (buyRecord 4 20))).bytes.lengthOk .buy = true ∧
      attachedKind (having (inPart .mounting active) (buyRecord 4 20)) (some .buy) = true ∧
      attachedKind (having (inPart .standby active) (buyRecord 4 20)) (some .buy) = true := by decide +kernel

theorem witness_RecordAnswersAndRefusals_key :
    atHand (having watching (keyRecord 5 2)) .key (atSlot (having watching (keyRecord 5 2))) ∧
      keyChecks true (atSlot (having watching (keyRecord 5 2))).bytes = none ∧
      (having watching (keyRecord 9 2)).findContext 9 0 = none ∧
      (having watching (keyRecord 5 2)).findContext 5 0 = some 0 ∧
      ((having watching (keyRecord 5 2)).ctxs[0]).epoch = some 3 ∧ 32768 ≤ (2 + 65536 - 3) % 65536 := by
  unfold atHand; decide +kernel

theorem witness_RecordAnswersAndRefusals_others :
    (atHand (having active rightsRecord) .rights (atSlot (having active rightsRecord)) ∧
      (having active rightsRecord).rightsCheck false ((atSlot (having active rightsRecord)).bytes.rightsOp []) ≠ none) ∧
    (atHand (having active badEventsRecord) .events (atSlot (having active badEventsRecord)) ∧
      (atSlot (having active badEventsRecord)).bytes.sectionCrc ≠
        crc32 (atSlot (having active badEventsRecord)).bytes.sectionBytes) ∧
    (atHand (having active (record 18 8 [0, 9, 1, 0, 3, 0, 0, 5])) .services
        (atSlot (having active (record 18 8 [0, 9, 1, 0, 3, 0, 0, 5]))) ∨
      atHand (having active (record 18 14 [0, 9, 1, 0, 1, 1, 0, 6, 3, 16, 0, 1, 1, 45])) .services
        (atSlot (having active (record 18 14 [0, 9, 1, 0, 1, 1, 0, 6, 3, 16, 0, 1, 1, 45]))) ∧
      (atSlot (having active (record 18 14 [0, 9, 1, 0, 1, 1, 0, 6, 3, 16, 0, 1, 1, 45]))).bytes.serviceItems.all
        ServiceItem.ok = false) := by
  unfold atHand; decide +kernel

/-- `watching` with section version 1 stored for service 5. -/
def versioned : State := { watching with
  guide := { watching.guide with map := [⟨5, [300], true, false, 0x0001, some 4, some 1⟩] } }

theorem witness_RecordAnswersAndRefusals_events :
    (∀ s ∈ [having versioned eventsRecord, having active eventsRecord],
      atHand s .events (atSlot s) ∧ (atSlot s).bytes.sectionCrc = crc32 (atSlot s).bytes.sectionBytes ∧
        (atSlot s).bytes.b2 0 = 5 ∧ (atSlot s).bytes.b1 2 = 1 ∧
        (atSlot s).bytes.sectionEvents.all SectionEvent.ok = true) ∧
    versioned.guide.entry 5 = some ⟨5, [300], true, false, 0x0001, some 4, some 1⟩ ∧ active.guide.entry 5 = none ∧
    atHand (having active zeroEventsRecord) .events (atSlot (having active zeroEventsRecord)) ∧
    (atSlot (having active zeroEventsRecord)).bytes.sectionCrc =
      crc32 (atSlot (having active zeroEventsRecord)).bytes.sectionBytes ∧
    (atSlot (having active zeroEventsRecord)).bytes.b2 0 < 1 := by
  unfold atHand; decide +kernel

/-- A record that a link reset detached with its fetch complete. -/
def detached (r : Record) : State :=
  { inPart .standby active with intake := { active.intake with proc := some ⟨0, .detached r⟩ } }

theorem witness_RecordAnswersAndRefusals_detached :
    (∀ r ∈ [record 0x55 0 [], buyRecord 4 21, powerRecord 2], (detached r).fetched = some ⟨0, r, false⟩) ∧
      Record.kind (record 0x55 0 []) = none ∧ Record.kind (buyRecord 4 21) = some .buy ∧
      Record.lengthOk (buyRecord 4 21) .buy = false ∧ Record.kind (powerRecord 2) = some .power ∧
      Record.lengthOk (powerRecord 2) .power = true ∧ Record.b1 (powerRecord 2) 0 = 2 := by decide +kernel

/-- The fetch of slot 0 at the head of the own FIFO, 16 times passed over, with a write to a slot waiting. -/
def fetching (a : Nat) : State := { active with
  port := ⟨[waits (writeOf a [1]) .message], [⟨.fetch 0, 0x10000, [], false⟩], 16, none⟩ }

/-- R34, R26: after a detached record the next one is selected. -/
theorem test_detached_selects :
    (after .powerWake { detached (powerRecord 2) with intake :=
      { (detached (powerRecord 2)).intake with urgent := [4], bulk := [5], streak := 4 } }).intake.proc =
        some ⟨5, .fetching⟩ := by decide +kernel

theorem witness_RecordAnswersAndRefusals_fetch :
    (fetching 0x10001).slotOf 0x10001 = 0 ∧ (fetching 0x10100).slotOf 0x10100 = 1 ∧
      (fetching 0x10001).serveDram.port.serving = some (.upstream (waits (writeOf 0x10001 [1]) .message)) ∧
      (fetching 0x10100).serveDram.port.serving = some (.own ⟨.fetch 0, 0x10000, [], false⟩) := by decide +kernel

theorem witness_TimeRecordSetsClock :
    tickOrderOk order = true ∧
      atHand (having watching (timeRecord 6601 0)) .time (atSlot (having watching (timeRecord 6601 0))) ∧
      signedField (atSlot (having watching (timeRecord 6601 840))).bytes 12 2 = 840 ∧
      signedField (atSlot (having watching (timeRecord 6601 841))).bytes 12 2 = 841 ∧
      signedField (atSlot (having watching (timeRecord 6601 64816))).bytes 12 2 = -720 ∧
      watching.guide.clock = some 6600 ∧ 6600 / 60 = 6601 / 60 ∧ watching.guide.offset = 0 ∧
      (atSlot (having watching (timeRecord 6901 0))).bytes.b4 0 = 6901 ∧ 300 < (6901 : Int) - 6600 := by
  unfold atHand; decide +kernel

/-- R40: a first setting of the clock, another minute and another offset do the work of a minute tick: event 8 of service 5
ended an hour ago. -/
theorem witness_TimeRecordSetsClock_tick :
    (active.guide.clock = none ∧ watching.guide.clock = some 6600 ∧ 6600 / 60 ≠ 6661 / 60 ∧ watching.guide.offset ≠ 60) ∧
      (after (.time order) (having { watching with guide := { watching.guide with
        pool := [⟨5, 8, 1, 50, none⟩] } } (timeRecord 6661 0))).guide.pool = [] ∧
      (after (.time order) (having { watching with guide := { watching.guide with
        pool := [⟨5, 8, 1, 50, none⟩] } } (timeRecord 6601 0))).guide.pool ≠ [] := by decide +kernel

/-- A second is due; the governing half of event 7 is in PREVIEW, with 119 of its 120 seconds used. -/
def nearEnd : State := { watching with
  ticks := { watching.ticks with seconds := 999 }
  access := ⟨[⟨7, 119, 160⟩], []⟩
  ctxs := watching.ctxs.set 0 ⟨.active tuning, [0], some .even, some 3, some { half with verdict := .preview }, none⟩ }

/-- R124: at the 120th second the exhaustion of event 7 falls due. -/
theorem witness_SecondTickAdvancesClockAndMeters :
    nearEnd.secondDue = true ∧ nearEnd.previewing 7 = true ∧
      (after .oneSecondTick nearEnd).ticks.exhaustDue = [7] ∧
      (after .oneSecondTick { nearEnd with access := ⟨[⟨7, 118, 160⟩], []⟩ }).ticks.exhaustDue = [] := by decide +kernel

theorem witness_MinuteTickAgesAndReports : tickOrderOk order = true ∧
    ({ watching with ticks := { watching.ticks with minuteDue := some [] } } : State).ticks.minuteDue = some [] := by
  decide +kernel

/-- A minute tick is due; the budget date was yesterday's, profile 0 has reached its budget, output 0 is CLOSED for it. -/
def newDay : State := { watching with
  ticks := { watching.ticks with minuteDue := some [] }
  guide := { watching.guide with budgetDate := some (-1) }
  access := ⟨[⟨9, 5, 50⟩, ⟨10, 5, 51⟩], []⟩
  outs := watching.outs.set 0 { watching.outs[0] with gate := .closed .budget, reported := .closed .budget }
  profiles := watching.profiles.set 0 { watching.profiles[0] with budget := some 5, minutesUsed := 7, warned := true } }

/-- R41, R167, R122, R118, R135: the counts of the day are 0, the entry that ended at minute 50 has aged at minute 110 and
the one of 51 has not, event 7 is previewed, and the gate is OPEN. -/
theorem witness_MinuteTickAgesAndReports_day :
    newDay.part.mounted = true ∧ newDay.guide.budgetDate = some (-1) ∧ newDay.guide.localDate = some 0 ∧
      (newDay.access.previews.map (·.event)).Nodup ∧ (newDay.outs[0]).offer = none ∧
      (after (.minuteTick order) newDay).guide.budgetDate = some 0 ∧
      ((after (.minuteTick order) newDay).profiles[0]).minutesUsed = 0 ∧
      (after (.minuteTick order) newDay).access.previews = [⟨10, 5, 51⟩, ⟨7, 0, 160⟩] ∧
      ((after (.minuteTick order) newDay).outs[0]).gate = .opened := by decide +kernel

/-- The preview minutes of event 7 are used up, and an offer of it stands at an old price. -/
def repricing : State := { newDay with
  access := ⟨[⟨7, 120, 160⟩], []⟩
  outs := watching.outs.set 0
    { watching.outs[0] with gate := .closed .purchase, reported := .closed .purchase, offer := some ⟨7, 400⟩ } }

theorem witness_MinuteTickAgesAndReports_offer : (repricing.outs[0]).tune ≠ none ∧
    (repricing.outs[0]).gate = .closed .purchase ∧
    ((after (.minuteTick order) repricing).outs[0]).gate = .closed .purchase ∧
    ((after (.minuteTick order) repricing).outs[0]).offer = some ⟨7, 334⟩ := by decide +kernel

theorem witness_MinuteTickAgesAndReports_pool : PoolOk newDay := poolOk_of_checks _ (by decide +kernel)

/-- R53, R167: the inputs of the gate of output 0 that move at this tick. -/
theorem witness_MinuteTickAgesAndReports_moves :
    tickMoves [⟨5, some (7, none)⟩] newDay (after (.minuteTick order) newDay) 0 :=
  ⟨_, _, rfl, rfl, Or.inr (Or.inl ⟨⟨5, some (7, none)⟩, by decide, rfl, by decide +kernel⟩)⟩

/-- R144: the target's sector 1 passes with no record in it, so a tick makes it WAITING and its erase starts (R137). -/
theorem test_tick_retries_target :
    (after (.minuteTick order) { newDay with purse := { newDay.purse with target := some ⟨1, false⟩ } }).flashPort.op =
      some (.erase 1) := by decide +kernel

theorem witness_ServicesRecordUpdatesMap :
    (atHand (having watching (removeRecord 5)) .services (atSlot (having watching (removeRecord 5))) ∧
      (atSlot (having watching (removeRecord 5))).bytes.serviceItems = [.remove 5] ∧
      (atSlot (having watching (removeRecord 5))).bytes.serviceItems.all ServiceItem.ok = true) ∧
    (atHand (having watching addRecord) .services (atSlot (having watching addRecord)) ∧
      (atSlot (having watching addRecord)).bytes.serviceItems = [.add ⟨6, [301], true, true, 1, none, none⟩] ∧
      (having watching addRecord).guide.map.length < 512 ∧
      (atSlot (having watching addRecord)).bytes.serviceItems.all ServiceItem.ok = true) ∧
    (watching.ctxs[0]).tuning = some tuning ∧ (∃ e : MapEntry, watching.guide.entry 5 = some e) ∧
    (∀ c : Fin 8, (active.ctxs[c]).tuning = none) := by
  refine ⟨?_, ?_, by decide +kernel, ⟨_, rfl⟩, by decide +kernel⟩ <;> (unfold atHand; decide +kernel)

/-- R46: output 0 is a member of the touched service's context, and none of the record that touches service 6. -/
theorem witness_ServicesRecordUpdatesMap_gates :
    memberOfService (serviceTouched [.remove 5] 1 watching) (after .services (having watching (removeRecord 5))) 0 :=
  ⟨0, tuning, by decide +kernel, by decide +kernel, Or.inr ⟨by decide, by decide +kernel⟩⟩

/-- R45: the entry of a removed service is retained while a context runs it. -/
theorem test_remove_retains : (after .services (having watching (removeRecord 5))).guide.retained =
    [⟨5, [300], true, false, 0x0001, some 4, none⟩] := by decide +kernel

theorem witness_EventsRecordFillsPool :
    atHand (having watching eventsRecord) .events (atSlot (having watching eventsRecord)) ∧
      (having watching eventsRecord).eventsCheck (atSlot (having watching eventsRecord)).bytes = none ∧
      (atSlot (having watching eventsRecord)).bytes.sectionEvents.map (·.event) = [⟨5, 8, 200, 30, none⟩] ∧
      watching.guide.nowMinute = some 110 ∧ 110 < 200 + 30 + 60 ∧ watching.guide.pool.length < 4096 := by
  unfold atHand; decide +kernel

/-- R53: at minute 210 the stored event becomes the current one of service 5, whose member is output 0. -/
theorem witness_EventsRecordFillsPool_gates (s : State)
    (h : s = having { watching with guide := { watching.guide with clock := some 12600 } } eventsRecord) :
    memberOfService (currentChanged s (after .events s)) (after .events s) 0 := by
  subst h
  exact ⟨0, tuning, by decide +kernel, by decide +kernel, by unfold currentChanged; decide +kernel⟩

theorem witness_StoringKeepsPoolDisjoint :
    ([⟨5, 7, 100, 60, none⟩, ⟨5, 8, 160, 30, none⟩] : List GuideEvent).Pairwise (fun x y => x.yields y = false) ∧
      ([⟨5, 7, 100, 60, none⟩, ⟨5, 8, 160, 30, none⟩] : List GuideEvent).length ≤ 4096 := by decide +kernel

/-- `watching` with service 6 in the map too. -/
def offering : State := { watching with guide := { watching.guide with
  map := watching.guide.map ++ [⟨6, [301], true, true, 0xFFFF, none, none⟩] } }

/-- TUNE of output 0 with a purpose, to a service on window 0. -/
def tuneRecord (purpose svc : Nat) : Record := record 2 6 [0, purpose, 0, 0, 0, svc]

/-- The checks of a TUNE record pass with a service and window 0. -/
def tuneAccepts (s : State) (svc : Nat) : Bool :=
  match s.tuneChecks (atSlot s).bytes.tuneOp with
  | .ok (e, w) => e.service = svc && w = 0
  | .error _ => false

theorem witness_ViewObtainsContext :
    PoolOk (having offering (tuneRecord 1 6)) ∧
    (atHand (having offering (tuneRecord 1 6)) .tune (atSlot (having offering (tuneRecord 1 6))) ∧
      (atSlot (having offering (tuneRecord 1 6))).bytes.tuneOp.purpose = 1 ∧
      outputOf (atSlot (having offering (tuneRecord 1 6))).bytes.tuneOp.output = some 0 ∧
      tuneAccepts (having offering (tuneRecord 1 6)) 6 = true ∧ tuneAccepts (having offering (tuneRecord 1 5)) 5 = true ∧
      ((having offering (tuneRecord 1 6)).outs[0]).tune = some ⟨.presenting, 5, 0, 0, 995000⟩) :=
  ⟨poolOk_of_checks _ (by decide +kernel), by unfold atHand; decide +kernel⟩

/-- R62: service 6 finds no context, service 5 its own. -/
theorem witness_ViewObtainsContext_cases :
    (having offering (tuneRecord 1 6)).findContext 6 0 = none ∧
      (having offering (tuneRecord 1 5)).findContext 5 0 = some 0 := by decide +kernel

/-- R64: a read judged before a RELEASE and a VIEW, answered after them, is an event of the new SEEKING state, also one
judged while the output was IDLE. -/
theorem test_read_answered_after_view :
    (((after (.cellRead (.answered 0)) (after .tuneView (owing (having offering (tuneRecord 1 6)) .delivery))).outs[0]).tune =
        some ⟨.presenting, 6, 0, 1, 1000000⟩) ∧
      ((after (.cellRead (.answered 0))
        (after .tuneView (owing (having { offering with outs := active.outs, ctxs := active.ctxs } (tuneRecord 1 6))
          (.blank .idle)))).outs[0]).delivery = ⟨none, 0, some .idle⟩ := by decide +kernel

theorem witness_StagePreparesContext :
    PoolOk (having offering (tuneRecord 2 6)) ∧
    (atHand (having offering (tuneRecord 2 6)) .tune (atSlot (having offering (tuneRecord 2 6))) ∧
      (atSlot (having offering (tuneRecord 2 6))).bytes.tuneOp.purpose = 2 ∧
      tuneAccepts (having offering (tuneRecord 2 6)) 6 = true) :=
  ⟨poolOk_of_checks _ (by decide +kernel), by unfold atHand; decide +kernel⟩

/-- Context 0 ACTIVE and every other STAGED, context 4 the longest. -/
def crowded : State := { offering with ctxs := Vector.ofFn (fun c : Fin 8 => if c = 0 then watching.ctxs[0] else
  { Context.free with life := .staged ⟨20 + c.val, 0, [], true⟩ (if c = 4 ∨ c = 6 then 990000 else 991000) }) }

/-- R63, R67: service 6 has no context: the lowest FREE one is taken, or the oldest STAGED one; service 5 has its own. -/
theorem witness_StagePreparesContext_cases :
    ((having offering (tuneRecord 2 6)).findContext 6 0 = none ∧ (having offering (tuneRecord 2 5)).findContext 5 0 = some 0 ∧
      (having crowded (tuneRecord 2 6)).findContext 6 0 = none ∧ ∀ d : Fin 8, (crowded.ctxs[d]).isFree = false) ∧
    ((after .tuneStage (having offering (tuneRecord 2 6))).ctxs[1]).life = .staged ⟨6, 0, [301], true⟩ 1000000 ∧
    ((after .tuneStage (having crowded (tuneRecord 2 6))).ctxs[4]).life = .staged ⟨6, 0, [301], true⟩ 1000000 := by
  decide +kernel

theorem witness_ReleaseMakesOutputIdle :
    (∀ o ∈ [0, 1, 2, 5, 6], atHand (having watching (releaseRecord o)) .release (atSlot (having watching (releaseRecord o)))) ∧
      outputOf 6 = none ∧ outputOf 5 = some 5 ∧ (watching.outCfg 2).enabled = false ∧
      (watching.outCfg 1).enabled = true ∧ (watching.outs[1]).tune = none ∧ (watching.outCfg 0).enabled = true ∧
      (watching.outs[0]).tune = some ⟨.presenting, 5, 0, 0, 995000⟩ := by
  unfold atHand; decide +kernel

/-- Output 0 seeking, its key-wait at its end; context 1 STAGED 60,000 ms ago. -/
def overdue : State := { watching with
  outs := watching.outs.set 0 { watching.outs[0] with tune := some ⟨.seeking 1000000, 5, 0, 0, 997000⟩ }
  ctxs := watching.ctxs.set 1 { Context.free with life := .staged ⟨6, 0, [301], true⟩ 940000 } }

theorem witness_KeyWaitStallsAndStagedLifetimeFrees :
    ((overdue.outs[0]).tune = some ⟨.seeking 1000000, 5, 0, 0, 997000⟩ ∧ overdue.keyWaitDue 0 = true) ∧
      ((overdue.ctxs[1]).life = .staged ⟨6, 0, [301], true⟩ 940000 ∧ overdue.running = true ∧
        940000 + 60000 ≤ overdue.ticks.now) := by decide +kernel

theorem witness_KeyRecordLoadsOrRefreshes :
    (∀ epoch ∈ [4, 3], atHand (having watching (keyRecord 5 epoch)) .key (atSlot (having watching (keyRecord 5 epoch))) ∧
      keyChecks true (atSlot (having watching (keyRecord 5 epoch))).bytes = none ∧
      (having watching (keyRecord 5 epoch)).findContext 5 0 = some 0) ∧
    (watching.ctxs[0]).epoch = some 3 ∧ (1 ≤ (4 + 65536 - 3) % 65536 ∧ (4 + 65536 - 3) % 65536 ≤ 32767) ∧
    (atSlot (having watching (keyRecord 5 3))).bytes.keyBlocks.map (fun b => (b.half, b.wrapped)) =
      [(some .even, (0x22 : BitVec 128))] ∧
    (watching.ctxs[0]).half .even = some half ∧ half.wrapped = 0x22 := by
  unfold atHand; decide +kernel

/-- R89, R194: an even load replaces the governing half; while the odd half governs it changes no gate. -/
theorem witness_KeyRecordLoadsOrRefreshes_governing (s : State) (k : Instr) (hk : k = .key ⟨true, [0x77], []⟩)
    (h : s = { watching with ctxs := watching.ctxs.set 0 { watching.ctxs[0] with parity := some .odd, odd := some half } }) :
    ((after k (having { watching with loadOrder := 1 } (keyRecord 5 4))).ctxs[0]).governingMark ≠ (watching.ctxs[0]).governingMark ∧
      (((after k (having watching (keyRecord 5 4))).ctxs[0]).half .even).map (·.verdict) = some .entitled ∧
      ((after k (having s (keyRecord 5 4))).ctxs[0]).governing.map (·.1) = some .odd ∧
      (s.ctxs[0]).governing.map (·.1) = some .odd := by
  subst h; subst hk; decide +kernel

/-- Both halves of context 0, each loaded 20,000 ms ago; the even one governs. -/
def aged : State := { watching with ctxs := watching.ctxs.set 0 { watching.ctxs[0] with
  even := some { half with loaded := 980000 }, odd := some { half with loaded := 980000 } } }

theorem witness_AgeingDiscardsHalf :
    (aged.ctxs[0]).half .odd = some { half with loaded := 980000 } ∧ aged.running = true ∧
      980000 + 20000 ≤ aged.ticks.now ∧
      (aged.ctxs[0]).governing = some (.even, { half with loaded := 980000 }) ∧
      ({ aged.ctxs[0] with life := .staged tuning 990000 } : Context).isActive = false := by decide +kernel

theorem witness_PriceFallsWithTimeAboveQuarter (e : EventCriteria) (h : e = ⟨7, 100, 60, 400, 2, none, true⟩) :
    1 ≤ e.duration ∧ e.start + e.duration ≤ 160 ∧ e.start < 159 ∧ 159 < e.start + e.duration ∧ 100 ≤ e.start ∧
      e.late = true ∧ State.reset.guide.clock = none ∧ watching.guide.clock = some 6600 := by
  subst h; decide +kernel

theorem witness_VerdictsFollowCriteria :
    ({ watching with access := ⟨[], [⟨7, 160, 1⟩]⟩ } : State).access.owned.any (fun x => x.event = 7) = true ∧
      (∀ x ∈ watching.access.owned, x.event ≠ 7) := by decide +kernel

/-- Sixteen previews, of which the event 3 ended first. -/
def previews : List PreviewEntry := (List.range 16).map (fun k => ⟨k, 0, if k = 3 then 50 else 60 + k⟩)

theorem witness_PreviewTableHoldsSixteenEvents : previews.length ≤ 16 ∧ (previews.map (·.event)).Nodup ∧
    ((AccessUnit.mk previews []).judgePreview ⟨99, 100, 60, 400, 2, none, true⟩ (some 110)).replaced = some 3 ∧
    ((AccessUnit.mk previews []).judgePreview ⟨99, 100, 60, 400, 2, none, true⟩ (some 110)).verdict = .preview := by
  decide +kernel

/-- An event with an entry whose minutes are used up or not, one that has ended, one for which there is room or none. -/
theorem witness_PreviewTableHoldsSixteenEvents_cases :
    ((AccessUnit.mk [⟨99, 119, 160⟩] []).judgePreview ⟨99, 100, 60, 400, 2, none, true⟩ (some 110)).verdict = .preview ∧
      ((AccessUnit.mk [⟨99, 120, 160⟩] []).judgePreview ⟨99, 100, 60, 400, 2, none, true⟩ (some 110)).verdict =
        .purchaseNeeded ∧
      ((AccessUnit.mk [] []).judgePreview ⟨99, 100, 60, 400, 2, none, true⟩ (some 160)).verdict = .purchaseNeeded ∧
      (AccessUnit.mk [] []).judgePreview ⟨99, 100, 60, 400, 2, none, true⟩ (some 110) =
        ⟨⟨[⟨99, 0, 160⟩], []⟩, .preview, none⟩ ∧
      (∀ x ∈ previews, 49 < x.endMinute) ∧
      (AccessUnit.mk previews []).judgePreview ⟨99, 100, 60, 400, 2, none, true⟩ (some 49) =
        ⟨⟨previews, []⟩, .purchaseNeeded, none⟩ := by decide +kernel

/-- The preview of event 7 has used its two minutes. -/
def exhausted : State := { watching with
  ticks := { watching.ticks with exhaustDue := [7] }
  access := ⟨[⟨7, 120, 160⟩], []⟩
  ctxs := watching.ctxs.set 0 ⟨.active tuning, [0], some .even, some 3, some { half with verdict := .preview }, none⟩ }

theorem witness_PreviewExhaustionEndsPreview : exhausted.ticks.exhaustDue.contains 7 = true ∧
    exhausted.access.previews.find? (fun y => y.event = 7) = some ⟨7, 120, 160⟩ ∧
    (((after (.previewExhaustion 7) exhausted).ctxs[0]).half .even).map (·.verdict) = some .purchaseNeeded := by
  decide +kernel

/-- R124: output 0 has PREVIEW_END, and its gate closes. -/
theorem witness_PreviewExhaustionEndsPreview_viewer : exhaustedViewer exhausted 7 120 0 ∧
    previewEndNotices exhausted 7 120 = [.previewEnd 0 0 5 7 120] ∧
    ((after (.previewExhaustion 7) exhausted).outs[0]).gate = .closed .purchase :=
  ⟨⟨0, _, by decide +kernel, by decide +kernel, rfl, by decide +kernel⟩, by decide +kernel, by decide +kernel⟩

/-- `watching` with a balance of 400 and erased journal sectors. -/
def solvent : State := { watching with
  purse := { watching.purse with balance := 400, erased := Vector.replicate 8 true } }

theorem witness_BuyDebitsAndOwns :
    atHand (having solvent (buyRecord 4 20)) .buy (atSlot (having solvent (buyRecord 4 20))) ∧
      outputOf (atSlot (having solvent (buyRecord 4 20))).bytes.buyOp.output = some 0 ∧
      (solvent.outCfg 0).enabled = true ∧ solvent.guide.clock = some 6600 ∧
      (having solvent (buyRecord 4 20)).offeredEvent 0 = some ⟨7, 100, 60, 400, 2, none, true⟩ ∧
      (atSlot (having solvent (buyRecord 4 20))).bytes.buyOp.event = 7 ∧
      (having solvent (buyRecord 4 20)).priceNow ⟨7, 100, 60, 400, 2, none, true⟩ = some 334 ∧
      (∀ x ∈ solvent.access.owned, x.event ≠ 7) ∧ (solvent.profiles[(solvent.outCfg 0).profile]).purchasePin = false ∧
      (atSlot (having solvent (buyRecord 4 20))).bytes.buyOp.confirm = 334 ∧
      -(solvent.rights.overdraft : Int) ≤ solvent.purse.balance - 334 ∧ solvent.access.owned.length < 64 ∧
      solvent.purse.appendFails 0 = none := by
  unfold atHand; decide +kernel

theorem witness_RightsRecordAppliesItems :
    atHand (having solvent rightsRecord) .rights (atSlot (having solvent rightsRecord)) ∧
      (having solvent rightsRecord).rightsCheck true
        ((atSlot (having solvent rightsRecord)).bytes.rightsOp [3, 0, 0, 0, 0, 0, 1, 0]) = none ∧
      ((atSlot (having solvent rightsRecord)).bytes.rightsOp [3, 0, 0, 0, 0, 0, 1, 0]).addressKind = 1 ∧
      ((atSlot (having solvent rightsRecord)).bytes.rightsOp [3, 0, 0, 0, 0, 0, 1, 0]).items.map RightsItem.appends =
        [true] := by
  unfold atHand; decide +kernel

/-- R105 to R113: a record with one item of a kind leaves what the item says. -/
def itemed (item : List Nat) : State :=
  after (.rights ⟨true, item.map (BitVec.ofNat 8)⟩) (having solvent rightsRecord)

theorem test_rights_items :
    (itemed [3, 0, 0, 0, 0, 0, 1, 0]).purse.balance = 656 ∧
      ((itemed [1, 2, 1, 0, 0, 0, 0, 200, 0, 0, 0, 0]).rights.packages[2]) = some ⟨some 200⟩ := by decide +kernel

/-- R112, R115, R107: a REGION item moves the code to 1, which the service does not allow, so the gate closes; the CHANGE mark
starts the rewrite of a free flash port. -/
theorem witness_RightsRecordAppliesItems_region : regionMoves 0 [.region 1] ∧ ¬ regionMoves 1 [.region 1] ∧
    ((itemed [6, 1, 0, 0, 0, 0, 0, 0, 0, 0, 0, 0]).outs[0]).gate = .closed .region ∧
    (itemed [6, 1, 0, 0, 0, 0, 0, 0, 0, 0, 0, 0]).flashPort.op = some .rewriteErase := by
  refine ⟨⟨0, 1, rfl, by decide⟩, ?_, by decide +kernel, by decide +kernel⟩
  rintro ⟨k, c, hk, hc⟩
  cases k with
  | zero => cases hk; exact hc rfl
  | succ n => cases hk

/-- `watching` with event 7 on service 5 in the pool. -/
def guided : State := { watching with guide := { watching.guide with pool := [⟨5, 7, 100, 60, some 9⟩] } }

theorem witness_MatchingPinUnlocksOrChanges :
    (∀ a ∈ [(1, 0), (2, 1), (2, 240), (3, 0)], atHand (having guided (pinRecord a.1 a.2)) .pin
        (atSlot (having guided (pinRecord a.1 a.2))) ∧
      (atSlot (having guided (pinRecord a.1 a.2))).bytes.pinOp.action = a.1 ∧
      (atSlot (having guided (pinRecord a.1 a.2))).bytes.pinOp.minutes = a.2 ∧
      outputOf (atSlot (having guided (pinRecord a.1 a.2))).bytes.pinOp.output = some 0 ∧
      pinOf (atSlot (having guided (pinRecord a.1 a.2))).bytes.pinOp.pin = some (guided.profiles[0]).pin ∧
      pinOf (atSlot (having guided (pinRecord a.1 a.2))).bytes.pinOp.newPin = some [1, 2, 3, 4]) ∧
    (guided.outCfg 0).enabled = true ∧ (guided.outCfg 0).profile = 0 ∧ (guided.profiles[0]).lockoutEnd = none ∧
    (having guided (pinRecord 1 0)).presentEvent 0 = some 7 := by
  unfold atHand; decide +kernel

theorem witness_PinComparisonCountsAndLocks :
    ({ Profile.unloaded with lockoutEnd := some 5 } : Profile).lockoutEnd = some 5 ∧
      (watching.profiles[2]).lockoutEnd = none ∧
      pinOf [0x30, 0x30, 0x30, 0x30, 0, 0, 0, 0] = some (watching.profiles[2]).pin ∧
      pinOf [0x30, 0x30, 0x30, 0x31, 0, 0, 0, 0] ≠ some (watching.profiles[2]).pin ∧
      (watching.profiles[2]).failures ≤ 4 := by decide +kernel

theorem witness_ProfileRecordEditsTarget :
    atHand (having watching profileRecord) .profile (atSlot (having watching profileRecord)) ∧
      outputOf (atSlot (having watching profileRecord)).bytes.profileOp.target = some 0 ∧
      (atSlot (having watching profileRecord)).bytes.profileOp.maskOk = true ∧
      (atSlot (having watching profileRecord)).bytes.profileOp.fieldsOk = true ∧
      (watching.profiles[0]).lockoutEnd = none ∧
      pinOf (atSlot (having watching profileRecord)).bytes.profileOp.master = some (watching.profiles[0]).pin := by
  unfold atHand; decide +kernel

/-- A rise of profile 0 is due, with its minutes-used and budget. -/
def rising (used : Nat) (budget : Option Nat) : State := { watching with
  ticks := { watching.ticks with riseDue := [(0, [0])] }
  profiles := watching.profiles.set 0 { watching.profiles[0] with minutesUsed := used, budget := budget } }

theorem witness_MinutesUsedRiseWarnsAndCloses :
    (rising 1440 none).dueRise 0 = some (0, [0]) ∧ ((rising 1440 none).profiles[0]).minutesUsed = 1440 ∧
      (rising 4 (some 10)).dueRise 0 = some (0, [0]) ∧ ((rising 4 (some 10)).profiles[0]).budget = some 10 ∧
      ((rising 4 (some 10)).profiles[0]).warned = false ∧ 10 ≤ 4 + 6 ∧
      ((rising 3 (some 10)).profiles[0]).budget = some 10 ∧ 3 + 6 < 10 ∧
      ((rising 9 (some 10)).profiles[0]).budget = some (9 + 1) ∧ (watching.outCfg 0).profile = 0 ∧
      ((after (.minutesUsedRise 0) (rising 9 (some 10))).outs[0]).gate = .closed .budget := by decide +kernel

/-- R167: a rise that is due stays due over a new budget day. -/
theorem test_rise_stays_due : ((rising 9 none).newBudgetDay false).ticks.riseDue = [(0, [0])] ∧
    (((rising 9 none).newBudgetDay false).profiles[0]).minutesUsed = 0 := by decide +kernel

theorem witness_TimersExpireAndGatesFollow :
    ({ active with profiles := active.profiles.set 2 { Profile.unloaded with failures := 5, lockoutEnd := some 1000000 } } :
        State).lockoutDue 2 = true ∧
      ({ watching with outs := watching.outs.set 0 { watching.outs[0] with periodUnlock := some 1000000 } } :
        State).unlockDue 0 = true ∧
      ({ active with writer := { active.writer with pubIdx := 1, delayEnd := some 1000000 } } :
        State).mitigationDue = true ∧
      ({ active with lamps := { active.lamps with phase := !active.lamps.phase } } : State).blinkDue !=
        active.blinkDue ∧
      ({ active with flashPort := ⟨none, true⟩ } : State).inhibitEnds = true ∧
      ({ active with settings := ⟨.metering, false, 100000, none⟩ } : State).paceElapsed = true ∧
      active.purse.queue = [] ∧ active.purse.target = none := by decide +kernel

/-- The gate of output 0 CLOSED with PURCHASE, with or without an offer of event 7. -/
def offered (o : Option Offer) : State := { solvent with
  outs := watching.outs.set 0 { watching.outs[0] with gate := .closed .purchase, reported := .closed .purchase, offer := o } }

theorem witness_TimersExpireAndGatesFollow_offers :
    ((offered none).offeredEvent 0 = some ⟨7, 100, 60, 400, 2, none, true⟩ ∧
      (offered none).priceNow ⟨7, 100, 60, 400, 2, none, true⟩ = some 334 ∧
      (((offered (some ⟨7, 400⟩)).refreshOffer 0).outs[0]).offer = some ⟨7, 334⟩ ∧
      (offered (some ⟨7, 334⟩)).refreshOffer 0 = offered (some ⟨7, 334⟩)) ∧
    (((watching.evaluate .unlock false 0).outs[0]).gate = .closed .purchase ∧
      ((watching.evaluate .unlock false 0).outs[0]).offer = some ⟨7, 334⟩ ∧
      (watching.evaluate .unlock false 0).writer.writeIdx = 2) ∧
    (active.outs[0]).tune = none := by decide +kernel

theorem witness_NoticesFillRingOrDrop : active.writer.full = false ∧
    ({ active with writer := { active.writer with writeIdx := 1022 } } : State).writer.full = true ∧
    ({ active with writer := { active.writer with writeIdx := 1021 } } : State).writer.full = false := by decide +kernel

/-- A publishing write of an index in service. -/
def publishing (i : Nat) (void : Bool) : State := servingOwn active (.publish i) 0x20000 (beBytes 4 i ++ zeros 4) void

theorem witness_PublicationMovesNoticeLine :
    MemoriesOk (publishing 1 false) ∧
      (publishing 1 false).servingOwn = some ⟨.publish 1, 0x20000, beBytes 4 1 ++ zeros 4, false⟩ ∧
      (publishing 1 true).servingOwn = some ⟨.publish 1, 0x20000, beBytes 4 1 ++ zeros 4, true⟩ ∧
      (publishing 1 false).writer.line = false ∧
      (1 + 1023 - (publishing 1 false).writer.consIdx) % 1023 < (publishing 1 false).cfg.mitCount ∧
      (publishing 2 false).cfg.mitCount ≤ (2 + 1023 - (publishing 2 false).writer.consIdx) % 1023 ∧
      (publishing 1 false).writer.unconsumed = 0 ∧
      (0 + 1023 - (publishing 0 false).writer.consIdx) % 1023 = 0 := by
  unfold MemoriesOk; decide +kernel

/-- A write of the consumer index in service, with three entries published. -/
def consuming (v : Nat) : State := serving { active with writer := { active.writer with writeIdx := 3, pubIdx := 3 } }
  (writeOf 0x20008 [0, 0, v / 256, v % 256]) .report

theorem witness_ConsumerWriteMovesIndexAndLine :
    (∀ v ∈ [0, 1, 2, 3, 1022, 1023], MemoriesOk (consuming v) ∧
      (consuming v).servingUp = some (waits (writeOf 0x20008 [0, 0, v / 256, v % 256]) .report) ∧
      (consuming v).completionOf (waits (writeOf 0x20008 [0, 0, v / 256, v % 256]) .report) = .consumer ∧
      v = ofBytes ((consuming v).newCopy (writeOf 0x20008 [0, 0, v / 256, v % 256]))) ∧
    active.port.controlBlockPending = false ∧ active.writer.statsDeferred = false ∧
    ((consuming 3).statsSize ≤ 1022 - ((consuming 3).writer.writeIdx + 1023 - 3) % 1023 ∧
      ((after .consumerIndexWrite { consuming 3 with
        writer := { (consuming 3).writer with statsDeferred := true } }).writer.writeIdx = 3 + (consuming 3).statsSize)) ∧
    ({ active with port := { active.port with own := [⟨.controlBlock, 0x20000, zeros 64, false⟩] } } :
      State).port.controlBlockPending = true := by
  unfold MemoriesOk; decide +kernel

/-- The statistics timer at its expiry, with a write index. -/
def counting (i : Nat) : State :=
  { active with writer := { active.writer with writeIdx := i, statsEnd := some 1000000 } }

theorem ringOk_counting (i : Nat) (h : i ≤ 1022) : RingOk (counting i) := by
  refine ⟨h, Nat.zero_le _, Nat.zero_le _, Nat.zero_le _, ?_⟩
  intro r j hr
  cases hr

theorem witness_StatisticsSetIsWholeOrDeferred :
    (RingOk (counting 1018) ∧ RingOk (counting 1019)) ∧ (counting 1018).writer.statsEnd = some 1000000 ∧
      (counting 1018).running = true ∧ 1000000 ≤ (counting 1018).ticks.now ∧
      (counting 1018).statsSize ≤ 1022 - (counting 1018).writer.issued ∧
      1022 - (counting 1019).writer.issued < (counting 1019).statsSize :=
  ⟨⟨ringOk_counting _ (by decide), ringOk_counting _ (by decide)⟩, by decide +kernel⟩

theorem witness_FlashOperationsComplete :
    MemoriesOk (flashing active (.rewritePage 3)) ∧
      (flashing active (.rewritePage 3)).flashPort.op = some (.rewritePage 3) ∧
      ({ active.settings with rewrite := some ⟨zeros 1024, 5⟩ } : Settings).rewrite = some ⟨zeros 1024, 5⟩ ∧
      (flashing active (.program purchase)).flashPort.op = some (.program purchase) ∧
      (flashing active .rewriteErase).flashPort.op = some .rewriteErase ∧
      (flashing active (.erase 7)).flashPort.op = some (.erase 7) := by
  unfold MemoriesOk; decide +kernel

/-- R137, R144, R145: what the arbiter starts: a queued record before a WAITING target, the target's erase before a rewrite,
and the rewrite where the start check makes the target REFUSED; and which target an erase finds. -/
theorem witness_FlashOperationsComplete_choice (s : State) (hs : s = { active with
      purse := { active.purse with list := [purchase], queue := [purchase], target := some ⟨1, true⟩ }
      settings := ⟨.change, false, 0, none⟩ }) :
    s.chooseFlash.flashPort.op = some (.program purchase) ∧
      ({ s with purse := { s.purse with queue := [] } } : State).chooseFlash.flashPort.op = some (.erase 1) ∧
      ({ s with purse := { s.purse with queue := [], target := some ⟨0, true⟩ } } : State).chooseFlash.flashPort.op =
        some .rewriteErase ∧
      ({ s with purse := { s.purse with queue := [], target := some ⟨0, true⟩ } } : State).chooseFlash.purse.target =
        some ⟨0, false⟩ ∧
      (after .eraseComplete (flashing { active with purse := { active.purse with writePos := 130 } } (.erase 2))).purse.target =
        none ∧
      (after .eraseComplete (flashing { active with purse := { active.purse with writePos := 130, list := [{ purchase with place := 257 }] } }
        (.erase 1))).purse.target = some ⟨2, false⟩ := by
  subst hs; decide +kernel

/-- R140, R144: an append at the last place of sector 0 moves the position to slot 0 of sector 1 and finds the target there. -/
theorem test_append_finds_target :
    (({ active with purse := { active.purse with writePos := 127 } } : State).append
      ⟨.topup, 5, 4, 0, none, 0⟩).purse.target = some ⟨1, true⟩ := by decide +kernel

/-- The bytes of a profile in the settings sector: ceiling 0, no flag, nothing used, no failure, PIN 0000. -/
def storedProfile : List Byte := zeros 14 ++ [0x30, 0x30, 0x30, 0x30] ++ zeros 4

/-- A good settings sector: rights bytes 8 to 11 zero, six such profiles, every other byte FFh, its CRC-32 7BE031E9h
(computed outside the model). -/
def sector : List Byte := List.replicate 8 0xFF ++ zeros 4 ++ List.replicate 332 0xFF ++
  (List.replicate 6 (storedProfile ++ List.replicate 10 0xFF)).flatten ++ List.replicate 484 0xFF ++
  [0x7B, 0xE0, 0x31, 0xE9]

/-- The settings read with that sector in flash. -/
def settled : State := flashing (active.flashWrite 0x1000 sector) .settingsRead

theorem length_sector : sector.length = 1024 := by decide +kernel

theorem flashRead_flashing (s : State) (op : FlashOp) (a n : Nat) : (flashing s op).flashRead a n = s.flashRead a n := rfl

theorem flashRead_settled : settled.flashRead 0x1000 1024 = sector := by
  unfold settled
  rw [flashRead_flashing, State.flashRead_flashWrite active 0x1000 1024 sector length_sector rfl]

set_option maxRecDepth 20000 in
theorem witness_SettingsMountByContent_good : settled.flashPort.op = some .settingsRead ∧
    settled.settingsIsBlank = false ∧ settingsGood (settled.flashRead 0x1000 1024) = true := by
  rw [flashRead_settled]
  exact ⟨rfl, by decide +kernel, by decide +kernel⟩

set_option maxRecDepth 20000 in
theorem witness_SettingsMountByContent_blank_corrupt :
    (flashing active .settingsRead).flashPort.op = some .settingsRead ∧
      (flashing active .settingsRead).settingsIsBlank = true ∧
      (flashing (active.flashWrite 0x1000 [1]) .settingsRead).settingsIsBlank = false ∧
      settingsGood ((flashing (active.flashWrite 0x1000 [1]) .settingsRead).flashRead 0x1000 1024) = false := by
  decide +kernel

theorem witness_JournalMountRebuildsPurse :
    (flashing (inPart .mounting active) .journalRead).flashPort.op = some .journalRead ∧
      ∀ o : Fin 6, ((flashing (inPart .mounting active) .journalRead).outs[o]).tune = none := by decide +kernel

/-- The mount of a flash that holds `purchase` at place 3. -/
def journaled : State := flashing ((inPart .mounting active).flashWrite 0x2060 purchase.bytes) .journalRead

set_option maxRecDepth 20000 in
/-- R151, R152, R127: the record is in the list, its event is owned, the next place is behind it. -/
theorem test_mount_one_record :
    (after .journalMount journaled).purse.list = [purchase] ∧ (after .journalMount journaled).purse.writePos = 4 ∧
      (after .journalMount journaled).purse.balance = 400 ∧
      (after .journalMount journaled).access.owned = [⟨7, 160, 5⟩] := by decide +kernel

theorem witness_JournalRecordRoundTrip : purchase.seq < 2 ^ 32 ∧ purchase.event < 2 ^ 32 ∧ purchase.endMinute < 2 ^ 32 ∧
    purchase.clock < 2 ^ 32 ∧ purchase.upTo < 2 ^ 32 ∧ -2147483648 ≤ purchase.amount ∧ purchase.amount ≤ 2147483647 ∧
    -10000 ≤ purchase.balanceAfter ∧ purchase.balanceAfter ≤ 1000000 ∧
    (∀ o ∈ purchase.output, o ≤ 254) ∧ journalRecordOf purchase.bytes 3 = some purchase := by decide +kernel

theorem witness_OnlyPurseCommandsMoveBalance :
    exec .buy (having solvent (buyRecord 4 20)) = .next (after .buy (having solvent (buyRecord 4 20))) ∧
      (after .buy (having solvent (buyRecord 4 20))).purse.balance ≠ (having solvent (buyRecord 4 20)).purse.balance :=
  ⟨exec_eq_after _ _ (by decide +kernel), by decide +kernel⟩

theorem witness_KeysComeOnlyFromKeyRecords :
    exec (.key ⟨true, [0x77], []⟩) (having watching (keyRecord 5 4)) =
        .next (after (.key ⟨true, [0x77], []⟩) (having watching (keyRecord 5 4))) ∧
      (((after (.key ⟨true, [0x77], []⟩) (having watching (keyRecord 5 4))).ctxs[0]).half .even).map (·.content) =
        some 0x77 :=
  ⟨exec_eq_after _ _ (by decide +kernel), by decide +kernel⟩

/-! ### Witnesses of the invariants -/

theorem placesUnique_watching : PlacesUnique watching := by
  have h : ∀ c : Fin 8, c ≠ 0 → (watching.ctxs[c]).tuning = none := by decide +kernel
  intro c d t u hc hd _ _
  by_cases hc0 : c = 0
  · by_cases hd0 : d = 0
    · rw [hc0, hd0]
    · rw [h d hd0] at hd; cases hd
  · rw [h c hc0] at hc; cases hc

theorem witness_StepKeepsPool : PoolOk watching ∧ PlacesUnique watching ∧
    exec .oneSecondTick watching = .next (after .oneSecondTick watching) :=
  ⟨poolOk_of_checks _ (by decide +kernel), placesUnique_watching, exec_eq_after _ _ (by decide +kernel)⟩

theorem intakeOk_processing : IntakeOk processing := by
  refine ⟨by decide +kernel, by decide +kernel, ?_, List.Pairwise.nil⟩
  intro r n h
  cases h

theorem witness_StepKeepsIntake : IntakeOk processing ∧
    step processing = .next { processing with pending := processing.dueEvents } :=
  ⟨intakeOk_processing, rfl⟩

theorem witness_StepKeepsMemories_Ring_Purse :
    MemoriesOk (counting 5) ∧ RingOk (counting 5) ∧ LampsOk State.reset ∧ PurseOk active :=
  ⟨by unfold MemoriesOk; decide +kernel, ringOk_counting 5 (by decide), by unfold LampsOk; decide +kernel,
    by unfold PurseOk; decide +kernel⟩

theorem witness_StepKeepsPurseAndProfiles_flash : FlashServed active ∧ active.flashFree = true := by
  unfold FlashServed; decide +kernel

theorem witness_StepKeepsPurseAndProfiles : ProfilesOk active := by
  have hw : windowInRange none := by intro a b h; cases h
  have hp : pinInRange [0, 0, 0, 0] := by unfold pinInRange; decide
  refine ⟨?_, ?_, hp⟩
  · intro q
    fin_cases q <;> exact ⟨by decide, hw, (by intro b h; cases h), by decide, by decide, hp, by decide⟩
  · intro q
    fin_cases q <;> exact ⟨by decide, hw, (by intro b h; cases h)⟩

end Sys2Proof.Tests
end

section
/-! PROOFS. Frames: how the kinds of state that a command leaves unchanged compose, operation by operation. -/

namespace Sys2Proof.Machine

/-! ### The kinds of state, one by one -/

theorem Area.forall_iff {p : Area → Prop} : (∀ a : Area, p a) ↔
    p .power ∧ p .time ∧ p .config ∧ p .path ∧ p .upstream ∧ p .own ∧ p .intake ∧ p .guide ∧ p .contexts ∧
    p .outputs ∧ p .rights ∧ p .access ∧ p .journal ∧ p .flashWork ∧ p .profiles ∧ p .writer ∧ p .dram ∧ p .flash ∧
    p .queue := by
  constructor
  · intro h
    simp only [h, and_self]
  · intro h a
    cases a <;> simp only [h]

/-- Every kind of state is the same where every field is. -/
theorem Area.same_refl (a : Area) (s : State) : a.same s s := by
  cases a <;> simp [Area.same]

theorem onlyChanges.mono {as bs : List Area} {s t : State} (h : onlyChanges as s t) (hab : as ⊆ bs) :
    onlyChanges bs s t := fun a ha => h a (fun hm => ha (hab hm))

/-- An operation on the way to a command's end: nothing but the listed kinds of state changes, and the flash port is as
free as before (R137). -/
structure Frame (as : List Area) (s t : State) : Prop where
  only : onlyChanges as s t
  free : t.flashFree = s.flashFree

theorem Frame.refl (as : List Area) (s : State) : Frame as s s := ⟨fun a _ => a.same_refl s, rfl⟩

theorem Frame.mono {as bs : List Area} {s t : State} (h : Frame as s t) (hab : as ⊆ bs) : Frame bs s t :=
  ⟨h.only.mono hab, h.free⟩

/-- Operations one after the other change what the one or the other changes. -/
theorem Frame.trans {as bs cs : List Area} {s t u : State} (h : Frame as s t) (k : Frame bs t u) (ha : as ⊆ cs)
    (hb : bs ⊆ cs) : Frame cs s u :=
  ⟨(h.mono ha).only.trans (k.mono hb).only (fun e => h.free.trans e), k.free.trans h.free⟩

/-- The end of a command keeps the frame of the operations before it. -/
theorem Frame.settle {as : List Area} {s t : State} (h : Frame as s t) : onlyChanges as s t.settle :=
  h.only.trans (fun a _ => State.settle_same t a) (fun e => h.free.trans e)

/-- An operation done for each of a list changes what it changes once. -/
theorem Frame.foldl {α : Type} {as : List Area} (f : State → α → State) (h : ∀ s a, Frame as s (f s a)) (l : List α)
    (s : State) : Frame as s (l.foldl f s) := by
  induction l generalizing s with
  | nil => exact Frame.refl as s
  | cons a l ih => exact (h s a).trans (ih (f s a)) (List.Subset.refl _) (List.Subset.refl _)

/-! ### The frames of the shared operations -/

section FramesOfOperations

variable (s : State)

theorem State.modOut_frame (o : Fin 6) (f : Output → Output) : Frame [.outputs] s (s.modOut o f) :=
  ⟨by simp [onlyChanges, Area.forall_iff, Area.same], rfl⟩

theorem State.modCtx_frame (c : Fin 8) (f : Context → Context) : Frame [.contexts] s (s.modCtx c f) :=
  ⟨by simp [onlyChanges, Area.forall_iff, Area.same], rfl⟩

theorem State.modRing_frame (k : Fin 4) (f : Ring → Ring) : Frame [.path] s (s.modRing k f) :=
  ⟨by simp [onlyChanges, Area.forall_iff, Area.same], rfl⟩

theorem State.modGuide_frame (f : Guide → Guide) : Frame [.guide] s (s.modGuide f) :=
  ⟨by simp [onlyChanges, Area.forall_iff, Area.same], rfl⟩

theorem State.modGuideCounters_frame (f : GuideCounters → GuideCounters) : Frame [.guide] s (s.modGuideCounters f) :=
  ⟨by simp [onlyChanges, Area.forall_iff, Area.same], rfl⟩

theorem State.modWriter_frame (f : Writer → Writer) : Frame [.writer] s (s.modWriter f) :=
  ⟨by simp [onlyChanges, Area.forall_iff, Area.same], rfl⟩

theorem State.modIntake_frame (f : Intake → Intake) : Frame [.intake] s (s.modIntake f) :=
  ⟨by simp [onlyChanges, Area.forall_iff, Area.same], rfl⟩

theorem State.withPath_frame (p : PathUnit) : Frame [.path] s { s with path := p } :=
  ⟨by simp [onlyChanges, Area.forall_iff, Area.same], rfl⟩

theorem State.dramWrite_frame (a : Nat) (bs : List Byte) : Frame [.dram] s (s.dramWrite a bs) :=
  ⟨by simp [onlyChanges, Area.forall_iff, Area.same], rfl⟩

theorem State.issue_frame (r : OwnReq) : Frame [.own] s (s.issue r) :=
  ⟨by simp [onlyChanges, Area.forall_iff, Area.same], rfl⟩

theorem State.count_frame (o : Fin 6) (f : OutputCounters → OutputCounters) : Frame [.outputs] s (s.count o f) :=
  ⟨by simp [onlyChanges, Area.forall_iff, Area.same], by simp [State.flashFree]⟩

theorem State.answer_frame (u : UpReq) (d : List Byte) : Frame [.path] s (s.answer u d) :=
  ⟨by simp [onlyChanges, Area.forall_iff, Area.same], by simp [State.flashFree]⟩

variable {s} in
theorem GateWork.toFrame {t : State} (h : GateWork s t) : Frame [.outputs, .own, .writer] s t :=
  ⟨h.frame, by simp only [State.flashFree, h.powerGood, h.part, h.flashPort]⟩

theorem State.notify_frame (n : Notice) : Frame [.own, .writer] s (s.notify n) :=
  ⟨by simp [onlyChanges, Area.forall_iff, Area.same], by simp [State.flashFree]⟩

variable {s} in
theorem ReadWork.toFrame {o : Fin 6} {t : State} (h : ReadWork o s t) : Frame [.outputs, .own, .writer] s t :=
  ⟨h.frame, h.flash⟩

end FramesOfOperations

/-! ### The two FIFOs of the DRAM port (R15) -/

@[simp] theorem Port.appendUp_upAll (p : Port) (us : List UpReq) :
    Port.upAll { p with up := p.up ++ us } = p.upAll ++ us := by
  obtain ⟨up, own, pass, serving⟩ := p
  rcases serving with _ | (u | r) <;> rfl

@[simp] theorem Port.appendUp_ownAll (p : Port) (us : List UpReq) :
    Port.ownAll { p with up := p.up ++ us } = p.ownAll := rfl

@[simp] theorem Port.appendOwn_ownAll (p : Port) (rs : List OwnReq) :
    Port.ownAll { p with own := p.own ++ rs } = p.ownAll ++ rs := by
  obtain ⟨up, own, pass, serving⟩ := p
  rcases serving with _ | (u | r) <;> rfl

@[simp] theorem Port.appendOwn_upAll (p : Port) (rs : List OwnReq) :
    Port.upAll { p with own := p.own ++ rs } = p.upAll := rfl

@[simp] theorem Port.idle_upAll (p : Port) : Port.upAll { p with serving := none } = p.up := rfl

@[simp] theorem Port.idle_ownAll (p : Port) : Port.ownAll { p with serving := none } = p.own := rfl

theorem State.servingUp_eq {s : State} {u : UpReq} (h : s.servingUp = some u) :
    s.port.serving = some (.upstream u) := by
  unfold State.servingUp at h
  split at h <;> simp_all

theorem State.servingOwn_eq {s : State} {r : OwnReq} (h : s.servingOwn = some r) :
    s.port.serving = some (.own r) := by
  unfold State.servingOwn at h
  split at h <;> simp_all

/-- While an upstream request is in service, the own requests are those of the own FIFO. -/
theorem State.ownAll_of_servingUp {s : State} {u : UpReq} (h : s.servingUp = some u) :
    s.port.ownAll = s.port.own := by
  simp [Port.ownAll, State.servingUp_eq h]

/-- While an own request is in service, the upstream requests are those of the upstream FIFO. -/
theorem State.upAll_of_servingOwn {s : State} {r : OwnReq} (h : s.servingOwn = some r) :
    s.port.upAll = s.port.up := by
  simp [Port.upAll, State.servingOwn_eq h]

/-- An upstream request that leaves the port changes nothing but the upstream requests. -/
theorem State.freePort_frame_up {s : State} {u : UpReq} (h : s.servingUp = some u) :
    Frame [.upstream] s s.freePort :=
  ⟨by simp [onlyChanges, Area.forall_iff, Area.same, State.ownAll_of_servingUp h], rfl⟩

/-- An own request that leaves the port changes nothing but the own requests. -/
theorem State.freePort_frame_own {s : State} {r : OwnReq} (h : s.servingOwn = some r) :
    Frame [.own] s s.freePort :=
  ⟨by simp [onlyChanges, Area.forall_iff, Area.same, State.upAll_of_servingOwn h], rfl⟩

theorem State.present_frame (s : State) (u : UpReq) : Frame [.upstream] s (s.present u) :=
  ⟨by simp [onlyChanges, Area.forall_iff, Area.same], rfl⟩

theorem State.issueAll_frame (s : State) (rs : List OwnReq) : Frame [.own] s (s.issueAll rs) :=
  ⟨by simp [onlyChanges, Area.forall_iff, Area.same], rfl⟩

/-- R3: a completed write changes its bytes, the answers and the upstream requests. -/
theorem State.completeWrite_frame {s : State} {u : UpReq} (h : s.servingUp = some u) (v : UpReq) :
    Frame [.path, .upstream, .dram] s (s.completeWrite v) :=
  ((State.freePort_frame_up h).trans (State.dramWrite_frame _ _ _) (by decide) (by decide) :
    Frame [.upstream, .dram] s _).trans (State.answer_frame _ _ _) (by decide) (by decide)

/-- R15: a completed own write changes its bytes and the own requests. -/
theorem State.completeOwn_frame {s : State} {r : OwnReq} (h : s.servingOwn = some r) (x : OwnReq) :
    Frame [.own, .dram] s (s.completeOwn x) :=
  (State.freePort_frame_own h).trans (State.dramWrite_frame _ _ _) (by decide) (by decide)

/-! ### Answers and completed writes -/

/-- The path unit after an answer on the link (R14, R33). -/
theorem State.answer_path (s : State) (u : UpReq) (d : List Byte) :
    (s.answer u d).path = { s.path with answers := s.path.answers ++ if u.lost then [] else [⟨u.req, d⟩] } := by
  unfold State.answer
  split <;> simp

/-- A write of bytes on a canonical DRAM, with nothing written to DRAM after it. -/
theorem dramHolds_of_write {s t : State} (w : MemoriesOk s) (a : Nat) (bs : List Byte)
    (h : t.dram = s.dram.writeBytes dramDefault a bs) : dramHolds a bs s t := by
  intro x
  simp only [State.dramByte, h]
  exact Memory.read_writeBytes bs a x w.1

/-- Bytes programmed into a canonical flash, with nothing written to flash after it. -/
theorem flashHolds_of_write {s t : State} (w : MemoriesOk s) (a : Nat) (bs : List Byte)
    (h : t.flash = s.flash.writeBytes flashDefault a bs) : flashHolds a bs s t := by
  intro x
  simp only [State.flashByte, h]
  exact Memory.read_writeBytes bs a x w.2

@[simp] theorem State.completeWrite_path (s : State) (u : UpReq) : (s.completeWrite u).path =
    { s.path with answers := s.path.answers ++ if u.lost then [] else [⟨u.req, []⟩] } := by
  simp [State.completeWrite, State.answer_path]

@[simp] theorem State.completeWrite_dram (s : State) (u : UpReq) :
    (s.completeWrite u).dram = s.dram.writeBytes dramDefault u.req.addr (writeData u.req) := by
  simp [State.completeWrite]

@[simp] theorem State.completeWrite_port (s : State) (u : UpReq) :
    (s.completeWrite u).port = { s.port with serving := none } := by
  simp [State.completeWrite]

@[simp] theorem State.completeOwn_dram (s : State) (r : OwnReq) :
    (s.completeOwn r).dram = s.dram.writeBytes dramDefault r.addr r.data := rfl

@[simp] theorem State.completeOwn_port (s : State) (r : OwnReq) :
    (s.completeOwn r).port = { s.port with serving := none } := rfl

end Sys2Proof.Machine
end

section
/-! PROOFS. Notices (R182): what handing over a list of notices reads, and the own writes it adds. -/

namespace Sys2Proof.Machine

/-- What handing over notices reads is the same in two states: the configuration, part time, the clock, the ring. -/
structure NoticeInputs (s t : State) : Prop where
  cfg : t.cfg = s.cfg
  now : t.ticks.now = s.ticks.now
  clock : t.guide.clock = s.guide.clock
  writer : t.writer = s.writer

theorem NoticeInputs.trans {s t u : State} (h : NoticeInputs s t) (k : NoticeInputs t u) : NoticeInputs s u :=
  ⟨k.cfg.trans h.cfg, k.now.trans h.now, k.clock.trans h.clock, k.writer.trans h.writer⟩

/-- R182: the own writes that a notice issues: its entry and the publishing write where the ring has room, otherwise the
overrun word at the first notice dropped. -/
def State.noticeWrites (s : State) (n : Notice) : List OwnReq :=
  if s.writer.full then if s.writer.overrun then [] else [s.overrunWrite]
  else [s.entryWrite n, s.publishWrite ((s.writer.writeIdx + 1) % 1023)]

/-- R182: the ring after a notice. -/
def Writer.afterNotice (w : Writer) : Writer :=
  if w.full then { w with overrun := true, dropped := min 65535 (w.dropped + 1) }
  else { w with writeIdx := (w.writeIdx + 1) % 1023, overrun := false, dropped := 0 }

theorem State.notify_port (s : State) (n : Notice) :
    (s.notify n).port = { s.port with own := s.port.own ++ s.noticeWrites n } := by
  unfold State.noticeWrites
  cases hf : s.writer.full
  · rw [State.notify_room s n hf]
    simp [Port.issue]
  · rw [State.notify_full s n hf]
    cases ho : s.writer.overrun <;> simp [Port.issue]

theorem State.notify_writer (s : State) (n : Notice) : (s.notify n).writer = s.writer.afterNotice := by
  unfold Writer.afterNotice
  cases hf : s.writer.full
  · rw [State.notify_room s n hf]
    rfl
  · rw [State.notify_full s n hf]
    cases ho : s.writer.overrun <;> simp

theorem NoticeInputs.noticeWrites {s t : State} (h : NoticeInputs s t) (n : Notice) :
    t.noticeWrites n = s.noticeWrites n := by
  simp only [State.noticeWrites, State.overrunWrite, State.entryWrite, State.publishWrite, State.entryAddr, h.cfg, h.now,
    h.clock, h.writer]

theorem NoticeInputs.notify {s t : State} (h : NoticeInputs s t) (n : Notice) :
    NoticeInputs (s.notify n) (t.notify n) :=
  ⟨by simp [h.cfg], by simp [h.now], by simp [h.clock], by rw [State.notify_writer, State.notify_writer, h.writer]⟩

/-- Notices handed over in states that agree on what they read add the same own writes and leave the same ring. -/
theorem NoticeInputs.foldl {s t : State} (h : NoticeInputs s t) (ns : List Notice) :
    NoticeInputs (ns.foldl State.notify s) (ns.foldl State.notify t) ∧
      ∃ rs : List OwnReq, (ns.foldl State.notify s).port = { s.port with own := s.port.own ++ rs } ∧
        (ns.foldl State.notify t).port = { t.port with own := t.port.own ++ rs } := by
  induction ns generalizing s t with
  | nil => exact ⟨h, [], by simp, by simp⟩
  | cons n ns ih =>
    obtain ⟨hn, rs, e1, e2⟩ := ih (h.notify n)
    refine ⟨hn, s.noticeWrites n ++ rs, ?_, ?_⟩
    · rw [List.foldl_cons, e1, State.notify_port, List.append_assoc]
    · rw [List.foldl_cons, e2, State.notify_port, h.noticeWrites, List.append_assoc]

/-- Notices handed over after an operation that leaves the ring and the own requests alone count from before it. -/
theorem handedOver.of_inputs {ns : List Notice} {s s1 t : State} (h : handedOver ns s1 t) (hi : NoticeInputs s s1)
    (ho : s1.port.ownAll = s.port.ownAll) : handedOver ns s t := by
  obtain ⟨hn, rs, e1, e2⟩ := hi.foldl ns
  obtain ⟨hw, hp⟩ := h
  refine ⟨hw.trans hn.writer, ?_⟩
  rw [hp, e1, e2, Port.appendOwn_ownAll, Port.appendOwn_ownAll, ho]

/-- What follows the notices leaves the ring and the own requests alone. -/
theorem handedOver.then {ns : List Notice} {s t u : State} (h : handedOver ns s t) (hw : u.writer = t.writer)
    (ho : u.port.ownAll = t.port.ownAll) : handedOver ns s u := ⟨hw.trans h.1, ho.trans h.2⟩

theorem handedOver.settle {ns : List Notice} {s t : State} (h : handedOver ns s t) : handedOver ns s t.settle :=
  h.then (State.settle_writer t) (State.settle_ownAll t)

theorem handedOver_one (s : State) (n : Notice) : handedOver [n] s (s.notify n) := ⟨rfl, rfl⟩

/-- An upstream request that leaves the port changes nothing that notices read. -/
theorem State.freePort_inputs (s : State) : NoticeInputs s s.freePort := ⟨rfl, rfl, rfl, rfl⟩

end Sys2Proof.Machine
end

section
/-! PROOFS. Power-good, power loss, the state before power-good, and the DRAM port arbiter. -/

namespace Sys2Proof.Machine

/-! ### Power-good (R17) -/

/-- In START no lamp is lit, the flash arbiter starts nothing, and no request waits at the DRAM port. -/
theorem State.powerOn_settle (s : State) : s.powerOn.settle = s.powerOn := rfl

/-- Settles O4. -/
theorem powerGoodStartsImageRead : Obligations.PowerGoodStartsImageRead := by
  intro s hp
  have hexec : exec .powerGood s = done s.powerOn := by
    simp [exec, execPowerGood, hp]
  rw [hexec, done_eq, State.powerOn_settle]
  rfl

/-! ### Power loss (R142) -/

/-- Bytes of a blank range read as unlisted ones. -/
theorem Memory.read_of_blank {d : Byte} {m : Memory} {a n x : Nat} (h : Memory.blank d m a n = true)
    (hx : a ≤ x ∧ x < a + n) : Memory.read d m x = d := by
  induction m with
  | nil => rfl
  | cons c m ih =>
    obtain ⟨k, v⟩ := c
    obtain ⟨hc, hm⟩ : ((k < a ∨ a + n ≤ k) ∨ v = d) ∧ Memory.blank d m a n = true := by
      simpa [Memory.blank] using h
    by_cases hk : k = x
    · subst hk
      simpa [Memory.read] using hc.resolve_left (by omega)
    · by_cases hlt : x < k <;> simp [Memory.read, hk, hlt, ih hm]

/-- A range that was just programmed with bytes that are not all FFh is not blank. -/
theorem State.not_blank_flashWrite {s : State} (w : Memory.wf flashDefault s.flash = true) (a : Nat) (bs : List Byte)
    (h : ∃ b ∈ bs, b ≠ 0xFF) : Memory.blank flashDefault (s.flashWrite a bs).flash a bs.length = false := by
  obtain ⟨b, hb, hne⟩ := h
  obtain ⟨i, hi, rfl⟩ := List.getElem_of_mem hb
  refine Bool.eq_false_iff.mpr (fun hblank => hne ?_)
  have hx : a ≤ a + i ∧ a + i < a + bs.length := by omega
  have hread := Memory.read_of_blank hblank hx
  rw [State.flashWrite_flash, Memory.read_writeBytes bs a _ w, if_pos hx] at hread
  simpa [flashDefault, hi] using hread

/-- R142: 32 bytes that are not all FFh and no good record are what an interrupted program may leave. -/
theorem State.remainsOk_program {s : State} (r : JournalRecord) (remains : List Byte) (w : MemoriesOk s)
    (hlen : remains.length = 32) (hne : ∃ b ∈ remains, b ≠ 0xFF) (hbad : journalRecordOf remains r.place = none) :
    s.remainsOk (.program r) (placeAddr r.place, 32) remains = true := by
  have hread : (s.disturb (placeAddr r.place, 32) remains).placeBytes r.place = remains :=
    State.flashRead_flashWrite s _ 32 remains hlen w.2
  have hfree : (s.disturb (placeAddr r.place, 32) remains).placeFree r.place = false := by
    have h := State.not_blank_flashWrite w.2 (placeAddr r.place) remains hne
    rwa [hlen] at h
  simp [State.remainsOk, hlen, hread, hfree, hbad]

/-- Settles O5. -/
theorem powerLossKeepsOrTears : Obligations.PowerLossKeepsOrTears := by
  intro s remains hp
  constructor
  · intro hop
    have hloss : s.losePower remains = some s.powerOff := by
      unfold State.losePower
      cases h : s.flashPort.op with
      | none => rfl
      | some op => simp only [hop op h]
    simp [exec, execPowerLoss, hp, hloss, State.powerOff]
  · intro r hop w hlen hne hbad
    have hloss : s.losePower remains = some (s.disturb (placeAddr r.place, 32) remains).powerOff := by
      simp only [State.losePower, hop, FlashOp.range, State.remainsOk_program r remains w hlen hne hbad, if_true]
    refine ⟨_, by simp only [exec, execPowerLoss, hp, hloss]; rfl, ?_, rfl⟩
    exact flashHolds_of_write w _ _ rfl

/-! ### The DRAM port arbiter (R15) -/

/-- Settles O16. -/
theorem portServesOwnHeadAfterSixteen : Obligations.PortServesOwnHeadAfterSixteen := by
  intro up own n u r
  refine ⟨rfl, rfl, rfl, ?_, ?_, fun x => rfl, rfl⟩
  · intro h
    simp [Port.serve, h]
  · intro h
    simp [Port.serve, Nat.not_lt.mpr h]

/-! ### The invariants before power-good -/

theorem reset_lamps : LampsOk State.reset := by
  unfold LampsOk
  decide

theorem reset_purse : PurseOk State.reset := by
  unfold PurseOk
  decide

theorem reset_outs (o : Fin 6) : State.reset.outs[o] = Output.atPowerOn := by
  simp [State.reset]

theorem reset_ctxs (c : Fin 8) : State.reset.ctxs[c] = Context.free := by
  simp [State.reset]

/-- R58, R60: every output is IDLE, and no context has a member. -/
theorem reset_pool : PoolOk State.reset := by
  refine ⟨?_, ?_, ?_⟩
  · intro o t h
    rw [reset_outs] at h
    cases h
  · intro c o h
    rw [reset_ctxs] at h
    cases h
  · intro c h
    rw [reset_ctxs] at h
    cases h

/-- R59: no context is in use. -/
theorem reset_places : PlacesUnique State.reset := by
  intro c d t u h
  rw [reset_ctxs] at h
  cases h

/-- R25: no slot is TAKEN, and no own request waits. -/
theorem reset_intake : IntakeOk State.reset := by
  refine ⟨List.nodup_nil, ?_, ?_, List.Pairwise.nil⟩
  · intro n
    simp [State.reset, Intake.accounted]
  · intro r n h
    cases h

theorem reset_ring : RingOk State.reset := by
  refine ⟨by decide, by decide, by decide, by decide, ?_⟩
  intro r i h
  cases h

theorem windowInRange_none : windowInRange none := by
  intro a b h
  cases h

theorem pinInRange_zeros : pinInRange [0, 0, 0, 0] := by
  unfold pinInRange
  decide

theorem reset_profiles : ProfilesOk State.reset := by
  refine ⟨?_, ?_, pinInRange_zeros⟩
  · intro q
    have hq : State.reset.profiles[q] = Profile.unloaded := by simp [State.reset]
    rw [hq]
    exact ⟨by decide, windowInRange_none, by rintro b ⟨⟩, by decide, by decide, pinInRange_zeros, by decide⟩
  · intro q
    have hq : State.reset.cfg.factoryProfiles[q] = FactoryProfile.none := by simp [State.reset, Image.none]
    rw [hq]
    exact ⟨by decide, windowInRange_none, by rintro b ⟨⟩⟩

/-- R136: without power the flash port is not free to start an operation. -/
theorem reset_flash : FlashServed State.reset := by
  intro h
  exact absurd h (by decide)

/-- Settles O60. -/
theorem resetMeetsInvariants : Obligations.ResetMeetsInvariants :=
  ⟨State.reset_memories, reset_lamps, reset_purse, reset_pool, reset_places, reset_intake, reset_ring, reset_profiles,
    reset_flash⟩

end Sys2Proof.Machine
end

section
/-! PROOFS. The memory path: upstream requests (R1, R3, R23), passed requests (R6), rings (R4, R5), the pace window (R13) and
the part's own requests (R15). -/

namespace Sys2Proof.Machine

/-! ### Upstream requests (R1, R17, R18, R23) -/

/-- A well-formed request to a part with power always answers a next state. -/
theorem exec_upstreamRequest {r : Request} {s : State} (hr : r.wf = true) (hp : s.powerGood = true) :
    exec (.upstreamRequest r) s = .next (s.upstream r).settle := by
  have ha : r.addrOk = true := by
    simp only [Request.wf, Bool.and_eq_true] at hr
    exact hr.2
  simp [exec, execUpstreamRequest, ha, hr, hp, done]

/-- Where the blocks work, an upstream request is classified. -/
theorem State.upstream_running {s : State} (h : s.part.running = true) (r : Request) : s.upstream r = s.arrive r := by
  unfold State.upstream
  cases hp : s.part <;> simp_all [PartState.running]

/-- R23: the request is a write to a TAKEN slot. -/
def State.holdsBack (s : State) (u : UpReq) : Prop :=
  u.kind = .message ∧ isWrite u.req = true ∧ s.intake.taken[s.slotOf u.req.addr] = true

theorem State.presentOrHold_held {s : State} {u : UpReq} (h : s.holdsBack u) : s.presentOrHold u =
    s.modIntake (fun i => { i with held := i.held ++ [(s.slotOf u.req.addr, u)] }) := by
  obtain ⟨hk, hw, ht⟩ := h
  have hs : s.slotTaken (s.slotOf u.req.addr) = true := ht
  simp [State.presentOrHold, hk, hw, hs]

theorem State.presentOrHold_present {s : State} {u : UpReq} (h : ¬ s.holdsBack u) : s.presentOrHold u = s.present u := by
  unfold State.presentOrHold
  rw [if_neg]
  intro hc
  simp only [Bool.and_eq_true, decide_eq_true_eq] at hc
  obtain ⟨⟨hk, hw⟩, ht⟩ := hc
  exact h ⟨hk, hw, ht⟩

/-- Settles O9. -/
theorem requestsAreHeldOrPresented : Obligations.RequestsAreHeldOrPresented := by
  intro r s hr hp
  refine ⟨_, exec_upstreamRequest hr hp, ?_, ?_, ?_⟩
  · intro hpart
    have hup : s.upstream r = { s with path := { s.path with startHeld := s.path.startHeld ++ [r] } } := by
      simp only [State.upstream, hpart]
    rw [hup]
    exact ⟨by simp, (State.withPath_frame s _).settle⟩
  · intro hpart
    have hup : s.upstream r = s.present ⟨r, .plain, none, false⟩ := by
      simp only [State.upstream, hpart]
    rw [hup]
    exact ⟨by simp, (State.present_frame s _).settle⟩
  · intro hrun
    rw [State.upstream_running hrun]
    split
    · next h =>
      have hup : s.arrive r = _ := State.presentOrHold_held (u := ⟨r, s.classify r.addr, none, false⟩) h
      rw [hup]
      exact ⟨by simp, (State.modIntake_frame s _).settle⟩
    · next h =>
      have hup : s.arrive r = _ := State.presentOrHold_present (u := ⟨r, s.classify r.addr, none, false⟩) h
      rw [hup]
      exact ⟨by simp, (State.present_frame s _).settle⟩

/-! ### Passed requests (R3, R6) -/

theorem exec_passRequestComplete {s : State} {u : UpReq} (hs : s.servingUp = some u) (hc : s.completionOf u = .pass) :
    exec .passRequestComplete s = .next (s.passComplete u).settle := by
  simp [exec, execPassRequestComplete, hs, hc, done]

/-- A read writes nothing. -/
theorem writeData_of_read {r : Request} (h : isWrite r = false) : writeData r = [] := by
  unfold isWrite at h
  unfold writeData
  split at h <;> simp_all

/-- Where DRAM is the same, it holds nothing new. -/
theorem dramHolds_nil {s t : State} (a : Nat) (h : t.dram = s.dram) : dramHolds a [] s t := by
  intro x
  simp only [State.dramByte, h, List.length_nil]
  rw [if_neg (by omega)]

/-- Settles O10. -/
theorem passedRequestsReadAndWriteMemory : Obligations.PassedRequestsReadAndWriteMemory := by
  intro s u w hs hc
  refine ⟨_, exec_passRequestComplete hs hc, ?_⟩
  cases hw : isWrite u.req
  · have hpass : s.passComplete u = s.freePort.answer u (s.dramRead u.req.addr u.req.len) := by
      simp [State.passComplete, hw]
    rw [hpass, writeData_of_read hw]
    refine ⟨by simp [answersOne, State.answer_path], dramHolds_nil _ (by simp), by simp, ?_⟩
    exact ((State.freePort_frame_up hs).trans (State.answer_frame _ _ _) (by decide) (by decide)).settle
  · have hpass : s.passComplete u = s.completeWrite u := by
      simp [State.passComplete, hw]
    rw [hpass]
    exact ⟨by simp [answersOne], dramHolds_of_write w _ _ (by simp), by simp, (State.completeWrite_frame hs u).settle⟩

/-! ### Rings (R4, R5) -/

/-- R4, R5: a ring after an arrival, by the arrival and the ring's state. -/
theorem Ring.arrive_eq (r : Ring) (good : Bool) (now : Nat) : r.arrive good now =
    if good then
      (if r.state = .live then { r with good := satInc r.good, lastGood := some now }
       else { r with
        good := satInc r.good
        lastGood := some now
        goodRun := min 2 (r.goodRun + 1)
        state := if 1 ≤ r.goodRun then .live else .silent })
    else { r with bad := satInc r.bad, goodRun := if r.state = .live then r.goodRun else 0 } := by
  unfold Ring.arrive
  cases good <;> cases h : r.state <;> simp

/-- R5: the notices of an arrival: RING exactly where a second good arrival in a row finds the ring SILENT. -/
def Ring.arrivalNotices (r : Ring) (k : Fin 4) (good : Bool) : List Notice :=
  if r.state = .silent ∧ good = true ∧ 1 ≤ r.goodRun then [.ring k.val .live] else []

/-- R5: the state of a ring changes exactly with a RING notice. -/
theorem Ring.arrive_state (r : Ring) (good : Bool) (now : Nat) : (r.arrive good now).state =
    if r.state = .silent ∧ good = true ∧ 1 ≤ r.goodRun then .live else r.state := by
  unfold Ring.arrive
  cases good <;> cases h : r.state <;> simp

theorem State.modRing_inputs (s : State) (k : Fin 4) (f : Ring → Ring) : NoticeInputs s (s.modRing k f) :=
  ⟨rfl, rfl, rfl, rfl⟩

/-- R4, R5: what an arrival does: the ring of its window, then the notices of a changed state. -/
theorem State.arrival_eq (s : State) (k : Fin 4) (good : Bool) : s.arrival k good =
    ((s.path.rings[k]).arrivalNotices k good).foldl State.notify (s.modRing k (fun r => r.arrive good s.ticks.now)) := by
  have hring : (s.modRing k (fun r => r.arrive good s.ticks.now)).path.rings[k] =
      (s.path.rings[k]).arrive good s.ticks.now := by
    rw [State.modRing_get, if_pos rfl]
  unfold State.arrival State.noteRing Ring.arrivalNotices
  rw [hring, Ring.arrive_state]
  split
  · next h =>
    obtain ⟨hsil, -, -⟩ := h
    rw [hsil, if_neg (by decide), List.foldl_cons, List.foldl_nil]
  · simp

theorem State.arrival_frame (s : State) (k : Fin 4) (good : Bool) :
    Frame [.path, .own, .writer] s (s.arrival k good) := by
  rw [State.arrival_eq]
  exact (State.modRing_frame s k _).trans (Frame.foldl _ State.notify_frame _ _) (by decide) (by decide)

theorem exec_cellArrival {s : State} {u : UpReq} {k : Fin 4} {good : Bool} (hs : s.servingUp = some u)
    (hc : s.completionOf u = .arrival k good) :
    exec .cellArrival s = .next ((s.completeWrite u).arrival k good).settle := by
  simp [exec, execCellArrival, hs, hc, done]

theorem State.completeWrite_inputs (s : State) (u : UpReq) : NoticeInputs s (s.completeWrite u) :=
  ⟨by simp, by simp, by simp, by simp⟩

/-- Notices leave the path unit and the upstream requests alone. -/
theorem State.foldl_notify_path (ns : List Notice) (s : State) : (ns.foldl State.notify s).path = s.path :=
  (Frame.foldl _ State.notify_frame ns s).only .path (by decide)

theorem State.foldl_notify_upAll (ns : List Notice) (s : State) :
    (ns.foldl State.notify s).port.upAll = s.port.upAll :=
  (Frame.foldl _ State.notify_frame ns s).only .upstream (by decide)

theorem State.foldl_notify_dram (ns : List Notice) (s : State) : (ns.foldl State.notify s).dram = s.dram :=
  (Frame.foldl _ State.notify_frame ns s).only .dram (by decide)

/-- R4, R5: a cell arrival and its write. -/
theorem cellArrival_works {s : State} {u : UpReq} {k : Fin 4} {good : Bool} (w : MemoriesOk s)
    (hs : s.servingUp = some u) (t : State) (ht : t = (s.completeWrite u).arrival k good) :
    t.path.rings[k] = (s.path.rings[k]).arrive good s.ticks.now ∧
      (∀ x : Fin 4, x ≠ k → t.path.rings[x] = s.path.rings[x]) ∧
      handedOver ((s.path.rings[k]).arrivalNotices k good) s t ∧
      t.path.answers = s.path.answers ++ (if u.lost then [] else [⟨u.req, []⟩]) ∧
      dramHolds u.req.addr (writeData u.req) s t ∧ t.port.upAll = s.port.up := by
  have hr : ∀ x : Fin 4, (s.completeWrite u).path.rings[x] = s.path.rings[x] := by simp
  rw [State.arrival_eq, hr] at ht
  subst ht
  refine ⟨?_, ?_, ?_, ?_, dramHolds_of_write w _ _ ?_, ?_⟩
  · rw [State.foldl_notify_path, State.modRing_get, if_pos rfl, hr]
    simp
  · intro x hx
    rw [State.foldl_notify_path, State.modRing_get, if_neg (Ne.symm hx), hr]
  · refine handedOver.of_inputs (s1 := (s.completeWrite u).modRing k _) ⟨rfl, rfl⟩
      ((State.completeWrite_inputs s u).trans (State.modRing_inputs _ k _)) ?_
    simp [State.ownAll_of_servingUp hs]
  · rw [State.foldl_notify_path]
    simp
  · rw [State.foldl_notify_dram]
    simp
  · rw [State.foldl_notify_upAll]
    simp

theorem exec_silenceTimerExpiry {s : State} {k : Fin 4} (h : s.silenceDue k = true) :
    exec (.silenceTimerExpiry k) s = .next (s.fallSilent k).settle := by
  simp [exec, execSilenceTimerExpiry, h, done]

/-- Settles O11. -/
theorem ringsFollowArrivals : Obligations.RingsFollowArrivals := by
  constructor
  · intro s u k good w hs hc
    obtain ⟨hring, hother, hover, hans, hdram, hup⟩ := cellArrival_works (k := k) (good := good) w hs _ rfl
    refine ⟨_, exec_cellArrival hs hc, ?_, ?_, hover.settle, ?_, ?_, ?_, ?_⟩
    · rw [State.settle_path, hring, Ring.arrive_eq]
    · simpa using hother
    · simpa using hans
    · simpa [dramHolds, State.dramByte] using hdram
    · simpa using hup
    · exact ((State.completeWrite_frame hs u).trans (State.arrival_frame _ k good) (by decide) (by decide)).settle
  · intro s k h
    refine ⟨_, exec_silenceTimerExpiry h, by simp [State.fallSilent], ?_, ?_⟩
    · exact ((handedOver_one _ _).of_inputs (State.modRing_inputs s k _) rfl).settle
    · exact ((State.modRing_frame s k _).trans (State.notify_frame _ _) (by decide) (by decide)).settle

/-! ### The pace window (R13) -/

theorem State.openPace_frame (s : State) : Frame [.path, .upstream, .outputs] s s.openPace :=
  ⟨by simp [onlyChanges, Area.forall_iff, Area.same, State.openPace], rfl⟩

/-- Settles O14. -/
theorem paceWindowPresentsHeldReads : Obligations.PaceWindowPresentsHeldReads := by
  intro s h
  refine ⟨s.openPace.settle, by simp [exec, execPaceWindowOpen, h, done], ?_, ?_, ?_, (State.openPace_frame s).settle⟩
  · intro o
    simp [State.openPace]
  · simp [State.openPace]
  · simp [State.openPace]

/-! ### The part's own requests (R15) -/

/-- Settles O15. -/
theorem ownRequestsComplete : Obligations.OwnRequestsComplete := by
  intro s r w hs
  have hframe := State.completeOwn_frame hs r
  refine ⟨?_, ?_, ?_⟩
  · intro hk
    refine ⟨(s.completeOwn r).settle, by simp [exec, execOwnWriteComplete, hs, hk, done], ?_, by simp, hframe.settle⟩
    exact dramHolds_of_write w _ _ (by simp)
  · intro hk
    refine ⟨((s.completeOwn r).modWriter (fun x => { x with consumerCopy := [0, 0, 0, 0] })).settle,
      by simp [exec, execControlBlockWriteComplete, hs, hk, done], ?_, by simp, by simp, ?_⟩
    · exact dramHolds_of_write w _ _ (by simp)
    · exact (hframe.trans (State.modWriter_frame _ _) (by decide) (by decide)).settle
  · intro n hk hv
    refine ⟨s.freePort.settle, by simp [exec, execDiscardedFetchComplete, hs, hk, hv, done], by simp, ?_⟩
    exact (State.freePort_frame_own hs).settle

end Sys2Proof.Machine
end

section
/-! PROOFS. The configuration image (R17, R18, R188): what becomes of the requests held in START. -/

namespace Sys2Proof.Machine

/-- Several upstream requests join the tail of the upstream FIFO. -/
def State.presentAll (s : State) (us : List UpReq) : State := { s with port := { s.port with up := s.port.up ++ us } }

theorem State.presentAll_frame (s : State) (us : List UpReq) : Frame [.upstream] s (s.presentAll us) :=
  ⟨by simp [onlyChanges, Area.forall_iff, Area.same, State.presentAll], rfl⟩

@[simp] theorem State.presentAll_upAll (s : State) (us : List UpReq) :
    (s.presentAll us).port.upAll = s.port.upAll ++ us := Port.appendUp_upAll _ _

@[simp] theorem State.presentAll_classify (s : State) (us : List UpReq) (a : Nat) :
    (s.presentAll us).classify a = s.classify a := rfl

@[simp] theorem State.settle_classify (s : State) (a : Nat) : s.settle.classify a = s.classify a := by
  simp only [State.classify, State.inCapture, State.settle_cfg]

theorem State.foldl_present (us : List UpReq) (s : State) : us.foldl State.present s = s.presentAll us := by
  induction us generalizing s with
  | nil => simp [State.presentAll]
  | cons u us ih => simp [ih, State.presentAll, State.present]

/-- With every slot FREE, no request is held back (R23). -/
theorem State.arrive_of_free {s : State} (h : ∀ n : Fin 256, s.intake.taken[n] = false) (r : Request) :
    s.arrive r = s.present ⟨r, s.classify r.addr, none, false⟩ := by
  refine State.presentOrHold_present ?_
  rintro ⟨-, -, ht⟩
  rw [h] at ht
  cases ht

/-- R17: with every slot FREE, the requests held in START are presented in their order, classified under the new map. -/
theorem State.foldl_arrive {s : State} (h : ∀ n : Fin 256, s.intake.taken[n] = false) (rs : List Request) :
    rs.foldl State.arrive s = s.presentAll (rs.map (fun r => ⟨r, s.classify r.addr, none, false⟩)) := by
  induction rs generalizing s with
  | nil => simp [State.presentAll]
  | cons r rs ih =>
    have hc : ∀ a, (s.present ⟨r, s.classify r.addr, none, false⟩).classify a = s.classify a := fun _ => rfl
    rw [List.foldl_cons, State.arrive_of_free h, ih (s := s.present ⟨r, s.classify r.addr, none, false⟩) h]
    simp only [hc]
    simp [State.presentAll, State.present]

/-- An operation of the flash port is in progress (R137). -/
theorem State.flashFree_of_op {s : State} {op : FlashOp} (h : s.flashPort.op = some op) : s.flashFree = false := by
  simp [State.flashFree, h]

/-- The flash port starts nothing before the mount is complete (R137). -/
theorem State.flashFree_of_part {s : State} (h : s.part.mounted = false) : s.flashFree = false := by
  simp [State.flashFree, h]

/-- R17, R188: a good image: MOUNTING, the factory rights and profiles, the control-block write, the settings read; then
the requests held in START are released. -/
def State.imageLoaded (s : State) (i : Image) : State :=
  ({ s with
    cfg := i
    rights := i.factoryRights
    profiles := i.profiles
    part := .mounting
    flashPort := { s.flashPort with op := some .settingsRead }
    path := { s.path with startHeld := [] } } : State).issueControlBlock

theorem State.loadImage_eq {s : State} (h : ∀ n : Fin 256, s.intake.taken[n] = false) (i : Image) : s.loadImage i =
    (s.imageLoaded i).presentAll
      (s.path.startHeld.map (fun r => ⟨r, (s.imageLoaded i).classify r.addr, none, false⟩)) :=
  State.foldl_arrive (s := s.imageLoaded i) h s.path.startHeld

theorem State.imageLoaded_frame {s : State} (hop : s.flashPort.op = some .imageRead) (i : Image) :
    Frame [.power, .config, .path, .own, .rights, .profiles, .flashWork] s (s.imageLoaded i) := by
  refine ⟨by simp [onlyChanges, Area.forall_iff, Area.same, State.imageLoaded, State.issueControlBlock], ?_⟩
  rw [State.flashFree_of_op hop]
  exact State.flashFree_of_op (op := .settingsRead) rfl

theorem State.imageLoaded_upAll (s : State) (i : Image) : (s.imageLoaded i).port.upAll = s.port.upAll := rfl

/-- R18: a bad image: FAULT, and the flash port is idle. -/
def State.faulted (s : State) : State :=
  { s.freeFlash with part := .fault, path := { s.path with startHeld := [] } }

theorem State.enterFault_eq (s : State) : s.enterFault =
    s.faulted.presentAll (s.path.startHeld.map (fun r => ⟨r, .plain, none, false⟩)) := by
  rw [← State.foldl_present, List.foldl_map]
  rfl

theorem State.faulted_frame {s : State} (hop : s.flashPort.op = some .imageRead) :
    Frame [.power, .path, .flashWork] s s.faulted := by
  refine ⟨by simp [onlyChanges, Area.forall_iff, Area.same, State.faulted], ?_⟩
  rw [State.flashFree_of_op hop]
  exact State.flashFree_of_part rfl

theorem exec_configImageReadComplete {s : State} (hop : s.flashPort.op = some .imageRead) :
    exec .configImageReadComplete s =
      .next (if imageGood s.imageBytes then s.loadImage (imageOf s.imageBytes) else s.enterFault).settle := by
  simp only [exec, execConfigImageReadComplete, hop, done]
  split <;> rfl

theorem State.loadImage_frame {s : State} (hop : s.flashPort.op = some .imageRead)
    (hfree : ∀ n : Fin 256, s.intake.taken[n] = false) (i : Image) :
    Frame [.power, .config, .path, .upstream, .own, .rights, .profiles, .flashWork] s (s.loadImage i) := by
  rw [State.loadImage_eq hfree]
  exact (State.imageLoaded_frame hop i).trans (State.presentAll_frame _ _) (by decide) (by decide)

theorem State.enterFault_frame {s : State} (hop : s.flashPort.op = some .imageRead) :
    Frame [.power, .path, .upstream, .flashWork] s s.enterFault := by
  rw [State.enterFault_eq]
  exact (State.faulted_frame hop).trans (State.presentAll_frame _ _) (by decide) (by decide)

/-- Settles O7. -/
theorem imageReadMountsOrFaults : Obligations.ImageReadMountsOrFaults := by
  intro s hop hfree
  have hexec := exec_configImageReadComplete hop
  constructor
  · intro hgood
    have hframe := State.loadImage_frame hop hfree (imageOf s.imageBytes)
    obtain ⟨hport, -, -⟩ := State.settle_busy _ (hframe.free.trans (State.flashFree_of_op hop))
    rw [if_pos hgood] at hexec
    refine ⟨_, hexec, ?_, ?_, ?_, ?_, ?_, ?_, ?_, ?_, hframe.settle⟩
    case refine_5 => rw [hport, State.loadImage_eq hfree]; rfl
    case refine_8 => simp [State.loadImage_eq hfree, State.imageLoaded_upAll]
    all_goals simp [State.loadImage_eq hfree, State.presentAll, State.imageLoaded, State.issueControlBlock]
  · intro hbad
    have hframe := State.enterFault_frame hop
    obtain ⟨hport, -, -⟩ := State.settle_busy _ (hframe.free.trans (State.flashFree_of_op hop))
    rw [if_neg (by simp [hbad])] at hexec
    refine ⟨_, hexec, ?_, ?_, ?_, ?_, hframe.settle⟩
    case refine_2 => rw [hport, State.enterFault_eq]; rfl
    all_goals simp [State.enterFault_eq, State.presentAll, State.faulted]

end Sys2Proof.Machine
end

section
/-! PROOFS. Records: how an attached record is answered (R31, R32), how the processing of a detached one ends (R34), and the
refusals of R28, R29, R43, R49, R85 to R87 and R104. -/

namespace Sys2Proof.Machine

/-! ### The record at hand (R27, R34) -/

/-- The fetch of an attached record is the own request in service. -/
theorem State.fetch_in_service {s : State} {f : Fetched} (hf : s.fetched = some f) (ha : f.attached = true) :
    ∃ r : OwnReq, s.servingOwn = some r := by
  cases hr : s.servingOwn with
  | some r => exact ⟨r, rfl⟩
  | none =>
    unfold State.fetched at hf
    rw [hr] at hf
    split at hf
    · cases hf
    · split at hf <;> cases hf
      cases ha

/-- When the fetch of an attached record completes, only the own requests change. -/
theorem State.fetched_freePort_frame {s : State} {f : Fetched} (hf : s.fetched = some f) (ha : f.attached = true) :
    Frame [.own] s s.freePort := by
  obtain ⟨r, hr⟩ := State.fetch_in_service hf ha
  exact State.freePort_frame_own hr

/-! ### The stages of a record (R28 to R32) -/

/-- R28, R30: a record of the right length that the part-state screen lets through reaches its owning block. -/
theorem State.carryOut_dispatched (s : State) {f : Fetched} {k : Kind} (effect : Effect)
    (hl : f.bytes.lengthOk k = true) (hsc : screen k s.part = none) : s.carryOut f k effect = effect s f := by
  simp [State.carryOut, hl, hsc]

/-- R28: a record of a wrong length is answered BAD_LENGTH. -/
theorem State.carryOut_badLength (s : State) {f : Fetched} {k : Kind} (effect : Effect)
    (hl : f.bytes.lengthOk k = false) :
    s.carryOut f k effect = (s.countBadLength k f.attached, answered .badLength) := by
  simp [State.carryOut, hl]

/-- R29: the part-state screen answers a record of the right length with its own code. -/
theorem State.carryOut_screened (s : State) {f : Fetched} {k : Kind} {c : Code} (effect : Effect)
    (hl : f.bytes.lengthOk k = true) (hsc : screen k s.part = some c) : s.carryOut f k effect = (s, answered c) := by
  simp [State.carryOut, hl, hsc]

/-- A record command whose record is at hand: what carrying the record out leaves is finished and settled. -/
theorem recordStep_of_fetched {s u : State} {f : Fetched} {k : Kind} {mine : Record → Bool} {effect : Effect}
    {out : Outcome} (hf : s.fetched = some f) (hk : f.bytes.kind = some k) (hm : mine f.bytes = true)
    (hc : (s.fetchDone f).carryOut f k effect = (u, out)) :
    recordStep s k mine effect = .next (u.finishRecord f (u.scrubWrites f.slot k) out).settle := by
  simp [recordStep, State.processRecord, hf, hk, hm, hc, done]

theorem State.fetchDone_attached (s : State) {f : Fetched} (ha : f.attached = true) : s.fetchDone f = s.freePort := by
  simp [State.fetchDone, ha]

theorem State.fetchDone_detached (s : State) {f : Fetched} (ha : f.attached = false) : s.fetchDone f = s := by
  simp [State.fetchDone, ha]

/-- A record command whose attached record reaches its owning block. -/
theorem recordStep_atHand {s u : State} {f : Fetched} {k : Kind} {mine : Record → Bool} {effect : Effect}
    {out : Outcome} (h : atHand s k f) (hm : mine f.bytes = true) (he : effect s.freePort f = (u, out)) :
    recordStep s k mine effect = .next (u.finishRecord f (u.scrubWrites f.slot k) out).settle := by
  obtain ⟨hf, ha, hk, hl, hsc⟩ := h
  refine recordStep_of_fetched hf hk hm ?_
  rw [State.fetchDone_attached s ha, State.carryOut_dispatched s.freePort effect hl hsc, he]

/-! ### Attached records: scrub and outcome (R31, R32) -/

theorem State.finishRecord_attached (u : State) {f : Fetched} (ha : f.attached = true) (ws : List OwnReq)
    (out : Outcome) : u.finishRecord f ws out =
      (u.issueAll (ws ++ [u.outcomeWrite f.slot out])).modIntake (fun i => { i with proc := some ⟨f.slot, .decided⟩ }) := by
  simp [State.finishRecord, ha]

theorem State.finishRecord_attached_frame (u : State) {f : Fetched} (ha : f.attached = true) (ws : List OwnReq)
    (out : Outcome) : Frame [.own, .intake] u (u.finishRecord f ws out) := by
  rw [State.finishRecord_attached u ha]
  exact (State.issueAll_frame u _).trans (State.modIntake_frame _ _) (by decide) (by decide)

/-- R31, R32: a record finished with the DRAM port free is answered. -/
theorem State.finishRecord_answers {u : State} {f : Fetched} (ha : f.attached = true) (hp : u.port.serving = none)
    (k : Kind) (out : Outcome) : answersWith f k out u (u.finishRecord f (u.scrubWrites f.slot k) out).settle := by
  have hown : u.port.ownAll = u.port.own := by simp [Port.ownAll, hp]
  rw [State.finishRecord_attached u ha]
  exact ⟨by simp [hown], by simp⟩

/-- R31, R32: a record whose effect left the state as it was is answered and nothing else happens. -/
theorem finishRecord_onlyAnswers {s : State} {f : Fetched} (hf : s.fetched = some f) (ha : f.attached = true)
    (k : Kind) (out : Outcome) :
    onlyAnswers f k out s (s.freePort.finishRecord f (s.freePort.scrubWrites f.slot k) out).settle :=
  ⟨State.finishRecord_answers ha rfl k out,
    ((State.fetched_freePort_frame hf ha).trans (State.finishRecord_attached_frame _ ha _ _) (by decide)
      (by decide)).settle⟩

/-- A record command of an attached record that its stages refuse without an effect. -/
theorem recordStep_refused {s : State} {f : Fetched} {k : Kind} {mine : Record → Bool} {effect : Effect}
    {out : Outcome} (hf : s.fetched = some f) (ha : f.attached = true) (hk : f.bytes.kind = some k)
    (hm : mine f.bytes = true) (hc : s.freePort.carryOut f k effect = (s.freePort, out)) :
    ∃ t : State, recordStep s k mine effect = .next t ∧ onlyAnswers f k out s t :=
  ⟨_, recordStep_of_fetched hf hk hm (by rw [State.fetchDone_attached s ha, hc]), finishRecord_onlyAnswers hf ha k out⟩

/-- A record command of an attached record that its owning block refuses without an effect. -/
theorem recordStep_turnedAway {s : State} {f : Fetched} {k : Kind} {mine : Record → Bool} {effect : Effect}
    {out : Outcome} (h : atHand s k f) (hm : mine f.bytes = true) (he : effect s.freePort f = (s.freePort, out)) :
    ∃ t : State, recordStep s k mine effect = .next t ∧ onlyAnswers f k out s t := by
  have ⟨hf, ha, _⟩ := h
  exact ⟨_, recordStep_atHand h hm he, finishRecord_onlyAnswers hf ha k out⟩

/-- R56: a record command of an attached record that its owning block refuses, raising a guide counter alone. -/
theorem recordStep_counted {s : State} {f : Fetched} {k : Kind} {mine : Record → Bool} {effect : Effect}
    {out : Outcome} (g : GuideCounters → GuideCounters) (h : atHand s k f) (hm : mine f.bytes = true)
    (he : effect s.freePort f = (s.freePort.modGuideCounters g, out)) :
    ∃ t : State, recordStep s k mine effect = .next t ∧ answersWith f k out s.freePort t ∧
      t.guide = { s.guide with counters := g s.guide.counters } ∧ onlyChanges [.own, .intake, .guide] s t := by
  have ⟨hf, ha, _⟩ := h
  have hfinish := State.finishRecord_attached_frame (s.freePort.modGuideCounters g) ha
    ((s.freePort.modGuideCounters g).scrubWrites f.slot k) out
  refine ⟨_, recordStep_atHand h hm he, State.finishRecord_answers (u := s.freePort.modGuideCounters g) ha rfl k out,
    ?_, ?_⟩
  · rw [State.settle_guide]
    exact hfinish.only .guide (by decide)
  · exact (((State.fetched_freePort_frame hf ha).trans (State.modGuideCounters_frame _ g)
      (cs := [.own, .guide]) (by decide) (by decide)).trans hfinish (by decide) (by decide)).settle

/-! ### Detached records (R34, R26) -/

/-- R34: the processing of a detached record ends, and the next record is selected. -/
def State.endProcessing (s : State) : State := (s.modIntake (fun i => { i with proc := none })).select

theorem State.finishRecord_detached (u : State) {f : Fetched} (ha : f.attached = false) (ws : List OwnReq)
    (out : Outcome) : u.finishRecord f ws out = u.endProcessing := by
  simp [State.finishRecord, ha, State.endProcessing]

/-- R26: with both queues empty there is no choice. -/
theorem Intake.choose_empty {i : Intake} (hu : i.urgent = []) (hb : i.bulk = []) : i.choose = none := by
  simp [Intake.choose, hu, hb]

/-- R26: the urgent head, while the streak is below 4 or no bulk record waits. -/
theorem Intake.choose_urgent {i : Intake} {x : Fin 256} {xs : List (Fin 256)} (hu : i.urgent = x :: xs)
    (h : i.streak < 4 ∨ i.bulk = []) :
    i.choose = some (x, { i with urgent := xs, streak := min 4 (i.streak + 1) }) := by
  unfold Intake.choose
  cases hb : i.bulk with
  | nil => simp [hu]
  | cons y ys =>
    have hs : i.streak < 4 := by simpa [hb] using h
    simp [hu, hs]

/-- R26: the bulk head, after four urgent records in a row or with no urgent one waiting. -/
theorem Intake.choose_bulk {i : Intake} {x : Fin 256} {xs : List (Fin 256)} (hb : i.bulk = x :: xs)
    (h : 4 ≤ i.streak ∨ i.urgent = []) : i.choose = some (x, { i with bulk := xs, streak := 0 }) := by
  unfold Intake.choose
  cases hu : i.urgent with
  | nil => simp [hb]
  | cons y ys =>
    have hs : ¬ i.streak < 4 := by simpa [hu] using h
    simp [hb, hs]

/-- R26: selection with no record in processing follows Intake's choice. -/
theorem State.select_of_none {s : State} (hp : s.intake.proc = none) (hc : s.intake.choose = none) : s.select = s := by
  simp [State.select, hp, hc]

theorem State.select_of_some {s : State} {n : Fin 256} {i : Intake} (hp : s.intake.proc = none)
    (hc : s.intake.choose = some (n, i)) :
    s.select = ({ s with intake := { i with proc := some ⟨n, .fetching⟩ } } : State).issue (s.fetchRead n) := by
  simp [State.select, hp, hc]

theorem State.select_frame (s : State) : Frame [.own, .intake] s s.select := by
  unfold State.select
  split
  · exact Frame.refl _ s
  · split
    · exact Frame.refl _ s
    · exact ⟨by simp [onlyChanges, Area.forall_iff, Area.same], rfl⟩

theorem State.endProcessing_frame (s : State) : Frame [.own, .intake] s s.endProcessing :=
  (State.modIntake_frame s _).trans (State.select_frame _) (by decide) (by decide)

/-- R34, R26: how the processing of a detached record ends. -/
theorem State.endProcessing_ends (s : State) : endsDetached s s.endProcessing.settle := by
  refine ⟨?_, ?_, ?_⟩
  · intro hu hb
    have hsel : s.endProcessing = s.modIntake (fun i => { i with proc := none }) :=
      State.select_of_none rfl (Intake.choose_empty hu hb)
    rw [hsel]
    exact ⟨by simp, by simp⟩
  · intro x xs hu h
    have hsel : s.endProcessing = _ := State.select_of_some (s := s.modIntake (fun i => { i with proc := none })) rfl
      (Intake.choose_urgent (i := { s.intake with proc := none }) hu h)
    rw [hsel]
    exact ⟨by simp, by simp; rfl⟩
  · intro x xs hb h
    have hsel : s.endProcessing = _ := State.select_of_some (s := s.modIntake (fun i => { i with proc := none })) rfl
      (Intake.choose_bulk (i := { s.intake with proc := none }) hb h)
    rw [hsel]
    exact ⟨by simp, by simp; rfl⟩

/-- A record command of a detached record. -/
theorem recordStep_detached {s u : State} {f : Fetched} {k : Kind} {mine : Record → Bool} {effect : Effect}
    {out : Outcome} (hf : s.fetched = some f) (ha : f.attached = false) (hk : f.bytes.kind = some k)
    (hm : mine f.bytes = true) (hc : s.carryOut f k effect = (u, out)) :
    recordStep s k mine effect = .next u.endProcessing.settle := by
  have h := recordStep_of_fetched hf hk hm (effect := effect) (by rw [State.fetchDone_detached s ha, hc])
  rwa [State.finishRecord_detached u ha] at h

/-! ### Records of no kind (R28) -/

theorem exec_recordBadKind {s : State} {f : Fetched} (hf : s.fetched = some f) (hk : f.bytes.kind = none) :
    exec .recordBadKind s = .next (s.badKind f).settle := by
  simp [exec, execRecordBadKind, hf, hk, done]

/-! ### The outcomes of the owning blocks' refusals -/

/-- R85: a KEY record that fails its integrity check. -/
theorem State.keyRecord_badCheck (s : State) {u : KeyUnwrap} (r : Record) (h : u.pass = false) :
    s.keyRecord u r = (s, answered .badCheck) := by
  simp [State.keyRecord, keyChecks, h]

/-- R86: a KEY record that finds no context. -/
theorem State.keyRecord_ignored (s : State) {u : KeyUnwrap} {r : Record} (hk : keyChecks u.pass r = none)
    (hc : s.findContext (r.b2 0) (r.b1 2) = none) : s.keyRecord u r = (s, answered .ignored) := by
  simp [State.keyRecord, hk, hc]

/-- R87: an epoch 32,768 or more ahead mod 65,536 is an older one. -/
theorem epochOrder_older {n m : Nat} (h : 32768 ≤ (n + 65536 - m) % 65536) : epochOrder n (some m) = .older := by
  unfold epochOrder
  dsimp only
  rw [if_neg (by omega), if_neg (by omega)]

theorem State.keyRecord_stale (s : State) {u : KeyUnwrap} {r : Record} {c : Fin 8} {m : Nat}
    (hk : keyChecks u.pass r = none) (hc : s.findContext (r.b2 0) (r.b1 2) = some c)
    (he : (s.ctxs[c]).epoch = some m) (h : 32768 ≤ (r.b2 4 + 65536 - m) % 65536) :
    s.keyRecord u r = (s, answered .stale) := by
  simp only [State.keyRecord, hk, hc, he, epochOrder_older h]

/-- R104: a RIGHTS record that fails a check. -/
theorem State.rightsRecord_refused (s : State) {pass : Bool} {op : RightsOp} {out : Outcome}
    (h : s.rightsCheck pass op = some out) : s.rightsRecord pass op = (s, out) := by
  simp [State.rightsRecord, h]

theorem State.eventsRecord_of_check (s : State) {f : Fetched} {r : State × Outcome}
    (h : s.eventsCheck f.bytes = some r) : s.eventsRecord f = r := by
  simp [State.eventsRecord, h]

/-- R49 check 1: the section CRC. -/
theorem State.eventsCheck_badCrc (s : State) {r : Record} (h : r.sectionCrc ≠ crc32 r.sectionBytes) :
    s.eventsCheck r =
      some (s.modGuideCounters (fun c => { c with crcFailed := satInc c.crcFailed }), answered .badCheck) := by
  simp [State.eventsCheck, h]

/-- R49 check 2: the fields. -/
theorem State.eventsCheck_badField (s : State) {r : Record} (hc : r.sectionCrc = crc32 r.sectionBytes)
    (h : r.b2 0 < 1 ∨ 9999 < r.b2 0 ∨ 31 < r.b1 2 ∨ r.sectionEvents.all SectionEvent.ok = false) :
    s.eventsCheck r = some (s.countMalformed, answered .badField) := by
  have h' : r.b2 0 < 1 ∨ 9999 < r.b2 0 ∨ 31 < r.b1 2 ∨ (!r.sectionEvents.all SectionEvent.ok) = true := by
    simpa only [Bool.not_eq_true'] using h
  unfold State.eventsCheck
  rw [if_neg (not_not_intro hc), if_pos h']

/-- R49: an EVENTS record whose fields are good passes check 2. -/
theorem Record.fieldsGood {r : Record} (h1 : 1 ≤ r.b2 0) (h2 : r.b2 0 ≤ 9999) (h3 : r.b1 2 ≤ 31)
    (h4 : r.sectionEvents.all SectionEvent.ok = true) :
    ¬ (r.b2 0 < 1 ∨ 9999 < r.b2 0 ∨ 31 < r.b1 2 ∨ (!r.sectionEvents.all SectionEvent.ok) = true) := by
  rw [h4]
  simp
  omega

/-- R49: an EVENTS record of a service without a map entry. -/
theorem State.eventsCheck_unknown {s : State} {r : Record} (hc : r.sectionCrc = crc32 r.sectionBytes)
    (hf : ¬ (r.b2 0 < 1 ∨ 9999 < r.b2 0 ∨ 31 < r.b1 2 ∨ (!r.sectionEvents.all SectionEvent.ok) = true))
    (he : s.guide.entry (r.b2 0) = none) : s.eventsCheck r = some (s.countMalformed, answered .unknownService) := by
  unfold State.eventsCheck
  rw [if_neg (not_not_intro hc), if_neg hf]
  simp only [he]

/-- R49: an EVENTS record of the stored section version. -/
theorem State.eventsCheck_stale {s : State} {r : Record} {e : MapEntry} (hc : r.sectionCrc = crc32 r.sectionBytes)
    (hf : ¬ (r.b2 0 < 1 ∨ 9999 < r.b2 0 ∨ 31 < r.b1 2 ∨ (!r.sectionEvents.all SectionEvent.ok) = true))
    (he : s.guide.entry (r.b2 0) = some e) (hv : e.version = some (r.b1 2)) : s.eventsCheck r =
      some (s.modGuideCounters (fun c => { c with stale := satInc c.stale }), answered .stale) := by
  unfold State.eventsCheck
  rw [if_neg (not_not_intro hc), if_neg hf]
  simp only [he, hv, if_true]

/-- R43: a SERVICES record with a bad item. -/
theorem State.servicesRecord_badField (s : State) (v : Nat) {items : List ServiceItem}
    (h : items.all ServiceItem.ok = false) : s.servicesRecord v items = (s.countMalformed, answered .badField) := by
  simp [State.servicesRecord, h]

/-! ### A slot fetch that waits (R16) -/

/-- R16: the own head is a slot fetch; it waits exactly while an upstream write to its slot does. -/
theorem State.fetchWaits_iff {s : State} {n : Fin 256} {r : OwnReq} {rest : List OwnReq} (ho : s.port.own = r :: rest)
    (hr : r.what = .fetch n) : s.fetchWaits = true ↔
      ∃ u ∈ s.port.up, u.kind = .message ∧ isWrite u.req = true ∧ s.slotOf u.req.addr = n := by
  simp [State.fetchWaits, ho, hr, and_assoc]

/-- R16: a fetch that waits is passed over, however often it was before. -/
theorem State.serveDram_waits {s : State} {n : Fin 256} {r : OwnReq} {rest : List OwnReq} (ho : s.port.own = r :: rest)
    (hr : r.what = .fetch n) (hs : s.port.serving = none)
    (h : ∃ u ∈ s.port.up, u.kind = .message ∧ isWrite u.req = true ∧ s.slotOf u.req.addr = n) :
    ∃ (u : UpReq) (us : List UpReq), s.port.up = u :: us ∧ s.serveDram.port.serving = some (.upstream u) ∧
      s.serveDram.port.own = r :: rest := by
  have hw := (State.fetchWaits_iff ho hr).mpr h
  obtain ⟨v, hv, -⟩ := h
  obtain ⟨u, us, hu⟩ := List.exists_cons_of_ne_nil (List.ne_nil_of_mem hv)
  exact ⟨u, us, hu, by simp [Port.serve, hs, hu, ho, hw], by simp [Port.serve, hs, hu, ho, hw]⟩

/-- R15: a fetch that no write holds back is served where it is due. -/
theorem State.serveDram_serves {s : State} {n : Fin 256} {r : OwnReq} {rest : List OwnReq} (ho : s.port.own = r :: rest)
    (hr : r.what = .fetch n) (hs : s.port.serving = none)
    (h : ∀ u ∈ s.port.up, u.kind = .message → isWrite u.req = true → s.slotOf u.req.addr ≠ n)
    (hd : s.port.up = [] ∨ 16 ≤ s.port.pass) : s.serveDram.port.serving = some (.own r) := by
  have hw : s.fetchWaits = false := by
    refine Bool.eq_false_iff.mpr (fun hw => ?_)
    obtain ⟨u, hu, hk, hwr, hn⟩ := (State.fetchWaits_iff ho hr).mp hw
    exact h u hu hk hwr hn
  rw [State.serveDram_port, hw]
  cases hu : s.port.up with
  | nil => simp [Port.serve, hs, hu, ho]
  | cons u us =>
    have hp : ¬ s.port.pass < 16 := by
      rw [hu] at hd
      simpa using hd
    simp [Port.serve, hs, hu, ho, hp]

end Sys2Proof.Machine
end

section
/-! PROOFS. The statement about refused records, detached records and the bytes of answers, part by part. -/

namespace Sys2Proof.Machine

variable {s : State} {f : Fetched}

/-- R28: an attached record of no kind. -/
theorem recordBadKind_attached (hf : s.fetched = some f) (ha : f.attached = true) (hk : f.bytes.kind = none) :
    ∃ t : State, exec .recordBadKind s = .next t ∧
      t.port.ownAll = s.port.own ++ [s.outcomeWrite f.slot ⟨.badKind, 0⟩] ∧
      t.intake = { s.intake with proc := some ⟨f.slot, .decided⟩ } ∧ onlyChanges [.own, .intake] s t := by
  refine ⟨_, exec_recordBadKind hf hk, ?_⟩
  have hframe := (State.fetched_freePort_frame hf ha).trans
    (State.finishRecord_attached_frame s.freePort ha [] (answered .badKind)) (cs := [.own, .intake]) (by decide) (by decide)
  rw [State.badKind, State.fetchDone_attached s ha]
  refine ⟨?_, ?_, hframe.settle⟩
  · rw [State.settle_ownAll, State.finishRecord_attached _ ha]
    simp
    rfl
  · rw [State.settle_intake, State.finishRecord_attached _ ha]
    rfl

/-- R28, R29, R31: an attached BUY of a wrong length, or turned away by the part state. -/
theorem buy_refused (hf : s.fetched = some f) (ha : f.attached = true) (hk : f.bytes.kind = some .buy) :
    (f.bytes.lengthOk .buy = false → ∃ t : State, exec .buy s = .next t ∧ onlyAnswers f .buy ⟨.badLength, 0⟩ s t) ∧
    (f.bytes.lengthOk .buy = true → s.part = .mounting →
      ∃ t : State, exec .buy s = .next t ∧ onlyAnswers f .buy ⟨.notReady, 0⟩ s t) ∧
    (f.bytes.lengthOk .buy = true → s.part = .standby →
      ∃ t : State, exec .buy s = .next t ∧ onlyAnswers f .buy ⟨.standby, 0⟩ s t) := by
  refine ⟨?_, ?_, ?_⟩
  · intro hl
    exact recordStep_refused hf ha hk rfl (State.carryOut_badLength s.freePort _ hl)
  · intro hl hp
    exact recordStep_refused hf ha hk rfl (State.carryOut_screened s.freePort _ hl (by simp [hp, screen]))
  · intro hl hp
    exact recordStep_refused hf ha hk rfl (State.carryOut_screened s.freePort _ hl (by simp [hp, screen]))

/-- R85 to R87: a KEY that fails its integrity check, finds no context, or carries an older epoch. -/
theorem key_refused (u : KeyUnwrap) (h : atHand s .key f) :
    (u.pass = false → ∃ t : State, exec (.key u) s = .next t ∧ onlyAnswers f .key ⟨.badCheck, 0⟩ s t) ∧
    (keyChecks u.pass f.bytes = none → s.findContext (f.bytes.b2 0) (f.bytes.b1 2) = none →
      ∃ t : State, exec (.key u) s = .next t ∧ onlyAnswers f .key ⟨.ignored, 0⟩ s t) ∧
    (∀ (c : Fin 8) (m : Nat), keyChecks u.pass f.bytes = none →
      s.findContext (f.bytes.b2 0) (f.bytes.b1 2) = some c → (s.ctxs[c]).epoch = some m → m < 65536 →
      32768 ≤ (f.bytes.b2 4 + 65536 - m) % 65536 →
      ∃ t : State, exec (.key u) s = .next t ∧ onlyAnswers f .key ⟨.stale, 0⟩ s t) := by
  refine ⟨?_, ?_, ?_⟩
  · intro hp
    exact recordStep_turnedAway h rfl (State.keyRecord_badCheck s.freePort f.bytes hp)
  · intro hk hc
    exact recordStep_turnedAway h rfl (State.keyRecord_ignored s.freePort hk hc)
  · intro c m hk hc he _ hd
    exact recordStep_turnedAway h rfl (State.keyRecord_stale s.freePort hk hc he hd)

/-- R49: an EVENTS record of the stored section version. -/
theorem events_stale {e : MapEntry} (h : atHand s .events f) (hc : f.bytes.sectionCrc = crc32 f.bytes.sectionBytes)
    (h1 : 1 ≤ f.bytes.b2 0) (h2 : f.bytes.b2 0 ≤ 9999) (h3 : f.bytes.b1 2 ≤ 31)
    (h4 : f.bytes.sectionEvents.all SectionEvent.ok = true) (he : s.guide.entry (f.bytes.b2 0) = some e)
    (hv : e.version = some (f.bytes.b1 2)) :
    ∃ t : State, exec .events s = .next t ∧ answersWith f .events ⟨.stale, 0⟩ s.freePort t ∧
      t.guide = { s.guide with counters := { s.guide.counters with stale := satInc s.guide.counters.stale } } ∧
      onlyChanges [.own, .intake, .guide] s t := by
  exact recordStep_counted (fun c => { c with stale := satInc c.stale }) h rfl
    (State.eventsRecord_of_check _ (State.eventsCheck_stale (s := s.freePort) hc (Record.fieldsGood h1 h2 h3 h4) he hv))

/-- R49: an EVENTS record with a field out of range, or of an unknown service, is malformed. -/
theorem events_malformed {c : Code} (h : atHand s .events f) (hc : f.bytes.sectionCrc = crc32 f.bytes.sectionBytes)
    (hbad : c = .badField ∧ (f.bytes.b2 0 < 1 ∨ 9999 < f.bytes.b2 0 ∨ 31 < f.bytes.b1 2 ∨
        f.bytes.sectionEvents.all SectionEvent.ok = false) ∨
      c = .unknownService ∧ 1 ≤ f.bytes.b2 0 ∧ f.bytes.b2 0 ≤ 9999 ∧ f.bytes.b1 2 ≤ 31 ∧
        f.bytes.sectionEvents.all SectionEvent.ok = true ∧ s.guide.entry (f.bytes.b2 0) = none) :
    ∃ t : State, exec .events s = .next t ∧ answersWith f .events ⟨c, 0⟩ s.freePort t ∧
      t.guide = { s.guide with
        counters := { s.guide.counters with malformed := satInc s.guide.counters.malformed } } ∧
      onlyChanges [.own, .intake, .guide] s t := by
  refine recordStep_counted (fun c => { c with malformed := satInc c.malformed }) h rfl
    (State.eventsRecord_of_check _ ?_)
  rcases hbad with ⟨rfl, hfield⟩ | ⟨rfl, h1, h2, h3, h4, he⟩
  · exact State.eventsCheck_badField s.freePort hc hfield
  · exact State.eventsCheck_unknown (s := s.freePort) hc (Record.fieldsGood h1 h2 h3 h4) he

/-- R191: the part wakes; of the flash port nothing moves, since STANDBY and ACTIVE are both mounted. -/
theorem State.wake_frame (hp : s.part = .standby) : Frame [.power] s { s with part := .active } :=
  ⟨by simp [onlyChanges, Area.forall_iff, Area.same], by simp [State.flashFree, hp, PartState.mounted]⟩

/-- R34: a detached record of no kind, of a wrong length, or a WAKE. -/
theorem detached_ends (hf : s.fetched = some f) (ha : f.attached = false) :
    (f.bytes.kind = none → ∃ t : State, exec .recordBadKind s = .next t ∧ endsDetached s t ∧
      onlyChanges [.own, .intake] s t) ∧
    (f.bytes.kind = some .buy → f.bytes.lengthOk .buy = false →
      ∃ t : State, exec .buy s = .next t ∧ endsDetached s t ∧ onlyChanges [.own, .intake] s t) ∧
    (f.bytes.kind = some .power → f.bytes.lengthOk .power = true → f.bytes.b1 0 = 2 → s.part = .standby →
      ∃ t : State, exec .powerWake s = .next t ∧ t.part = .active ∧ endsDetached s t ∧
        onlyChanges [.power, .own, .intake] s t) := by
  refine ⟨?_, ?_, ?_⟩
  · intro hk
    refine ⟨_, exec_recordBadKind hf hk, ?_⟩
    rw [State.badKind, State.fetchDone_detached s ha, State.finishRecord_detached s ha]
    exact ⟨s.endProcessing_ends, s.endProcessing_frame.settle⟩
  · intro hk hl
    exact ⟨_, recordStep_detached hf ha hk rfl (State.carryOut_badLength s _ hl), s.endProcessing_ends,
      s.endProcessing_frame.settle⟩
  · intro hk hl hb hp
    have heffect : s.carryOut f .power (fun s f => s.powerWake (f.bytes.b1 0)) =
        ({ s with part := .active }, accepted 1) := by
      rw [State.carryOut_dispatched s _ hl (by simp [hp, screen])]
      simp [State.powerWake, hb, hp]
    have hframe := (State.wake_frame hp).trans (State.endProcessing_frame { s with part := .active })
      (cs := [.power, .own, .intake]) (by decide) (by decide)
    refine ⟨_, recordStep_detached hf ha hk (by simp [actionIs, hb]) heffect, ?_, ?_, hframe.settle⟩
    · rw [State.settle_part]
      exact ((State.endProcessing_frame { s with part := .active }).only .power (by decide)).2
    · exact State.endProcessing_ends { s with part := .active }

/-- Settles O19. -/
theorem recordAnswersAndRefusals : Obligations.RecordAnswersAndRefusals := by
  refine ⟨?_, ?_, ?_⟩
  · intro s f
    refine ⟨recordBadKind_attached, buy_refused, key_refused, ?_, ?_, ?_, ?_, ?_, detached_ends⟩
    · intro u out h hc
      exact recordStep_turnedAway h rfl (State.rightsRecord_refused s.freePort hc)
    · intro h hc
      exact recordStep_counted (fun c => { c with crcFailed := satInc c.crcFailed }) h rfl
        (State.eventsRecord_of_check _ (State.eventsCheck_badCrc s.freePort hc))
    · intro e
      exact events_stale
    · intro c
      exact events_malformed
    · intro h hok
      exact recordStep_counted (fun c => { c with malformed := satInc c.malformed }) h rfl
        (State.servicesRecord_badField s.freePort _ hok)
  · intro s n out k
    cases k <;> exact ⟨rfl, rfl⟩
  · intro s n r rest ho hr hs
    exact ⟨State.serveDram_waits ho hr hs, State.serveDram_serves ho hr hs⟩

end Sys2Proof.Machine
end

section
/-! PROOFS. Cell reads, the event: what the tune record makes of a delivery or a blank (R12, R73, R75, R76), and the blank
that answers a read (R11). -/

namespace Sys2Proof.Machine

/-! ### Changes of one output -/

theorem State.modOut_same (s : State) (o : Fin 6) (f : Output → Output) : (s.modOut o f).outs[o] = f s.outs[o] := by
  rw [State.modOut_get, if_pos rfl]

theorem State.modOut_modOut (s : State) (o : Fin 6) (f g : Output → Output) :
    (s.modOut o f).modOut o g = s.modOut o (fun x => g (f x)) := by
  simp [State.modOut]

theorem State.modOut_congr (s : State) (o : Fin 6) {f g : Output → Output} (h : f s.outs[o] = g s.outs[o]) :
    s.modOut o f = s.modOut o g := by
  simp only [State.modOut, h]

theorem State.modOut_inputs (s : State) (o : Fin 6) (f : Output → Output) : NoticeInputs s (s.modOut o f) :=
  ⟨rfl, rfl, rfl, rfl⟩

/-- R11: a count of output `o`, seen in each output: a disabled output keeps no counters. -/
theorem State.count_get (s : State) (o x : Fin 6) (f : OutputCounters → OutputCounters) :
    (s.count o f).outs[x] = if o = x then
      { s.outs[x] with counters := if (s.outCfg x).enabled then f (s.outs[x]).counters else (s.outs[x]).counters }
      else s.outs[x] := by
  unfold State.count
  by_cases e : o = x
  · subst e
    rw [if_pos rfl]
    split
    · next h => rw [State.modOut_same]
    · rfl
  · rw [if_neg e]
    split
    · rw [State.modOut_get, if_neg e]
    · rfl

theorem State.count_same (s : State) (o : Fin 6) (f : OutputCounters → OutputCounters) : (s.count o f).outs[o] =
    { s.outs[o] with counters := if (s.outCfg o).enabled then f (s.outs[o]).counters else (s.outs[o]).counters } := by
  rw [State.count_get, if_pos rfl]

theorem State.count_others (s : State) (o : Fin 6) (f : OutputCounters → OutputCounters) :
    otherOutputs o s (s.count o f) := by
  intro x hx
  rw [State.count_get, if_neg (Ne.symm hx)]

theorem State.count_inputs (s : State) (o : Fin 6) (f : OutputCounters → OutputCounters) : NoticeInputs s (s.count o f) :=
  ⟨by simp, by simp, by simp, by simp⟩

/-! ### The tune record takes an event (R12) -/

/-- R12: the tune state and the delivery record of output `o` are replaced, and notices are handed over. -/
def State.takenAs (s : State) (o : Fin 6) (tune : Option Tuned) (d : Delivery) (ns : List Notice) : State :=
  ns.foldl State.notify (s.modOut o (fun x => { x with tune := tune, delivery := d }))

theorem State.foldl_notify_outs (ns : List Notice) (s : State) : (ns.foldl State.notify s).outs = s.outs :=
  (Frame.foldl _ State.notify_frame ns s).only .outputs (by decide)

theorem State.takenAs_same (s : State) (o : Fin 6) (tune : Option Tuned) (d : Delivery) (ns : List Notice) :
    (s.takenAs o tune d ns).outs[o] = { s.outs[o] with tune := tune, delivery := d } := by
  rw [State.takenAs, State.foldl_notify_outs, State.modOut_same]

theorem State.takenAs_others (s : State) (o : Fin 6) (tune : Option Tuned) (d : Delivery) (ns : List Notice) :
    otherOutputs o s (s.takenAs o tune d ns) := by
  intro x hx
  rw [State.takenAs, State.foldl_notify_outs, State.modOut_get, if_neg (Ne.symm hx)]

theorem State.takenAs_notices (s : State) (o : Fin 6) (tune : Option Tuned) (d : Delivery) (ns : List Notice) :
    handedOver ns s (s.takenAs o tune d ns) :=
  handedOver.of_inputs (s1 := s.modOut o _) ⟨rfl, rfl⟩ (State.modOut_inputs s o _) rfl

/-- A new delivery record alone keeps the tune state and hands over nothing. -/
theorem State.modOut_delivery {s : State} {o : Fin 6} {tune : Option Tuned} (h : (s.outs[o]).tune = tune)
    (f : Delivery → Delivery) : s.modOut o (fun x => { x with delivery := f x.delivery }) =
      s.takenAs o tune (f (s.outs[o]).delivery) [] := by
  subst h
  exact State.modOut_congr s o rfl

/-- R12: the delivery record after a delivery. -/
def Delivery.delivered (d : Delivery) (now : Nat) : Delivery := { d with last := some now, count := satInc d.count }

/-- R12: the delivery record after a blank. -/
def Delivery.blanked (d : Delivery) (r : BlankReason) : Delivery := { d with count := 0, lastBlank := some r }

/-- R73, R76: the tune record after a delivery, where `count` deliveries then stand in a row. -/
def Tuned.delivered (w : Tuned) (count : Nat) : Tuned :=
  match w.phase with
  | .stalled _ => if 2 ≤ count then { w with phase := .presenting } else w
  | .seeking _ => { w with phase := .presenting }
  | .presenting => w

/-- R73, R76: the notices of a delivery. -/
def State.deliveryNotices (s : State) (o : Fin 6) (w : Tuned) (count : Nat) : List Notice :=
  match w.phase with
  | .stalled since => if 2 ≤ count then
      [.resumed o.val w.window.val w.service w.context.val (s.ticks.now - since)] else []
  | .seeking _ => [.tuned o.val w.window.val w.service w.context.val (s.ctxs[w.context]).scrambled
      (s.ticks.now - w.seekStart)]
  | .presenting => []

/-- R75: a blank stalls the output: it is PRESENTING, and its last delivery lies 3,000 ms or more back. -/
def State.stallsNow (s : State) (o : Fin 6) (w : Tuned) : Prop :=
  w.phase = .presenting ∧ ∃ l : Nat, (s.outs[o]).delivery.last = some l ∧ l + 3000 ≤ s.ticks.now

/-- R77: the STALLED notice of a blank of reason `r`. -/
def State.blankStalled (s : State) (o : Fin 6) (w : Tuned) (r : BlankReason) : Notice :=
  .stalled o.val w.window.val w.service w.context.val (s.ctxs[w.context]).scrambled
    (if (s.path.rings[w.window]).state = .silent then .noSignal
     else match (s.outs[o]).gate with
      | .closed g => .gate g
      | .opened => if r = .noKey then .noKey else .otherCause)

/-- A delivery of an IDLE output. -/
theorem State.takeRead_delivery_idle {s : State} {o : Fin 6} (h : (s.outs[o]).tune = none) :
    s.takeRead o .delivery = s.takenAs o none ((s.outs[o]).delivery.delivered s.ticks.now) [] := by
  unfold State.takeRead State.tuneDelivery
  simp only [State.modOut_same, h]
  exact State.modOut_delivery h (fun d => d.delivered s.ticks.now)

/-- R73, R76: a delivery of an output that is not IDLE. -/
theorem State.takeRead_delivery {s : State} {o : Fin 6} {w : Tuned} (h : (s.outs[o]).tune = some w) :
    s.takeRead o .delivery = s.takenAs o (some (w.delivered (satInc (s.outs[o]).delivery.count)))
      ((s.outs[o]).delivery.delivered s.ticks.now)
      (s.deliveryNotices o w (satInc (s.outs[o]).delivery.count)) := by
  unfold State.takeRead State.tuneDelivery Tuned.delivered State.deliveryNotices
  simp only [State.modOut_same, h]
  cases w.phase with
  | seeking n =>
    simp only [State.modOut_modOut]
    exact congrArg (fun t : State => t.notify _) (State.modOut_congr s o (by simp [Delivery.delivered]))
  | presenting => exact State.modOut_delivery h (fun d => d.delivered s.ticks.now)
  | stalled since =>
    by_cases hc : 2 ≤ satInc (s.outs[o]).delivery.count
    · simp only [hc, if_true, State.modOut_modOut]
      exact congrArg (fun t : State => t.notify _) (State.modOut_congr s o (by simp [Delivery.delivered]))
    · simp only [hc, if_false]
      exact State.modOut_delivery h (fun d => d.delivered s.ticks.now)

/-- R75, R77: a blank that stalls the output. -/
theorem State.takeRead_blank_stall {s : State} {o : Fin 6} {w : Tuned} (r : BlankReason)
    (h : (s.outs[o]).tune = some w) (hs : s.stallsNow o w) : s.takeRead o (.blank r) =
      s.takenAs o (some { w with phase := .stalled s.ticks.now }) ((s.outs[o]).delivery.blanked r)
        [s.blankStalled o w r] := by
  obtain ⟨hp, l, hl, hle⟩ := hs
  unfold State.takeRead State.tuneBlank State.stall
  simp only [State.modOut_same, h, hl, hp, stallAfter, State.modOut_ticks, hle, and_self, if_true, State.modOut_modOut]
  refine congrArg₂ State.notify (State.modOut_congr s o (by simp [Delivery.blanked])) ?_
  simp only [State.blankStalled, State.stallReason, State.modOut_same, State.modOut_path, State.modOut_ctxs,
    Option.some.injEq] <;> rfl

/-- R75: any other blank leaves the tune record as it is. -/
theorem State.takeRead_blank_keeps {s : State} {o : Fin 6} (r : BlankReason)
    (h : ∀ w : Tuned, (s.outs[o]).tune = some w → ¬ s.stallsNow o w) : s.takeRead o (.blank r) =
      s.takenAs o (s.outs[o]).tune ((s.outs[o]).delivery.blanked r) [] := by
  have hkeep := State.modOut_delivery (s := s) (o := o) rfl (fun d => d.blanked r)
  unfold State.takeRead State.tuneBlank
  dsimp only
  split
  · next w l hw hl =>
    rw [State.modOut_same] at hw hl
    rw [if_neg (fun hc => h w hw ⟨hc.1, l, hl, hc.2⟩)]
    exact hkeep
  · exact hkeep

/-! ### What the statements say of an event -/

/-- R12, R75, R77: the tune record and the notices after a blank of reason `r`. -/
theorem State.takeRead_blank (s : State) (o : Fin 6) (r : BlankReason) : ∃ (tune : Option Tuned) (ns : List Notice),
    s.takeRead o (.blank r) = s.takenAs o tune ((s.outs[o]).delivery.blanked r) ns ∧
    (∀ w : Tuned, (s.outs[o]).tune = some w → s.stallsNow o w →
      tune = some { w with phase := .stalled s.ticks.now } ∧ ns = [s.blankStalled o w r]) ∧
    ((∀ w : Tuned, (s.outs[o]).tune = some w → ¬ s.stallsNow o w) → tune = (s.outs[o]).tune ∧ ns = []) := by
  by_cases h : ∃ w : Tuned, (s.outs[o]).tune = some w ∧ s.stallsNow o w
  · obtain ⟨w, hw, hs⟩ := h
    refine ⟨_, _, State.takeRead_blank_stall r hw hs, ?_, fun hn => absurd hs (hn w hw)⟩
    intro v hv _
    cases hw.symm.trans hv
    exact ⟨rfl, rfl⟩
  · have hn : ∀ w : Tuned, (s.outs[o]).tune = some w → ¬ s.stallsNow o w := fun w hw hs => h ⟨w, hw, hs⟩
    exact ⟨_, _, State.takeRead_blank_keeps r hn, fun w hw hs => absurd hs (hn w hw), fun _ => ⟨rfl, rfl⟩⟩

/-- The cases in which the statements say that a blank does not stall. -/
theorem State.not_stallsNow {s : State} {o : Fin 6}
    (h : (s.outs[o]).tune = none ∨ (s.outs[o]).delivery.last = none ∨
      (∃ w : Tuned, (s.outs[o]).tune = some w ∧ w.phase ≠ .presenting) ∨
      (∃ l : Nat, (s.outs[o]).delivery.last = some l ∧ s.ticks.now < l + 3000))
    (w : Tuned) (hw : (s.outs[o]).tune = some w) : ¬ s.stallsNow o w := by
  rintro ⟨hp, l, hl, hle⟩
  rcases h with h | h | ⟨v, hv, hne⟩ | ⟨m, hm, hlt⟩
  · cases h.symm.trans hw
  · cases h.symm.trans hl
  · cases hv.symm.trans hw
    exact hne hp
  · cases hm.symm.trans hl
    omega

/-- R12, R73, R75, R76: what reaches the tune record is what the statements say it takes. -/
theorem State.takeRead_eventTaken (s : State) (o : Fin 6) (e : ReadEvent) : eventTaken o e s (s.takeRead o e) := by
  cases e with
  | delivery =>
    cases h : (s.outs[o]).tune with
    | none =>
      rw [State.takeRead_delivery_idle h]
      refine ⟨_, _, _, State.takenAs_same _ _ _ _ _, State.takenAs_notices _ _ _ _ _, State.takenAs_others _ _ _ _ _,
        fun _ => ⟨rfl, fun _ => ⟨rfl, rfl⟩, ?_⟩, by rintro r ⟨⟩⟩
      intro w hw
      cases h.symm.trans hw
    | some w =>
      rw [State.takeRead_delivery h]
      refine ⟨_, _, _, State.takenAs_same _ _ _ _ _, State.takenAs_notices _ _ _ _ _, State.takenAs_others _ _ _ _ _,
        fun _ => ⟨rfl, (by rw [h]; rintro ⟨⟩), ?_⟩, by rintro r ⟨⟩⟩
      intro v hv
      cases h.symm.trans hv
      refine ⟨?_, ?_, ?_⟩
      · intro hp
        simp [Tuned.delivered, State.deliveryNotices, hp]
      · intro n hp
        simp [Tuned.delivered, State.deliveryNotices, hp]
      · intro since hp
        simp only [Tuned.delivered, State.deliveryNotices, hp, Delivery.delivered]
        exact ⟨fun hc => by simp only [hc, if_true, and_self],
          fun hc => by simp only [Nat.not_le.mpr hc, if_false, and_self]⟩
  | blank r =>
    obtain ⟨tune, ns, ht, hstall, hkeep⟩ := State.takeRead_blank s o r
    rw [ht]
    refine ⟨tune, _, ns, State.takenAs_same _ _ _ _ _, State.takenAs_notices _ _ _ _ _, State.takenAs_others _ _ _ _ _,
      by rintro ⟨⟩, ?_⟩
    rintro x ⟨⟩
    refine ⟨rfl, fun w l hw hl hp hle => hstall w hw ⟨hp, l, hl, hle⟩, fun h => hkeep (State.not_stallsNow h)⟩

/-! ### A blank that answers a read (R11) -/

theorem State.countBlank_frame (s : State) (o : Fin 6) (r : BlankReason) : Frame [.outputs] s (s.countBlank o r) :=
  State.count_frame s o _

/-- R12: the event, then the answer on the link. -/
theorem State.answerRead_frame (s : State) (o : Fin 6) (e : ReadEvent) (u : UpReq) (d : List Byte) :
    Frame [.path, .own, .outputs, .writer] s (s.answerRead o e u d) :=
  (State.takeRead_reads s o e).toFrame.trans (State.answer_frame _ u d) (by decide) (by decide)

theorem State.answerRead_outs (s : State) (o : Fin 6) (e : ReadEvent) (u : UpReq) (d : List Byte) :
    (s.answerRead o e u d).outs = (s.takeRead o e).outs := (State.answerRead_reads s o e u d).2.1

theorem State.answerRead_path (s : State) (o : Fin 6) (e : ReadEvent) (u : UpReq) (d : List Byte) :
    (s.answerRead o e u d).path =
      { s.path with answers := s.path.answers ++ if u.lost then [] else [⟨u.req, d⟩] } :=
  (State.answerRead_reads s o e u d).2.2

@[simp] theorem State.answerRead_writer (s : State) (o : Fin 6) (e : ReadEvent) (u : UpReq) (d : List Byte) :
    (s.answerRead o e u d).writer = (s.takeRead o e).writer := State.answer_writer _ u d

@[simp] theorem State.answerRead_port (s : State) (o : Fin 6) (e : ReadEvent) (u : UpReq) (d : List Byte) :
    (s.answerRead o e u d).port = (s.takeRead o e).port := State.answer_port _ u d

theorem OutputCounters.blank_eq (c : OutputCounters) (r : BlankReason) : c.blank r = match r with
    | .idle | .gate => { c with gate := satInc c.gate }
    | .noKey => { c with noKey := satInc c.noKey }
    | .otherStream => { c with otherStream := satInc c.otherStream } := by
  cases r <;> rfl

/-- R11, R12, R75: a read in service that is answered with a blank is what the statements call a blanked read. -/
theorem State.blank_blankedRead {s : State} {v : UpReq} (hs : s.servingUp = some v) (u : UpReq) (o : Fin 6)
    (r : BlankReason) : blankedRead u o r s
      (((s.freePort.countBlank o r).answerRead o (.blank r) u (blanked (s.dramRead u.req.addr u.req.len))).settle) := by
  have hframe := (((State.freePort_frame_up hs).trans (State.countBlank_frame s.freePort o r)
    (cs := [.upstream, .outputs]) (by decide) (by decide)).trans
    (State.answerRead_frame _ o (.blank r) u (blanked (s.dramRead u.req.addr u.req.len)))
    (cs := [.path, .upstream, .own, .outputs, .writer]) (by decide) (by decide))
  have hup := ((State.countBlank_frame s.freePort o r).trans
    (State.answerRead_frame _ o (.blank r) u (blanked (s.dramRead u.req.addr u.req.len)))
    (cs := [.path, .own, .outputs, .writer]) (by decide) (by decide)).only .upstream (by decide)
  have hsame : (s.freePort.countBlank o r).outs[o] = _ := State.count_same s.freePort o _
  have hpath : (s.freePort.countBlank o r).path = s.path := State.count_path _ _ _
  have hctxs : (s.freePort.countBlank o r).ctxs = s.ctxs := State.count_ctxs _ _ _
  have hticks : (s.freePort.countBlank o r).ticks = s.ticks := State.count_ticks _ _ _
  have hinputs := s.freePort_inputs.trans (State.count_inputs s.freePort o (fun c => c.blank r))
  obtain ⟨tune, ns, ht, hstall, hkeep⟩ := State.takeRead_blank (s.freePort.countBlank o r) o r
  have hstalls : ∀ w, (s.freePort.countBlank o r).stallsNow o w ↔ s.stallsNow o w := by
    intro w
    simp only [State.stallsNow, hsame, hticks]
    rfl
  simp only [hstalls] at hstall hkeep
  refine ⟨tune, ns, ?_, ?_, ?_, ?_, ?_, ?_, ?_, hframe.settle⟩
  · rw [answersOne, State.settle_path, State.answerRead_path, hpath]
    rfl
  · rw [State.settle_outs, State.answerRead_outs, ht, State.takenAs_same, hsame, OutputCounters.blank_eq]
    rfl
  · intro w l hw hl hp hle
    obtain ⟨h1, h2⟩ := hstall w (by rw [hsame]; exact hw) ⟨hp, l, hl, hle⟩
    refine ⟨by rw [h1, hticks], ?_⟩
    rw [h2, State.blankStalled, hpath, hctxs, hsame]
    rfl
  · intro h
    obtain ⟨h1, h2⟩ := hkeep (fun w hw => State.not_stallsNow h w (by rw [hsame] at hw; exact hw))
    refine ⟨?_, h2⟩
    rw [h1, hsame]
    rfl
  · have h := State.takenAs_notices (s.freePort.countBlank o r) o tune
      (((s.freePort.countBlank o r).outs[o]).delivery.blanked r) ns
    rw [← ht] at h
    refine ((h.of_inputs hinputs ?_).then ?_ ?_).settle
    · rw [State.ownAll_of_servingUp hs]
      exact congrArg Port.ownAll (State.count_port s.freePort o _)
    · exact State.answerRead_writer _ _ _ _ _
    · rw [State.answerRead_port]
  · intro x hx
    rw [State.settle_outs, State.answerRead_outs, ht, State.takenAs_others _ _ _ _ _ x hx]
    exact State.count_others s.freePort o _ x hx
  · rw [State.settle_upAll]
    exact hup

end Sys2Proof.Machine
end

section
/-! PROOFS. Gates that follow a parity flip or the discard of a half (R84, R91, R97, R176). -/

namespace Sys2Proof.Machine

/-! ### Evaluations make gates follow their inputs (R176) -/

/-- What the inputs of output `x` read is the same in two states. -/
structure GateView (x : Fin 6) (s t : State) : Prop where
  cfg : t.cfg = s.cfg
  guide : t.guide = s.guide
  rights : t.rights = s.rights
  profiles : t.profiles = s.profiles
  ctxs : t.ctxs = s.ctxs
  tune : (t.outs[x]).tune = (s.outs[x]).tune
  eventUnlock : (t.outs[x]).eventUnlock = (s.outs[x]).eventUnlock
  periodUnlock : (t.outs[x]).periodUnlock = (s.outs[x]).periodUnlock

theorem GateView.presentEvent {x : Fin 6} {s t : State} (h : GateView x s t) : t.presentEvent x = s.presentEvent x := by
  simp only [State.presentEvent, State.governingOf, State.contextOf, h.tune, h.guide, h.ctxs]

theorem GateView.eventUnlockInForce {x : Fin 6} {s t : State} (h : GateView x s t) :
    t.eventUnlockInForce x = s.eventUnlockInForce x := by
  simp only [State.eventUnlockInForce, h.eventUnlock, h.presentEvent]

theorem GateView.gateInputs {x : Fin 6} {s t : State} (h : GateView x s t) (v : Tuned) :
    t.gateInputs x v = s.gateInputs x v := by
  have ho : t.outCfg x = s.outCfg x := by simp only [State.outCfg, h.cfg]
  simp only [State.gateInputs, ho, h.guide, h.rights, h.profiles, h.ctxs, h.eventUnlockInForce, h.periodUnlock]

/-- Gate work that leaves an output's EVENT unlock alone leaves its inputs alone. -/
theorem GateWork.view {s t : State} (h : GateWork s t) {x : Fin 6}
    (hu : (t.outs[x]).eventUnlock = (s.outs[x]).eventUnlock) : GateView x s t :=
  ⟨h.cfg, h.guide, h.rights, h.profiles, h.ctxs, (h.outs x).tune, hu, (h.outs x).periodUnlock⟩

/-- Of an output, the operation leaves the gate and the EVENT unlock alone. -/
def keepsGate (x : Fin 6) (s t : State) : Prop :=
  (t.outs[x]).gate = (s.outs[x]).gate ∧ (t.outs[x]).eventUnlock = (s.outs[x]).eventUnlock

theorem keepsGate.refl (x : Fin 6) (s : State) : keepsGate x s s := ⟨rfl, rfl⟩

theorem keepsGate.trans {x : Fin 6} {s t u : State} (h : keepsGate x s t) (k : keepsGate x t u) : keepsGate x s u :=
  ⟨k.1.trans h.1, k.2.trans h.2⟩

theorem State.notify_keepsGate (s : State) (n : Notice) (x : Fin 6) : keepsGate x s (s.notify n) := by
  simp [keepsGate]

theorem State.modOut_keepsGate (s : State) (o x : Fin 6) (f : Output → Output)
    (hf : o = x → (f s.outs[x]).gate = (s.outs[x]).gate ∧ (f s.outs[x]).eventUnlock = (s.outs[x]).eventUnlock) :
    keepsGate x s (s.modOut o f) := by
  unfold keepsGate
  rw [State.modOut_get]
  split
  · next h => exact hf h
  · exact ⟨rfl, rfl⟩

theorem State.offerOrNone_keepsGate (s : State) (o x : Fin 6) : keepsGate x s (s.offerOrNone o) := by
  unfold State.offerOrNone
  split
  · exact State.modOut_keepsGate s o x _ (fun _ => ⟨rfl, rfl⟩)
  · split
    · exact State.modOut_keepsGate s o x _ (fun _ => ⟨rfl, rfl⟩)
    · exact (State.notify_keepsGate s _ x).trans (State.modOut_keepsGate _ o x _ (fun _ => ⟨rfl, rfl⟩))

/-- R134: the offer follows without moving gates or unlocks. -/
theorem State.handValue_keepsGate (s : State) (o x : Fin 6) (g : Gate) : keepsGate x s (s.handValue o g) := by
  unfold State.handValue
  split
  · split
    · exact State.offerOrNone_keepsGate s o x
    · split
      · exact keepsGate.refl x s
      · exact State.offerOrNone_keepsGate s o x
  · exact State.modOut_keepsGate s o x _ (fun _ => ⟨rfl, rfl⟩)

/-- R177: nor does the report of a gate. -/
theorem State.reportGate_keepsGate (s : State) (o x : Fin 6) (c : GateCause) : keepsGate x s (s.reportGate o c) := by
  unfold State.reportGate
  split
  · exact keepsGate.refl x s
  · split
    · exact keepsGate.refl x s
    · exact (State.notify_keepsGate s _ x).trans (State.modOut_keepsGate _ o x _ (fun _ => ⟨rfl, rfl⟩))

theorem State.clearStaleUnlock_keepsGate (s : State) {o x : Fin 6} (h : o ≠ x) : keepsGate x s (s.clearStaleUnlock o) := by
  unfold State.clearStaleUnlock
  split
  · exact keepsGate.refl x s
  · exact State.modOut_keepsGate s o x _ (fun e => absurd e h)

/-- R176: an evaluation of another output. -/
theorem State.evaluate_keepsGate (s : State) (c : GateCause) (d : Bool) {o x : Fin 6} (h : o ≠ x) :
    keepsGate x s (s.evaluate c d o) := by
  unfold State.evaluate
  split
  · exact State.modOut_keepsGate s o x _ (fun e => absurd e h)
  · refine keepsGate.trans ?_ (State.handValue_keepsGate _ o x _)
    have hset := (State.clearStaleUnlock_keepsGate s h).trans
      (State.modOut_keepsGate (s.clearStaleUnlock o) o x
        (fun y => { y with gate := ((s.clearStaleUnlock o).gateInputs o ‹Tuned›).value }) (fun e => absurd e h))
    split
    · exact hset
    · exact hset.trans (State.reportGate_keepsGate _ o x c)

/-- The gate of an output, as far as it is tuned, is what the tests give on the inputs as they stand. -/
def gateFollows (t : State) (x : Fin 6) : Prop :=
  ∀ v : Tuned, (t.outs[x]).tune = some v → (t.outs[x]).gate = (t.gateInputs x v).value

/-- Gate work that leaves a following gate and its inputs alone. -/
theorem gateFollows.keep {s t : State} {x : Fin 6} (h : gateFollows s x) (w : GateWork s t) (k : keepsGate x s t) :
    gateFollows t x := by
  intro v hv
  rw [(w.outs x).tune] at hv
  rw [k.1, (w.view k.2).gateInputs]
  exact h v hv

/-- R176: after its evaluation the gate follows. -/
theorem State.evaluate_follows (s : State) (c : GateCause) (d : Bool) (o : Fin 6) : gateFollows (s.evaluate c d o) o := by
  unfold State.evaluate
  split
  · next h =>
    intro v hv
    rw [((State.gateIdle_work s o).outs o).tune, h] at hv
    cases hv
  · next t ht =>
    have hset : gateFollows ((s.clearStaleUnlock o).setGate o ((s.clearStaleUnlock o).gateInputs o t).value) o := by
      intro v hv
      have hw := State.setGate_work (s.clearStaleUnlock o) o ((s.clearStaleUnlock o).gateInputs o t).value
      rw [((((State.clearStaleUnlock_work s o).trans hw).outs o).tune), ht] at hv
      cases hv
      have hsame := State.modOut_same (s.clearStaleUnlock o) o
        (fun x => { x with gate := ((s.clearStaleUnlock o).gateInputs o t).value })
      rw [(hw.view (x := o) (by rw [State.setGate, hsame])).gateInputs, State.setGate, hsame]
    have hreport : gateFollows (if d then
        (s.clearStaleUnlock o).setGate o ((s.clearStaleUnlock o).gateInputs o t).value else
        ((s.clearStaleUnlock o).setGate o ((s.clearStaleUnlock o).gateInputs o t).value).reportGate o c) o := by
      split
      · exact hset
      · exact hset.keep (State.reportGate_work _ o c) (State.reportGate_keepsGate _ o o c)
    exact hreport.keep (State.handValue_work _ o _) (State.handValue_keepsGate _ o o _)

/-- R176: a gate that follows still does after further evaluations, of whichever output. -/
theorem gateFollows.evaluateAll {s : State} {x : Fin 6} (h : gateFollows s x) (c : GateCause) (d : Bool)
    (os : List (Fin 6)) : gateFollows (s.evaluateAll c d os) x := by
  induction os generalizing s with
  | nil => exact h
  | cons o os ih =>
    refine ih ?_
    by_cases e : o = x
    · subst e
      exact State.evaluate_follows s c d o
    · exact h.keep (State.evaluate_work s c d o) (State.evaluate_keepsGate s c d e)

/-- R176: after several evaluations every gate evaluated follows. -/
theorem State.evaluateAll_follows (s : State) (c : GateCause) (d : Bool) {os : List (Fin 6)} {x : Fin 6} (hx : x ∈ os) :
    gateFollows (s.evaluateAll c d os) x := by
  induction os generalizing s with
  | nil => cases hx
  | cons o os ih =>
    rcases List.mem_cons.mp hx with rfl | hx
    · exact (State.evaluate_follows s c d x).evaluateAll c d os
    · exact ih _ hx

/-- The members of one ACTIVE context. -/
theorem State.mem_membersWhere_eq {s : State} {c : Fin 8} {x : Fin 6} (ha : (s.ctxs[c]).isActive = true)
    (hm : x ∈ (s.ctxs[c]).members) : x ∈ s.membersWhere (fun d _ => d = c) := by
  simp only [State.membersWhere, List.mem_filter, List.any_eq_true, Bool.and_eq_true, decide_eq_true_eq,
    List.contains_iff_mem]
  exact ⟨by fin_cases x <;> simp [allOutputs], c, by fin_cases c <;> simp [allContexts], ⟨ha, rfl⟩, hm⟩

/-! ### The parity flip (R9, R91) -/

/-- R9: the current parity of context `c` is `p`. -/
def State.withParity (s : State) (c : Fin 8) (p : HalfParity) : State := s.modCtx c (fun x => { x with parity := some p })

theorem State.flipParity_work (s : State) (c : Fin 8) (p : HalfParity) : GateWork (s.withParity c p) (s.flipParity c p) :=
  State.evaluateAll_work _ _ _ _

theorem State.withParity_same (s : State) (c : Fin 8) (p : HalfParity) :
    (s.withParity c p).ctxs[c] = { s.ctxs[c] with parity := some p } := by
  rw [State.withParity, State.modCtx_get, if_pos rfl]

theorem State.flipParity_same (s : State) (c : Fin 8) (p : HalfParity) :
    (s.flipParity c p).ctxs[c] = { s.ctxs[c] with parity := some p } := by
  rw [(State.flipParity_work s c p).ctxs, State.withParity_same]

theorem State.flipParity_others (s : State) (c : Fin 8) (p : HalfParity) : otherContexts c s (s.flipParity c p) := by
  intro x hx
  rw [(State.flipParity_work s c p).ctxs, State.withParity, State.modCtx_get, if_neg (Ne.symm hx)]

theorem State.flipParity_frame (s : State) (c : Fin 8) (p : HalfParity) :
    Frame [.own, .contexts, .outputs, .writer] s (s.flipParity c p) :=
  (State.modCtx_frame s c _).trans (State.flipParity_work s c p).toFrame (by decide) (by decide)

/-- R91: the gates of the context's members follow the flip. -/
theorem State.flipParity_follows (s : State) (c : Fin 8) (p : HalfParity) :
    gatesFollow (fun m => (s.ctxs[c]).isActive = true ∧ m ∈ (s.ctxs[c]).members) (s.flipParity c p) := by
  rintro x v ⟨ha, hm⟩ hv
  have ha' : ((s.withParity c p).ctxs[c]).isActive = true := by
    rw [State.withParity_same]
    exact ha
  have hm' : x ∈ ((s.withParity c p).ctxs[c]).members := by
    rw [State.withParity_same]
    exact hm
  exact State.evaluateAll_follows _ _ _ (State.mem_membersWhere_eq ha' hm') v hv

/-! ### The discard of a half (R84, R97) -/

theorem Context.setHalf_same (c : Context) (p : HalfParity) (h : Option Half) : (c.setHalf p h).half p = h := by
  cases p <;> rfl

theorem Context.setHalf_other (c : Context) {p q : HalfParity} (h : Option Half) (hq : q ≠ p) :
    (c.setHalf p h).half q = c.half q := by
  cases p <;> cases q
  · exact absurd rfl hq
  · rfl
  · rfl
  · exact absurd rfl hq

theorem Context.setHalf_fields (c : Context) (p : HalfParity) (h : Option Half) :
    (c.setHalf p h).life = c.life ∧ (c.setHalf p h).members = c.members ∧ (c.setHalf p h).parity = c.parity := by
  cases p <;> exact ⟨rfl, rfl, rfl⟩

/-- R84: of the present halves, the one loaded last. -/
def Context.latest (c : Context) : Option (HalfParity × Half) :=
  match c.even, c.odd with
  | some e, some o => if e.order < o.order then some (.odd, o) else some (.even, e)
  | some e, none => some (.even, e)
  | none, some o => some (.odd, o)
  | none, none => none

/-- R84: the half of the current parity governs if it is present, otherwise the one loaded last. -/
theorem Context.governing_eq (c : Context) :
    c.governing = (c.parity.bind (fun p => (c.half p).map (Prod.mk p))).or c.latest := by
  unfold Context.governing
  cases c.parity with
  | none => rfl
  | some p =>
    dsimp only [Option.bind_some]
    cases c.half p <;> rfl

theorem Context.latest_half {c : Context} {g : HalfParity × Half} (h : c.latest = some g) : c.half g.1 = some g.2 := by
  unfold Context.latest at h
  split at h
  · next he ho =>
    split at h <;> cases h
    · exact ho
    · exact he
  · next he _ => cases h; exact he
  · next _ ho => cases h; exact ho
  · cases h

/-- R84: the governing half is a present half of its parity. -/
theorem Context.governing_half {c : Context} {g : HalfParity × Half} (h : c.governing = some g) :
    c.half g.1 = some g.2 := by
  rw [Context.governing_eq] at h
  cases hp : c.parity with
  | none =>
    rw [hp] at h
    exact Context.latest_half h
  | some p =>
    rw [hp] at h
    cases hh : c.half p with
    | none =>
      rw [Option.bind_some, hh] at h
      exact Context.latest_half h
    | some x =>
      rw [Option.bind_some, hh] at h
      cases h
      exact hh

/-- Removing another half than the one loaded last leaves that one the last. -/
theorem Context.latest_discard {c : Context} {g : HalfParity × Half} {p : HalfParity} (h : c.latest = some g)
    (hp : g.1 ≠ p) : (c.setHalf p none).latest = some g := by
  obtain ⟨q, x⟩ := g
  have hx : c.half q = some x := Context.latest_half h
  cases p with
  | even =>
    cases q with
    | even => exact absurd rfl hp
    | odd =>
      have ho : c.odd = some x := hx
      simp [Context.latest, Context.setHalf, ho]
  | odd =>
    cases q with
    | odd => exact absurd rfl hp
    | even =>
      have he : c.even = some x := hx
      simp [Context.latest, Context.setHalf, he]

/-- R84: discarding a half that does not govern leaves the governing half. -/
theorem Context.governing_discard {c : Context} {g : HalfParity × Half} {p : HalfParity} (h : c.governing = some g)
    (hp : g.1 ≠ p) : (c.setHalf p none).governing = some g := by
  obtain ⟨-, -, hparity⟩ := c.setHalf_fields p none
  rw [Context.governing_eq] at h
  rw [Context.governing_eq, hparity]
  cases hq : c.parity with
  | none =>
    rw [hq] at h
    exact Context.latest_discard h hp
  | some q =>
    rw [hq, Option.bind_some] at h
    rw [Option.bind_some]
    cases hx : c.half q with
    | none =>
      rw [hx] at h
      have hnone : (c.setHalf p none).half q = none := by
        by_cases e : q = p
        · rw [e, Context.setHalf_same]
        · rw [Context.setHalf_other c none e, hx]
      rw [hnone]
      exact Context.latest_discard h hp
    | some x =>
      rw [hx] at h
      cases h
      rw [Context.setHalf_other c none hp, hx]
      rfl

/-- R84: a context with a half has a governing one. -/
theorem Context.governing_isSome {c : Context} {p : HalfParity} {h : Half} (hh : c.half p = some h) :
    ∃ g, c.governing = some g := by
  have hl : c.latest ≠ none := by
    unfold Context.latest
    cases p with
    | even =>
      have he : c.even = some h := hh
      rw [he]
      cases c.odd with
      | none => simp
      | some o => dsimp only; split <;> simp
    | odd =>
      have ho : c.odd = some h := hh
      rw [ho]
      cases c.even with
      | none => simp
      | some e => dsimp only; split <;> simp
  obtain ⟨g, hg⟩ := Option.ne_none_iff_exists'.mp hl
  rw [Context.governing_eq, hg]
  cases c.parity.bind (fun p => (c.half p).map (Prod.mk p)) with
  | none => exact ⟨g, rfl⟩
  | some x => exact ⟨x, rfl⟩

/-- R97: the half is gone and its KEY_FAULT handed over; the gates are still to follow. -/
def State.halfFaulted (s : State) (c : Fin 8) (p : HalfParity) (compare : Bool) : State :=
  (s.setHalf (c, p) none).notify (s.keyFaultNotice c p compare)

theorem State.halfFaulted_ctxs (s : State) (c d : Fin 8) (p : HalfParity) (compare : Bool) :
    (s.halfFaulted c p compare).ctxs[d] = if c = d then (s.ctxs[d]).setHalf p none else s.ctxs[d] := by
  rw [State.halfFaulted, State.notify_ctxs, State.setHalf, State.modCtx_get]

theorem State.halfFaulted_frame (s : State) (c : Fin 8) (p : HalfParity) (compare : Bool) :
    Frame [.own, .contexts, .writer] s (s.halfFaulted c p compare) :=
  (State.modCtx_frame s c _).trans (State.notify_frame _ _) (by decide) (by decide)

theorem State.keyFault_eq (s : State) (c : Fin 8) (p : HalfParity) (compare : Bool) : s.keyFault c p compare =
    (s.halfFaulted c p compare).evaluateIfGoverningChanged (s.ctxs[c]).governingMark c := rfl

theorem State.keyFault_work (s : State) (c : Fin 8) (p : HalfParity) (compare : Bool) :
    GateWork (s.halfFaulted c p compare) (s.keyFault c p compare) :=
  State.evaluateIfGoverningChanged_work _ _ c

theorem State.keyFault_frame (s : State) (c : Fin 8) (p : HalfParity) (compare : Bool) :
    Frame [.own, .contexts, .outputs, .writer] s (s.keyFault c p compare) :=
  (State.halfFaulted_frame s c p compare).trans (State.keyFault_work s c p compare).toFrame (by decide) (by decide)

theorem State.keyFault_same (s : State) (c : Fin 8) (p : HalfParity) (compare : Bool) :
    (s.keyFault c p compare).ctxs[c] = (s.ctxs[c]).setHalf p none := by
  rw [(State.keyFault_work s c p compare).ctxs, State.halfFaulted_ctxs, if_pos rfl]

theorem State.keyFault_others (s : State) (c : Fin 8) (p : HalfParity) (compare : Bool) :
    otherContexts c s (s.keyFault c p compare) := by
  intro x hx
  rw [(State.keyFault_work s c p compare).ctxs, State.halfFaulted_ctxs, if_neg (Ne.symm hx)]

theorem Context.setHalf_isActive (c : Context) (p : HalfParity) (h : Option Half) :
    (c.setHalf p h).isActive = c.isActive := by
  obtain ⟨hlife, -, -⟩ := c.setHalf_fields p h
  simp only [Context.isActive, hlife]

/-- R84: the discard of a half that does not govern, or of a context that is not ACTIVE, evaluates no gate. -/
theorem State.keyFault_silent {s : State} {c : Fin 8} {p : HalfParity} (compare : Bool) {h : Half}
    (hh : (s.ctxs[c]).half p = some h)
    (hn : (∀ g, (s.ctxs[c]).governing = some g → g.1 ≠ p) ∨ (s.ctxs[c]).isActive = false) :
    s.keyFault c p compare = s.halfFaulted c p compare := by
  rw [State.keyFault_eq, State.evaluateIfGoverningChanged, if_neg]
  rintro ⟨ha, hm⟩
  rw [State.halfFaulted_ctxs, if_pos rfl] at ha hm
  rw [Context.setHalf_isActive] at ha
  rcases hn with hg | hna
  · obtain ⟨g, hgov⟩ := Context.governing_isSome hh
    refine hm ?_
    rw [Context.governingMark, Context.governing_discard hgov (hg g hgov), Context.governingMark, hgov]
  · rw [hna] at ha
    cases ha

/-- R84: the discard of the governing half lets the gates of the members follow. -/
theorem State.keyFault_follows {s : State} {c : Fin 8} {p : HalfParity} (compare : Bool)
    (hg : ∃ g, (s.ctxs[c]).governing = some g ∧ g.1 = p) :
    gatesFollow (fun m => (s.ctxs[c]).isActive = true ∧ m ∈ (s.ctxs[c]).members) (s.keyFault c p compare) := by
  rintro x v ⟨ha, hm⟩ hv
  obtain ⟨g, hgov, rfl⟩ := hg
  have hctx : (s.halfFaulted c g.1 compare).ctxs[c] = (s.ctxs[c]).setHalf g.1 none := by
    rw [State.halfFaulted_ctxs, if_pos rfl]
  have ha' : ((s.halfFaulted c g.1 compare).ctxs[c]).isActive = true := by
    rw [hctx, Context.setHalf_isActive, ha]
  have hm' : x ∈ ((s.halfFaulted c g.1 compare).ctxs[c]).members := by
    obtain ⟨-, hmem, -⟩ := (s.ctxs[c]).setHalf_fields g.1 none
    rw [hctx, hmem]
    exact hm
  have hmark : ((s.halfFaulted c g.1 compare).ctxs[c]).governingMark ≠ (s.ctxs[c]).governingMark := by
    intro e
    simp only [Context.governingMark, hgov, Option.map_some, Option.map_eq_some_iff] at e
    obtain ⟨q, hq, hqm⟩ := e
    have hpar : q.1 = g.1 := (Prod.mk.inj hqm).1
    have hhalf := Context.governing_half hq
    rw [hctx, hpar, Context.setHalf_same] at hhalf
    cases hhalf
  have heval : s.keyFault c g.1 compare = (s.halfFaulted c g.1 compare).evaluateAll .key false
      ((s.halfFaulted c g.1 compare).membersWhere (fun d _ => d = c)) := by
    rw [State.keyFault_eq, State.evaluateIfGoverningChanged, if_pos ⟨ha', hmark⟩]
  rw [heval] at hv ⊢
  exact State.evaluateAll_follows _ _ _ (State.mem_membersWhere_eq ha' hm') v hv

/-! ### Gate work and the request in service -/

theorem State.notify_freePort (s : State) (n : Notice) : s.freePort.notify n = (s.notify n).freePort := by
  cases hf : s.writer.full
  · rw [State.notify_room s n hf, State.notify_room s.freePort n hf]
    rfl
  · rw [State.notify_full s n hf, State.notify_full s.freePort n hf]
    cases ho : s.writer.overrun <;> simp [ho, State.freePort, State.issue, Port.issue, State.overrunWrite]

theorem State.clearStaleUnlock_freePort (s : State) (o : Fin 6) :
    s.freePort.clearStaleUnlock o = (s.clearStaleUnlock o).freePort := by
  have h : s.freePort.eventUnlockInForce o = s.eventUnlockInForce o := rfl
  unfold State.clearStaleUnlock
  rw [h]
  split <;> rfl

theorem State.reportGate_freePort (s : State) (o : Fin 6) (c : GateCause) :
    s.freePort.reportGate o c = (s.reportGate o c).freePort := by
  have ho : s.freePort.outs = s.outs := rfl
  unfold State.reportGate
  rw [ho]
  split
  · rfl
  · split
    · rfl
    · rw [State.notify_freePort]
      rfl

theorem State.offerOrNone_freePort (s : State) (o : Fin 6) :
    s.freePort.offerOrNone o = (s.offerOrNone o).freePort := by
  have he : s.freePort.offeredEvent o = s.offeredEvent o := rfl
  have hp : ∀ e, s.freePort.priceNow e = s.priceNow e := fun _ => rfl
  unfold State.offerOrNone
  rw [he]
  split
  · rfl
  · rw [hp]
    split
    · rfl
    · unfold State.makeOffer
      rw [State.notify_freePort]
      rfl

theorem State.handValue_freePort (s : State) (o : Fin 6) (g : Gate) :
    s.freePort.handValue o g = (s.handValue o g).freePort := by
  have he : s.freePort.offeredEvent o = s.offeredEvent o := rfl
  have ho : s.freePort.outs = s.outs := rfl
  unfold State.handValue
  rw [he, ho]
  split
  · split
    · exact State.offerOrNone_freePort s o
    · split
      · rfl
      · exact State.offerOrNone_freePort s o
  · rfl

/-- R176: an evaluation does not read the request in service. -/
theorem State.evaluate_freePort (s : State) (c : GateCause) (d : Bool) (o : Fin 6) :
    s.freePort.evaluate c d o = (s.evaluate c d o).freePort := by
  have ho : s.freePort.outs = s.outs := rfl
  unfold State.evaluate
  rw [ho]
  split
  · rfl
  · next t _ =>
    have hi : (s.clearStaleUnlock o).freePort.gateInputs o t = (s.clearStaleUnlock o).gateInputs o t := rfl
    have hg : ∀ g, (s.clearStaleUnlock o).freePort.setGate o g = ((s.clearStaleUnlock o).setGate o g).freePort :=
      fun _ => rfl
    dsimp only
    rw [State.clearStaleUnlock_freePort, hi, hg]
    split
    · exact State.handValue_freePort _ o _
    · rw [State.reportGate_freePort]
      exact State.handValue_freePort _ o _

theorem State.evaluateAll_freePort (s : State) (c : GateCause) (d : Bool) (os : List (Fin 6)) :
    s.freePort.evaluateAll c d os = (s.evaluateAll c d os).freePort := by
  induction os generalizing s with
  | nil => rfl
  | cons o os ih =>
    show (s.freePort.evaluate c d o).evaluateAll c d os = _
    rw [State.evaluate_freePort]
    exact ih _

theorem State.flipParity_freePort (s : State) (c : Fin 8) (p : HalfParity) :
    s.freePort.flipParity c p = (s.flipParity c p).freePort :=
  State.evaluateAll_freePort (s.withParity c p) _ _ _

theorem State.keyFault_freePort (s : State) (c : Fin 8) (p : HalfParity) (compare : Bool) :
    s.freePort.keyFault c p compare = (s.keyFault c p compare).freePort := by
  have hf : s.freePort.halfFaulted c p compare = (s.halfFaulted c p compare).freePort :=
    State.notify_freePort (s.setHalf (c, p) none) _
  rw [State.keyFault_eq, State.keyFault_eq, hf]
  show (if ((s.halfFaulted c p compare).ctxs[c]).isActive ∧
      ((s.halfFaulted c p compare).ctxs[c]).governingMark ≠ (s.ctxs[c]).governingMark then
      (s.halfFaulted c p compare).freePort.evaluateAll .key false
        ((s.halfFaulted c p compare).membersWhere (fun d _ => d = c)) else _) = _
  unfold State.evaluateIfGoverningChanged
  split
  · exact State.evaluateAll_freePort (s.halfFaulted c p compare) _ _ _
  · rfl

end Sys2Proof.Machine
end

section
/-! PROOFS. Cell reads, the judgement (R7 to R13): what judging a read changes, and the statements about blanks and
deliveries. -/

namespace Sys2Proof.Machine

/-! ### What judging a read changes -/

/-- Judging a read changes counters, pace counts, gates, contexts and rings, and hands over notices; it takes no event, answers
nothing and moves no request. -/
structure JudgeWork (s t : State) : Prop where
  frame : Frame [.path, .own, .contexts, .outputs, .writer] s t
  path : ∃ rings : Vector Ring 4, t.path = { s.path with rings := rings }
  tune : ∀ o : Fin 6, (t.outs[o]).tune = (s.outs[o]).tune
  delivery : ∀ o : Fin 6, (t.outs[o]).delivery = (s.outs[o]).delivery

theorem JudgeWork.refl (s : State) : JudgeWork s s :=
  ⟨Frame.refl _ s, ⟨s.path.rings, rfl⟩, fun _ => rfl, fun _ => rfl⟩

theorem JudgeWork.trans {s t u : State} (h : JudgeWork s t) (k : JudgeWork t u) : JudgeWork s u := by
  obtain ⟨ts, ht⟩ := h.path
  obtain ⟨us, hu⟩ := k.path
  exact ⟨h.frame.trans k.frame (List.Subset.refl _) (List.Subset.refl _), ⟨us, by rw [hu, ht]⟩,
    fun o => (k.tune o).trans (h.tune o), fun o => (k.delivery o).trans (h.delivery o)⟩

theorem GateWork.judge {s t : State} (h : GateWork s t) : JudgeWork s t :=
  ⟨h.toFrame.mono (by decide), ⟨s.path.rings, h.path⟩, fun o => (h.outs o).tune, fun o => (h.outs o).delivery⟩

theorem State.modCtx_judge (s : State) (c : Fin 8) (f : Context → Context) : JudgeWork s (s.modCtx c f) :=
  ⟨(State.modCtx_frame s c f).mono (by decide), ⟨s.path.rings, rfl⟩, fun _ => rfl, fun _ => rfl⟩

theorem State.modRing_judge (s : State) (k : Fin 4) (f : Ring → Ring) : JudgeWork s (s.modRing k f) :=
  ⟨(State.modRing_frame s k f).mono (by decide), ⟨_, rfl⟩, fun _ => rfl, fun _ => rfl⟩

theorem State.count_work (s : State) (o : Fin 6) (f : OutputCounters → OutputCounters) : JudgeWork s (s.count o f) := by
  refine ⟨(State.count_frame s o f).mono (by decide), ⟨s.path.rings, State.count_path s o f⟩, ?_, ?_⟩
  · intro x
    rw [State.count_get]
    split <;> rfl
  · intro x
    rw [State.count_get]
    split <;> rfl

theorem State.countCorrected_judge (s : State) (c : Fin 8) : JudgeWork s (s.countCorrected c) := by
  unfold State.countCorrected
  split
  · exact JudgeWork.refl s
  · exact State.modRing_judge s _ _

theorem State.flipParity_judge (s : State) (c : Fin 8) (p : HalfParity) : JudgeWork s (s.flipParity c p) :=
  (State.modCtx_judge s c _).trans (State.flipParity_work s c p).judge

theorem State.keyFault_judge (s : State) (c : Fin 8) (p : HalfParity) (compare : Bool) :
    JudgeWork s (s.keyFault c p compare) :=
  ((State.modCtx_judge s c _).trans (State.notify_work _ _).judge).trans (State.keyFault_work s c p compare).judge

/-- R11, R13: a delivery of output `o` is counted and paced, seen in each output. -/
theorem State.countDelivery_get (s : State) (o x : Fin 6) (clear : Bool) : (s.countDelivery o clear).outs[x] =
    if o = x then { s.outs[x] with
      pace := (s.outs[x]).pace + (if (s.outCfg x).isExport then 1 else 0)
      counters := if (s.outCfg x).enabled then
          (if clear then { (s.outs[x]).counters with clear := satInc (s.outs[x]).counters.clear }
           else { (s.outs[x]).counters with descrambled := satInc (s.outs[x]).counters.descrambled })
        else (s.outs[x]).counters } else s.outs[x] := by
  unfold State.countDelivery
  rw [State.modOut_get, State.count_get]
  by_cases e : o = x
  · subst e
    rw [if_pos rfl, if_pos rfl, if_pos rfl]
    cases (s.outCfg o).isExport <;> rfl
  · rw [if_neg e, if_neg e, if_neg e]

theorem State.countDelivery_frame (s : State) (o : Fin 6) (clear : Bool) :
    Frame [.outputs] s (s.countDelivery o clear) :=
  (State.count_frame s o _).trans (State.modOut_frame _ o _) (by decide) (by decide)

theorem State.countDelivery_judge (s : State) (o : Fin 6) (clear : Bool) : JudgeWork s (s.countDelivery o clear) := by
  have hf := State.countDelivery_frame s o clear
  refine ⟨hf.mono (by decide), ⟨s.path.rings, hf.only .path (by decide)⟩, ?_, ?_⟩
  · intro x
    rw [State.countDelivery_get]
    split <;> rfl
  · intro x
    rw [State.countDelivery_get]
    split <;> rfl

/-- A judged read: its state is judging work, and it is a blank, or a delivery whose output has its gate OPEN. -/
structure ReadOutcome (s : State) (x : Reading) (j : JudgedRead) : Prop where
  work : JudgeWork s j.state
  event : (∃ r : BlankReason, j.event = .blank r ∧ j.data = blanked x.cell) ∨
    (j.event = .delivery ∧ (j.state.outs[x.output]).gate = .opened)

theorem ReadOutcome.after {s t : State} {x : Reading} {j : JudgedRead} (h : ReadOutcome t x j) (w : JudgeWork s t) :
    ReadOutcome s x j := ⟨w.trans h.work, h.event⟩

theorem State.readBlank_outcome (s : State) (x : Reading) (r : BlankReason) : ReadOutcome s x (s.readBlank x r) :=
  ⟨State.count_work s x.output (fun c => c.blank r), .inl ⟨r, rfl, rfl⟩⟩

theorem State.countDelivery_gate (s : State) (o : Fin 6) (clear : Bool) :
    ((s.countDelivery o clear).outs[o]).gate = (s.outs[o]).gate := by
  rw [State.countDelivery_get, if_pos rfl]

theorem State.readClear_outcome {s : State} {x : Reading} (hg : (s.outs[x.output]).gate = .opened) :
    ReadOutcome s x (s.readClear x) :=
  ⟨State.countDelivery_judge s x.output true, .inr ⟨rfl, (State.countDelivery_gate s x.output true).trans hg⟩⟩

/-- R96: after a check that leaves the word usable. -/
def State.checked (s : State) (c : Fin 8) (ecc : EccFinding) : State := if ecc = .singleBit then s.countCorrected c else s

theorem State.checked_judge (s : State) (c : Fin 8) (ecc : EccFinding) : JudgeWork s (s.checked c ecc) := by
  unfold State.checked
  split
  · exact State.countCorrected_judge s c
  · exact JudgeWork.refl s

/-- R96, R97: a check that is not uncorrectable leaves the word usable. -/
theorem State.eccCheck_usable (s : State) (c : Fin 8) (p : HalfParity) (compare : Bool) {ecc : EccFinding}
    (h : ecc ≠ .uncorrectable) : s.eccCheck c p compare ecc = (s.checked c ecc, true) := by
  cases ecc with
  | clean => rfl
  | singleBit => rfl
  | uncorrectable => exact absurd rfl h

@[simp] theorem State.countCorrected_outs (s : State) (c : Fin 8) : (s.countCorrected c).outs = s.outs := by
  unfold State.countCorrected
  split <;> rfl

@[simp] theorem State.checked_outs (s : State) (c : Fin 8) (ecc : EccFinding) : (s.checked c ecc).outs = s.outs := by
  unfold State.checked
  split
  · exact State.countCorrected_outs s c
  · rfl

/-- R10 steps 3 to 5: the half is absent. -/
theorem State.readScrambled_absent {s : State} {c : Fin 8} {p : HalfParity} (x : Reading) (ecc : EccFinding)
    (h : (s.ctxs[c]).half p = none) : s.readScrambled x c p ecc = s.readBlank x .noKey := by
  have hh : s.halfAt (c, p) = none := h
  simp only [State.readScrambled, hh]

/-- R97: its key is uncorrectable. -/
theorem State.readScrambled_uncorrectable {s : State} {c : Fin 8} {p : HalfParity} {k : Half} (x : Reading)
    (h : (s.ctxs[c]).half p = some k) :
    s.readScrambled x c p .uncorrectable = (s.keyFault c p false).readBlank x .noKey := by
  have hh : s.halfAt (c, p) = some k := h
  simp only [State.readScrambled, hh, State.eccCheck]

/-- R99: its key can be used. -/
theorem State.readScrambled_usable {s : State} {c : Fin 8} {p : HalfParity} {k : Half} {ecc : EccFinding} (x : Reading)
    (h : (s.ctxs[c]).half p = some k) (he : ecc ≠ .uncorrectable) : s.readScrambled x c p ecc =
      ⟨(s.checked c ecc).countDelivery x.output false, .delivery, descrambled k.content x.cell⟩ := by
  have hh : s.halfAt (c, p) = some k := h
  simp only [State.readScrambled, hh, State.eccCheck_usable s c p false he]

theorem State.readScrambled_outcome {s : State} {x : Reading} (hg : (s.outs[x.output]).gate = .opened) (c : Fin 8)
    (p : HalfParity) (ecc : EccFinding) : ReadOutcome s x (s.readScrambled x c p ecc) := by
  cases hh : (s.ctxs[c]).half p with
  | none =>
    rw [State.readScrambled_absent x ecc hh]
    exact State.readBlank_outcome s x .noKey
  | some k =>
    by_cases he : ecc = .uncorrectable
    · rw [he, State.readScrambled_uncorrectable x hh]
      exact (State.readBlank_outcome _ x .noKey).after (State.keyFault_judge s c p false)
    · rw [State.readScrambled_usable x hh he]
      refine ⟨(State.checked_judge s c ecc).trans (State.countDelivery_judge _ x.output false), .inr ⟨rfl, ?_⟩⟩
      rw [State.countDelivery_gate, State.checked_outs, hg]

/-- R10: the gate of the output stands CLOSED. -/
theorem State.readListed_closed {s : State} {x : Reading} (c : Fin 8) (pp : PacketParity) (ecc : EccFinding)
    (hg : (s.outs[x.output]).gate ≠ .opened) : s.readListed x c pp ecc = s.readBlank x .gate := by
  unfold State.readListed
  split
  · rfl
  · next h => exact absurd h hg

theorem State.readListed_clear {s : State} {x : Reading} (c : Fin 8) (ecc : EccFinding)
    (hg : (s.outs[x.output]).gate = .opened) : s.readListed x c .clear ecc = s.readClear x := by
  simp only [State.readListed, hg]

theorem State.readListed_scrambled {s : State} {x : Reading} (c : Fin 8) (p : HalfParity) (ecc : EccFinding)
    (hg : (s.outs[x.output]).gate = .opened) : s.readListed x c (.scrambled p) ecc = s.readScrambled x c p ecc := by
  simp only [State.readListed, hg]

theorem State.readListed_outcome (s : State) (x : Reading) (c : Fin 8) (pp : PacketParity) (ecc : EccFinding) :
    ReadOutcome s x (s.readListed x c pp ecc) := by
  by_cases hg : (s.outs[x.output]).gate = .opened
  · cases pp with
    | clear =>
      rw [State.readListed_clear c ecc hg]
      exact State.readClear_outcome hg
    | reserved =>
      have h : s.readListed x c .reserved ecc = s.readBlank x .otherStream := by simp only [State.readListed, hg]
      rw [h]
      exact State.readBlank_outcome s x .otherStream
    | scrambled p =>
      rw [State.readListed_scrambled c p ecc hg]
      exact State.readScrambled_outcome hg c p ecc
  · rw [State.readListed_closed c pp ecc hg]
    exact State.readBlank_outcome s x .gate

/-- R8 step 3: a packet of another stream. -/
theorem State.readForeign_scrambled (s : State) (x : Reading) (p : HalfParity) :
    s.readForeign x (.scrambled p) = s.readBlank x .otherStream := rfl

theorem State.readForeign_closed {s : State} {x : Reading} {pp : PacketParity} (hp : ∀ p, pp ≠ .scrambled p)
    (hg : (s.outs[x.output]).gate ≠ .opened) : s.readForeign x pp = s.readBlank x .gate := by
  cases hgate : (s.outs[x.output]).gate with
  | opened => exact absurd hgate hg
  | closed r =>
    cases pp with
    | scrambled p => exact absurd rfl (hp p)
    | clear => simp only [State.readForeign, hgate]
    | reserved => simp only [State.readForeign, hgate]

theorem State.readForeign_opened {s : State} {x : Reading} {pp : PacketParity} (hp : ∀ p, pp ≠ .scrambled p)
    (hg : (s.outs[x.output]).gate = .opened) : s.readForeign x pp = s.readClear x := by
  cases pp with
  | scrambled p => exact absurd rfl (hp p)
  | clear => simp only [State.readForeign, hg]
  | reserved => simp only [State.readForeign, hg]

theorem State.readForeign_outcome (s : State) (x : Reading) (pp : PacketParity) :
    ReadOutcome s x (s.readForeign x pp) := by
  by_cases hp : ∃ p, pp = .scrambled p
  · obtain ⟨p, rfl⟩ := hp
    exact State.readBlank_outcome s x .otherStream
  · have hp' : ∀ p, pp ≠ .scrambled p := fun p e => hp ⟨p, e⟩
    by_cases hg : (s.outs[x.output]).gate = .opened
    · rw [State.readForeign_opened hp' hg]
      exact State.readClear_outcome hg
    · rw [State.readForeign_closed hp' hg]
      exact State.readBlank_outcome s x .gate

/-- R9: a packet of another parity flips the context's parity first. -/
theorem State.flipIfNew_flips {s : State} {c : Fin 8} {p : HalfParity} (h : (s.ctxs[c]).parity ≠ some p) :
    s.flipIfNew c (.scrambled p) = s.flipParity c p := by
  simp only [State.flipIfNew, h, if_false]

theorem State.flipIfNew_current {s : State} {c : Fin 8} {p : HalfParity} (h : (s.ctxs[c]).parity = some p) :
    s.flipIfNew c (.scrambled p) = s := by
  simp only [State.flipIfNew, h, if_true]

theorem State.flipIfNew_judge (s : State) (c : Fin 8) (pp : PacketParity) : JudgeWork s (s.flipIfNew c pp) := by
  cases pp with
  | clear => exact JudgeWork.refl s
  | reserved => exact JudgeWork.refl s
  | scrambled p =>
    by_cases h : (s.ctxs[c]).parity = some p
    · rw [State.flipIfNew_current h]
      exact JudgeWork.refl s
    · rw [State.flipIfNew_flips h]
      exact State.flipParity_judge s c p

/-! ### The procedure, case by case (R8) -/

theorem State.cellProcedure_idle {s : State} {x : Reading} (ecc : EccFinding) (h : (s.outs[x.output]).tune = none) :
    s.cellProcedure x ecc = s.readBlank x .idle := by
  simp only [State.cellProcedure, h]

theorem State.cellProcedure_malformed {s : State} {x : Reading} {w : Tuned} (ecc : EccFinding)
    (h : (s.outs[x.output]).tune = some w) (hm : (packetOf x.cell).malformed = true) :
    s.cellProcedure x ecc = s.readBlank x .otherStream := by
  simp only [State.cellProcedure, h, hm, if_true]

theorem State.cellProcedure_foreign {s : State} {x : Reading} {w : Tuned} (ecc : EccFinding)
    (h : (s.outs[x.output]).tune = some w) (hm : (packetOf x.cell).malformed = false)
    (hl : (s.ctxs[w.context]).lists (packetOf x.cell).stream = false) :
    s.cellProcedure x ecc = s.readForeign x (packetOf x.cell).parity := by
  simp only [State.cellProcedure, h, hm, hl, Bool.not_false, Bool.false_eq_true, if_true, if_false]

theorem State.cellProcedure_reserved {s : State} {x : Reading} {w : Tuned} (ecc : EccFinding)
    (h : (s.outs[x.output]).tune = some w) (hm : (packetOf x.cell).malformed = false)
    (hl : (s.ctxs[w.context]).lists (packetOf x.cell).stream = true) (hp : (packetOf x.cell).parity = .reserved) :
    s.cellProcedure x ecc = s.readBlank x .otherStream := by
  simp only [State.cellProcedure, h, hm, hl, hp, Bool.not_true, Bool.false_eq_true, if_true, if_false]

theorem State.cellProcedure_listed {s : State} {x : Reading} {w : Tuned} (ecc : EccFinding)
    (h : (s.outs[x.output]).tune = some w) (hm : (packetOf x.cell).malformed = false)
    (hl : (s.ctxs[w.context]).lists (packetOf x.cell).stream = true) (hp : (packetOf x.cell).parity ≠ .reserved) :
    s.cellProcedure x ecc =
      (s.flipIfNew w.context (packetOf x.cell).parity).readListed x w.context (packetOf x.cell).parity ecc := by
  simp only [State.cellProcedure, h, hm, hl, hp, Bool.not_true, Bool.false_eq_true, if_false]

/-- R8 to R10: whatever the packet, the read is a blank, or a delivery with the gate OPEN. -/
theorem State.cellProcedure_outcome (s : State) (x : Reading) (ecc : EccFinding) :
    ReadOutcome s x (s.cellProcedure x ecc) := by
  cases h : (s.outs[x.output]).tune with
  | none =>
    rw [State.cellProcedure_idle ecc h]
    exact State.readBlank_outcome s x .idle
  | some w =>
    cases hm : (packetOf x.cell).malformed with
    | true =>
      rw [State.cellProcedure_malformed ecc h hm]
      exact State.readBlank_outcome s x .otherStream
    | false =>
      cases hl : (s.ctxs[w.context]).lists (packetOf x.cell).stream with
      | false =>
        rw [State.cellProcedure_foreign ecc h hm hl]
        exact State.readForeign_outcome s x _
      | true =>
        by_cases hp : (packetOf x.cell).parity = .reserved
        · rw [State.cellProcedure_reserved ecc h hm hl hp]
          exact State.readBlank_outcome s x .otherStream
        · rw [State.cellProcedure_listed ecc h hm hl hp]
          exact (State.readListed_outcome _ x w.context _ ecc).after (State.flipIfNew_judge s w.context _)

/-! ### The command -/

/-- The cell read in service, as it is judged: its output and the stored bytes. -/
def State.reading (s : State) (u : UpReq) (o : Fin 6) : Reading := ⟨o, s.dramRead u.req.addr u.req.len⟩

/-- R6: a whole read within the pace limit is judged. -/
theorem State.cellRead_judged {s : State} {u : UpReq} {o : Fin 6} (ecc : EccFinding) (atOnce : Bool)
    (hw : wholeRead u.req = true) (hp : s.paceFull o = false) : s.cellRead u o ecc atOnce =
      (let j := s.freePort.cellProcedure (s.reading u o) ecc
       if atOnce then j.state.answerRead o j.event u j.data else j.state.keepRead ⟨o, j.event, u, j.data⟩) := by
  have hp' : s.freePort.paceFull o = false := hp
  simp only [State.cellRead, hw, hp', Bool.not_true, Bool.false_eq_true, if_false]
  rfl

/-- R6: with a cell read in service, each of the first two steps completes it. -/
theorem exec_cellRead {s : State} {u : UpReq} {k : Fin 4} {o : Fin 6} (ecc : EccFinding) (hs : s.servingUp = some u)
    (hc : s.completionOf u = .cell k o) :
    exec (.cellRead (.whole ecc)) s = .next (s.cellRead u o ecc true).settle ∧
      exec (.cellRead (.judged ecc)) s = .next (s.cellRead u o ecc false).settle := by
  simp [exec, execCellRead, State.completeRead, hs, hc, done]

/-- R6, R12: a whole step: judged, and answered at once. -/
theorem exec_cellRead_whole {s : State} {u : UpReq} {k : Fin 4} {o : Fin 6} (ecc : EccFinding)
    (hs : s.servingUp = some u) (hc : s.completionOf u = .cell k o) (hw : wholeRead u.req = true)
    (hp : s.paceFull o = false) {j : JudgedRead} (hj : s.freePort.cellProcedure (s.reading u o) ecc = j) :
    exec (.cellRead (.whole ecc)) s = .next (j.state.answerRead o j.event u j.data).settle := by
  rw [(exec_cellRead ecc hs hc).1, State.cellRead_judged ecc true hw hp, hj]
  rfl

/-- R6, R64: a judged step: its response and its event wait. -/
theorem exec_cellRead_judged {s : State} {u : UpReq} {k : Fin 4} {o : Fin 6} (ecc : EccFinding)
    (hs : s.servingUp = some u) (hc : s.completionOf u = .cell k o) (hw : wholeRead u.req = true)
    (hp : s.paceFull o = false) {j : JudgedRead} (hj : s.freePort.cellProcedure (s.reading u o) ecc = j) :
    exec (.cellRead (.judged ecc)) s = .next (j.state.keepRead ⟨o, j.event, u, j.data⟩).settle := by
  rw [(exec_cellRead ecc hs hc).2, State.cellRead_judged ecc false hw hp, hj]
  rfl

/-- A whole step that is judged a blank. -/
theorem exec_cellRead_blank {s : State} {u : UpReq} {k : Fin 4} {o : Fin 6} {ecc : EccFinding} {r : BlankReason}
    (hs : s.servingUp = some u) (hc : s.completionOf u = .cell k o) (hw : wholeRead u.req = true)
    (hp : s.paceFull o = false)
    (hj : s.freePort.cellProcedure (s.reading u o) ecc = s.freePort.readBlank (s.reading u o) r) :
    ∃ t : State, exec (.cellRead (.whole ecc)) s = .next t ∧ blankedRead u o r s t :=
  ⟨_, exec_cellRead_whole ecc hs hc hw hp hj, State.blank_blankedRead hs u o r⟩

/-! ### Blanks (R8 to R12) -/

/-- The packet that the read finds. -/
def State.packetRead (s : State) (u : UpReq) : Packet := packetOf (s.dramRead u.req.addr u.req.len)

/-- R8 to R10: the reason of the blank that a packet gets from a tuned output without a parity flip. -/
inductive BlankCase (s : State) (o : Fin 6) (w : Tuned) (p : Packet) : BlankReason → Prop where
  | malformed (h : p.malformed = true) : BlankCase s o w p .otherStream
  | foreignScrambled (hm : p.malformed = false) (hl : (s.ctxs[w.context]).lists p.stream = false) (x : HalfParity)
      (hp : p.parity = .scrambled x) : BlankCase s o w p .otherStream
  | foreignGate (hm : p.malformed = false) (hl : (s.ctxs[w.context]).lists p.stream = false)
      (hp : ∀ x : HalfParity, p.parity ≠ .scrambled x) (hg : (s.outs[o]).gate ≠ .opened) : BlankCase s o w p .gate
  | reserved (hm : p.malformed = false) (hl : (s.ctxs[w.context]).lists p.stream = true) (hp : p.parity = .reserved) :
      BlankCase s o w p .otherStream
  | clearGate (hm : p.malformed = false) (hl : (s.ctxs[w.context]).lists p.stream = true) (hp : p.parity = .clear)
      (hg : (s.outs[o]).gate ≠ .opened) : BlankCase s o w p .gate
  | scrambledGate (hm : p.malformed = false) (hl : (s.ctxs[w.context]).lists p.stream = true) (x : HalfParity)
      (hp : p.parity = .scrambled x) (hc : (s.ctxs[w.context]).parity = some x) (hg : (s.outs[o]).gate ≠ .opened) :
      BlankCase s o w p .gate
  | noKey (hm : p.malformed = false) (hl : (s.ctxs[w.context]).lists p.stream = true) (x : HalfParity)
      (hp : p.parity = .scrambled x) (hc : (s.ctxs[w.context]).parity = some x) (hg : (s.outs[o]).gate = .opened)
      (hh : (s.ctxs[w.context]).half x = none) : BlankCase s o w p .noKey

/-- R8 to R10: in each of these cases the procedure blanks the read with the reason of the case. -/
theorem State.cellProcedure_blank {s : State} {x : Reading} {w : Tuned} {r : BlankReason} (ecc : EccFinding)
    (h : (s.outs[x.output]).tune = some w) (hc : BlankCase s x.output w (packetOf x.cell) r) :
    s.cellProcedure x ecc = s.readBlank x r := by
  cases hc with
  | malformed hm => exact State.cellProcedure_malformed ecc h hm
  | foreignScrambled hm hl p hp =>
    rw [State.cellProcedure_foreign ecc h hm hl, hp, State.readForeign_scrambled]
  | foreignGate hm hl hp hg =>
    rw [State.cellProcedure_foreign ecc h hm hl, State.readForeign_closed hp hg]
  | reserved hm hl hp => exact State.cellProcedure_reserved ecc h hm hl hp
  | clearGate hm hl hp hg =>
    rw [State.cellProcedure_listed ecc h hm hl (by simp [hp]), hp]
    exact State.readListed_closed w.context _ ecc hg
  | scrambledGate hm hl p hp hc hg =>
    rw [State.cellProcedure_listed ecc h hm hl (by simp [hp]), hp, State.flipIfNew_current hc]
    exact State.readListed_closed w.context _ ecc hg
  | noKey hm hl p hp hc hg hh =>
    rw [State.cellProcedure_listed ecc h hm hl (by simp [hp]), hp, State.flipIfNew_current hc,
      State.readListed_scrambled w.context p ecc hg, State.readScrambled_absent x ecc hh]

/-- R174, R11: a read that leaves its output's gate CLOSED answers no stored byte of the packet. -/
theorem cellRead_closed {s t : State} {u : UpReq} {k : Fin 4} {o : Fin 6} {ecc : EccFinding}
    (hs : s.servingUp = some u) (hc : s.completionOf u = .cell k o) (hlost : u.lost = false)
    (hw : wholeRead u.req = true) (hp : s.paceFull o = false) (hexec : exec (.cellRead (.whole ecc)) s = .next t)
    (hg : (t.outs[o]).gate ≠ .opened) : t.path.answers = s.path.answers ++
      [⟨u.req, (s.dramRead u.req.addr u.req.len).take 4 ++ blankPacket ++
        (s.dramRead u.req.addr u.req.len).drop 192⟩] := by
  obtain ⟨j, hj⟩ : ∃ j, s.freePort.cellProcedure (s.reading u o) ecc = j := ⟨_, rfl⟩
  have hout : ReadOutcome s.freePort (s.reading u o) j := hj ▸ State.cellProcedure_outcome _ _ ecc
  rw [exec_cellRead_whole ecc hs hc hw hp hj] at hexec
  cases hexec
  obtain ⟨rings, hpath⟩ := hout.work.path
  have hgate : (((j.state.answerRead o j.event u j.data).settle).outs[o]).gate = (j.state.outs[o]).gate := by
    rw [State.settle_outs, State.answerRead_outs, (State.takeRead_reads j.state o j.event).record]
  rcases hout.event with ⟨r, -, hdata⟩ | ⟨-, hopen⟩
  · rw [State.settle_path, State.answerRead_path, hpath, hdata, hlost]
    rfl
  · exact absurd (hgate.trans hopen) hg

/-- Settles O12. -/
theorem closedGateGivesBlankPackets : Obligations.ClosedGateGivesBlankPackets := by
  refine ⟨fun s t u k o ecc => cellRead_closed, ?_⟩
  intro s u k o ecc r hs hc hw hp hcase
  refine exec_cellRead_blank hs hc hw hp ?_
  rcases hcase with ⟨rfl, htune⟩ | ⟨w, p, htune, rfl, hcase⟩
  · exact State.cellProcedure_idle (s := s.freePort) (x := s.reading u o) ecc htune
  · refine State.cellProcedure_blank (s := s.freePort) (x := s.reading u o) ecc htune ?_
    rcases hcase with ⟨hm, rfl⟩ | ⟨hm, hl, hcase⟩ | ⟨hm, hl, hcase⟩
    · exact .malformed hm
    · rcases hcase with ⟨⟨x, hx⟩, rfl⟩ | ⟨hx, hg, rfl⟩
      · exact .foreignScrambled hm hl x hx
      · exact .foreignGate hm hl hx hg
    · rcases hcase with ⟨hx, rfl⟩ | ⟨hx, hg, rfl⟩ | ⟨x, hx, hpar, hcase⟩
      · exact .reserved hm hl hx
      · exact .clearGate hm hl hx hg
      · rcases hcase with ⟨hg, rfl⟩ | ⟨hg, hh, rfl⟩
        · exact .scrambledGate hm hl x hx hpar hg
        · exact .noKey hm hl x hx hpar hg hh

end Sys2Proof.Machine
end

section
/-! PROOFS. Cell reads that deliver or wait (R7 to R13, R64, R73, R76, R91, R96 to R99). -/

namespace Sys2Proof.Machine

/-! ### Partial and held reads (R7, R13) -/

/-- R6: the first two steps of a read differ only in when its response leaves. -/
theorem exec_cellRead_step {s : State} {u : UpReq} {k : Fin 4} {o : Fin 6} {ecc : EccFinding} {step : ReadStep}
    (hs : s.servingUp = some u) (hc : s.completionOf u = .cell k o) (h : step = .whole ecc ∨ step = .judged ecc) :
    ∃ atOnce : Bool, exec (.cellRead step) s = .next (s.cellRead u o ecc atOnce).settle := by
  obtain ⟨hwhole, hjudged⟩ := exec_cellRead ecc hs hc
  rcases h with rfl | rfl
  · exact ⟨true, hwhole⟩
  · exact ⟨false, hjudged⟩

/-- R7: a partial read is counted and answered FFh. -/
theorem State.cellRead_partial {s : State} {u : UpReq} (o : Fin 6) (ecc : EccFinding) (atOnce : Bool)
    (hw : wholeRead u.req = false) : s.cellRead u o ecc atOnce = (s.freePort.partialRead o).answer u
      (partialBytes (u.req.addr % 256) (s.dramRead u.req.addr u.req.len)) := by
  simp only [State.cellRead, hw, Bool.not_false, if_true]

/-- R13: a read at the pace limit is held. -/
theorem State.cellRead_held {s : State} {u : UpReq} {o : Fin 6} (ecc : EccFinding) (atOnce : Bool)
    (hw : wholeRead u.req = true) (hp : s.paceFull o = true) :
    s.cellRead u o ecc atOnce = s.freePort.holdRead u := by
  have hp' : s.freePort.paceFull o = true := hp
  simp only [State.cellRead, hw, hp', Bool.not_true, Bool.false_eq_true, if_true, if_false]

theorem partialRead_works {s : State} {u : UpReq} (o : Fin 6) (bytes : List Byte) (hs : s.servingUp = some u) (t : State)
    (ht : t = ((s.freePort.partialRead o).answer u bytes).settle) :
    answersOne u bytes s t ∧
      (t.outs[o]) = { s.outs[o] with counters := if (s.outCfg o).enabled
        then { (s.outs[o]).counters with partials := satInc (s.outs[o]).counters.partials }
        else (s.outs[o]).counters } ∧
      otherOutputs o s t ∧ t.port.upAll = s.port.up ∧ onlyChanges [.path, .upstream, .outputs] s t := by
  subst ht
  refine ⟨?_, ?_, ?_, ?_, ?_⟩
  · rw [answersOne, State.settle_path, State.answer_path, State.partialRead, State.count_path]
    rfl
  · rw [State.settle_outs, State.answer_outs, State.partialRead, State.count_same]
    rfl
  · intro x hx
    rw [State.settle_outs, State.answer_outs]
    exact State.count_others s.freePort o _ x hx
  · rw [State.settle_upAll, State.answer_port, State.partialRead, State.count_port]
    rfl
  · exact (((State.freePort_frame_up hs).trans (State.count_frame _ o _) (cs := [.upstream, .outputs]) (by decide)
      (by decide)).trans (State.answer_frame _ u bytes) (by decide) (by decide)).settle

theorem holdRead_works {s : State} {u : UpReq} (hs : s.servingUp = some u) (hf : u.firstHeld = none) (t : State)
    (ht : t = (s.freePort.holdRead u).settle) :
    t.path = { s.path with
        paceHeld := s.path.paceHeld ++ [{ u with firstHeld := some s.path.holdCount }]
        holdCount := s.path.holdCount + 1 } ∧
      t.port.upAll = s.port.up ∧ onlyChanges [.path, .upstream] s t := by
  have hhold : s.freePort.holdRead u = { s.freePort with path := { s.path with
      paceHeld := s.path.paceHeld ++ [{ u with firstHeld := some s.path.holdCount }]
      holdCount := s.path.holdCount + 1 } } := by
    simp only [State.holdRead, hf]
    rfl
  rw [hhold] at ht
  subst ht
  exact ⟨by simp, by simp, ((State.freePort_frame_up hs).trans (State.withPath_frame _ _) (by decide) (by decide)).settle⟩

/-! ### Deliveries (R10 to R13, R73, R76) -/

/-- R96: what the check of the key leaves, for a read that is descrambled. -/
def State.delivering (s : State) (c : Fin 8) (clear : Bool) (ecc : EccFinding) : State :=
  if clear then s else s.checked c ecc

/-- R96: a corrected error is counted for the window of the context, seen in each ring. -/
theorem State.countCorrected_ring (s : State) (c : Fin 8) (x : Fin 4) : (s.countCorrected c).path.rings[x] =
    if (s.ctxs[c]).tuning.map (·.window) = some x
    then { s.path.rings[x] with corrected := satInc (s.path.rings[x]).corrected } else s.path.rings[x] := by
  unfold State.countCorrected
  cases h : (s.ctxs[c]).tuning with
  | none => simp
  | some v =>
    simp only [Option.map_some, Option.some.injEq]
    exact State.modRing_get s v.window x _

theorem State.delivering_ring (s : State) (c : Fin 8) (clear : Bool) (ecc : EccFinding) (x : Fin 4) :
    (s.delivering c clear ecc).path.rings[x] =
      if clear = false ∧ ecc = .singleBit ∧ (s.ctxs[c]).tuning.map (·.window) = some x
      then { s.path.rings[x] with corrected := satInc (s.path.rings[x]).corrected } else s.path.rings[x] := by
  unfold State.delivering State.checked
  cases clear with
  | true => simp
  | false =>
    by_cases he : ecc = .singleBit
    · simp only [he, if_true, Bool.false_eq_true, if_false, true_and]
      exact State.countCorrected_ring s c x
    · simp [he]

theorem State.countCorrected_frame (s : State) (c : Fin 8) : Frame [.path] s (s.countCorrected c) := by
  unfold State.countCorrected
  split
  · exact Frame.refl _ s
  · exact State.modRing_frame s _ _

theorem State.delivering_frame (s : State) (c : Fin 8) (clear : Bool) (ecc : EccFinding) :
    Frame [.path] s (s.delivering c clear ecc) := by
  unfold State.delivering State.checked
  split
  · exact Frame.refl _ s
  · split
    · exact State.countCorrected_frame s c
    · exact Frame.refl _ s

theorem State.delivering_judge (s : State) (c : Fin 8) (clear : Bool) (ecc : EccFinding) :
    JudgeWork s (s.delivering c clear ecc) := by
  unfold State.delivering
  split
  · exact JudgeWork.refl s
  · exact State.checked_judge s c ecc

/-- A frame that keeps configuration, time, guide and writer keeps what notices read. -/
theorem Frame.inputs {as : List Area} {s t : State} (h : Frame as s t) (hc : Area.config ∉ as) (ht : Area.time ∉ as)
    (hg : Area.guide ∉ as) (hw : Area.writer ∉ as) : NoticeInputs s t :=
  ⟨h.only .config hc, congrArg Ticks.now (h.only .time ht), congrArg Guide.clock (h.only .guide hg), h.only .writer hw⟩

/-- The read of an output tuned as `w`, as the statement says it is delivered: `clear` with the stored bytes, or descrambled. -/
def Delivers (s : State) (w : Tuned) (cell : List Byte) (ecc : EccFinding) (clear : Bool)
    (bytes : List Byte) : Prop :=
  clear = true ∧ bytes = cell ∧
      ((s.ctxs[w.context]).lists (packetOf cell).stream = true ∧ (packetOf cell).parity = .clear ∨
        (s.ctxs[w.context]).lists (packetOf cell).stream = false ∧
          ∀ x : HalfParity, (packetOf cell).parity ≠ .scrambled x) ∨
    clear = false ∧ (s.ctxs[w.context]).lists (packetOf cell).stream = true ∧ ecc ≠ .uncorrectable ∧
      ∃ (p : HalfParity) (h : Half), (packetOf cell).parity = .scrambled p ∧
        (s.ctxs[w.context]).parity = some p ∧ (s.ctxs[w.context]).half p = some h ∧
        bytes = descrambled h.content cell

/-- R8 to R10: with the gate OPEN, such a read is judged a delivery. -/
theorem State.cellProcedure_delivery {s : State} {x : Reading} {w : Tuned} {ecc : EccFinding} {clear : Bool}
    {bytes : List Byte} (h : (s.outs[x.output]).tune = some w) (hm : (packetOf x.cell).malformed = false)
    (hg : (s.outs[x.output]).gate = .opened) (hd : Delivers s w x.cell ecc clear bytes) :
    s.cellProcedure x ecc = ⟨(s.delivering w.context clear ecc).countDelivery x.output clear, .delivery, bytes⟩ := by
  rcases hd with ⟨rfl, rfl, ⟨hl, hp⟩ | ⟨hl, hp⟩⟩ | ⟨rfl, hl, he, p, k, hp, hc, hh, rfl⟩
  · rw [State.cellProcedure_listed ecc h hm hl (by simp [hp]), hp]
    exact State.readListed_clear w.context ecc hg
  · rw [State.cellProcedure_foreign ecc h hm hl, State.readForeign_opened hp hg]
    rfl
  · rw [State.cellProcedure_listed ecc h hm hl (by simp [hp]), hp, State.flipIfNew_current hc,
      State.readListed_scrambled w.context p ecc hg, State.readScrambled_usable x hh he]
    rfl

/-- R11, R12, R13, R73, R76, R96: what a delivered read leaves. -/
theorem delivery_works {s : State} {u : UpReq} {o : Fin 6} {w : Tuned} (ecc : EccFinding) (clear : Bool)
    (bytes : List Byte) (hs : s.servingUp = some u) (htune : (s.outs[o]).tune = some w) (t : State)
    (ht : t = (((s.freePort.delivering w.context clear ecc).countDelivery o clear).answerRead o .delivery u bytes).settle) :
    t.path.answers = s.path.answers ++ (if u.lost then [] else [⟨u.req, bytes⟩]) ∧
      (∀ x : Fin 4, t.path.rings[x] =
        if clear = false ∧ ecc = .singleBit ∧ (s.ctxs[w.context]).tuning.map (·.window) = some x
        then { s.path.rings[x] with corrected := satInc (s.path.rings[x]).corrected } else s.path.rings[x]) ∧
      t.outs[o] = { s.outs[o] with
        tune := some (w.delivered (satInc (s.outs[o]).delivery.count))
        delivery := (s.outs[o]).delivery.delivered s.ticks.now
        pace := (s.outs[o]).pace + (if (s.outCfg o).isExport then 1 else 0)
        counters := if (s.outCfg o).enabled then
            (if clear then { (s.outs[o]).counters with clear := satInc (s.outs[o]).counters.clear }
             else { (s.outs[o]).counters with descrambled := satInc (s.outs[o]).counters.descrambled })
          else (s.outs[o]).counters } ∧
      handedOver (s.deliveryNotices o w (satInc (s.outs[o]).delivery.count)) s t ∧
      otherOutputs o s t ∧ t.port.upAll = s.port.up ∧
      onlyChanges [.path, .upstream, .own, .outputs, .writer] s t := by
  subst ht
  obtain ⟨s1, hs1⟩ : ∃ s1, s.freePort.delivering w.context clear ecc = s1 := ⟨_, rfl⟩
  obtain ⟨s2, hs2⟩ : ∃ s2, s1.countDelivery o clear = s2 := ⟨_, rfl⟩
  have hf1 : Frame [.path] s.freePort s1 := hs1 ▸ State.delivering_frame _ _ _ _
  have hf2 : Frame [.outputs] s1 s2 := hs2 ▸ State.countDelivery_frame _ _ _
  have hf12 : Frame [.path, .outputs] s.freePort s2 := hf1.trans hf2 (by decide) (by decide)
  have hf3 := State.answerRead_frame s2 o .delivery u bytes
  have houts : s1.outs = s.outs := hf1.only .outputs (by decide)
  have hcfg : ∀ x, s1.outCfg x = s.outCfg x := by
    intro x
    rw [State.outCfg, hf1.only .config (by decide)]
    rfl
  have hticks : s2.ticks = s.ticks := hf12.only .time (by decide)
  obtain ⟨hctxs, -⟩ := hf12.only .contexts (by decide)
  have hsame : s2.outs[o] = _ := hs2 ▸ State.countDelivery_get s1 o o clear
  rw [if_pos rfl, houts, hcfg] at hsame
  have htake : s2.takeRead o .delivery = _ := State.takeRead_delivery (w := w) (by rw [hsame]; exact htune)
  rw [hs1, hs2]
  refine ⟨?_, ?_, ?_, ?_, ?_, ?_, ?_⟩
  · obtain ⟨rings, hpath⟩ := ((State.delivering_judge s.freePort w.context clear ecc).trans
      (State.countDelivery_judge _ o clear)).path
    rw [hs1, hs2] at hpath
    rw [State.settle_path, State.answerRead_path, hpath]
    rfl
  · intro x
    have hp2 : s2.path = s1.path := hf2.only .path (by decide)
    rw [State.settle_path, State.answerRead_path, hp2, ← hs1]
    exact State.delivering_ring s.freePort w.context clear ecc x
  · rw [State.settle_outs, State.answerRead_outs, htake, State.takenAs_same, hsame, hticks]
  · have hnotices := State.takenAs_notices s2 o (some (w.delivered (satInc (s2.outs[o]).delivery.count)))
      ((s2.outs[o]).delivery.delivered s2.ticks.now) (s2.deliveryNotices o w (satInc (s2.outs[o]).delivery.count))
    have heq : s2.deliveryNotices o w (satInc (s2.outs[o]).delivery.count) =
        s.deliveryNotices o w (satInc (s.outs[o]).delivery.count) := by
      rw [hsame]
      simp only [State.deliveryNotices, hticks, hctxs]
      rfl
    rw [← htake, heq] at hnotices
    refine ((hnotices.of_inputs (s.freePort_inputs.trans (hf12.inputs (by decide) (by decide) (by decide) (by decide)))
      ?_).then (State.answerRead_writer _ _ _ _ _) (congrArg Port.ownAll (State.answerRead_port _ _ _ _ _))).settle
    rw [State.ownAll_of_servingUp hs]
    exact hf12.only .own (by decide)
  · intro x hx
    have hother : s2.outs[x] = s.outs[x] := by
      rw [← hs2, State.countDelivery_get, if_neg (Ne.symm hx), houts]
    rw [State.settle_outs, State.answerRead_outs, htake, State.takenAs_others _ _ _ _ _ x hx, hother]
  · rw [State.settle_upAll]
    exact (hf12.trans hf3 (cs := [.path, .own, .outputs, .writer]) (by decide) (by decide)).only .upstream (by decide)
  · exact (((State.freePort_frame_up hs).trans hf12 (cs := [.path, .upstream, .outputs]) (by decide) (by decide)).trans
      hf3 (by decide) (by decide)).settle

/-! ### Parity flips and key faults (R9, R91, R97) -/

/-- A scrambled packet of another parity is read as it is after the flip (R9). -/
theorem State.cellProcedure_flip {s : State} {x : Reading} {w : Tuned} {p : HalfParity} (ecc : EccFinding)
    (h : (s.outs[x.output]).tune = some w) (hm : (packetOf x.cell).malformed = false)
    (hl : (s.ctxs[w.context]).lists (packetOf x.cell).stream = true) (hp : (packetOf x.cell).parity = .scrambled p)
    (hc : (s.ctxs[w.context]).parity ≠ some p) :
    (s.flipParity w.context p).cellProcedure x ecc = s.cellProcedure x ecc := by
  have hsame := State.flipParity_same s w.context p
  have htune : ((s.flipParity w.context p).outs[x.output]).tune = some w := by
    rw [(State.flipParity_judge s w.context p).tune, h]
  have hlists : ((s.flipParity w.context p).ctxs[w.context]).lists (packetOf x.cell).stream = true := by
    rw [hsame]
    exact hl
  have hpar : ((s.flipParity w.context p).ctxs[w.context]).parity = some p := by rw [hsame]
  rw [State.cellProcedure_listed ecc h hm hl (by simp [hp]), State.cellProcedure_listed ecc htune hm hlists (by simp [hp]),
    hp, State.flipIfNew_flips hc, State.flipIfNew_current hpar]

/-- What a completion is depends on the configuration and on the slots alone. -/
theorem State.completionOf_congr {s t : State} (hc : t.cfg = s.cfg) (hi : t.intake = s.intake) (u : UpReq) :
    t.completionOf u = s.completionOf u := by
  have hbound : ∀ tag, t.boundOutput tag = s.boundOutput tag := fun tag => by simp only [State.boundOutput, hc]
  have hslot : ∀ a, t.slotOf a = s.slotOf a := fun a => by simp only [State.slotOf, hc]
  have htaken : ∀ n, t.slotTaken n = s.slotTaken n := fun n => by simp only [State.slotTaken, hi]
  have hword : t.coversConsumer u.req = s.coversConsumer u.req := by simp only [State.coversConsumer, hc]
  simp only [State.completionOf, hbound, hslot, htaken, hword]

/-- Work of the gates leaves the request in service where it is. -/
theorem GateWork.servingUp {s t : State} (h : GateWork s t) : t.servingUp = s.servingUp := by
  obtain ⟨rs, hport, -⟩ := h.port
  simp only [State.servingUp, hport]

/-- R9, R91: a cell read that flips the parity is the read after the flip. -/
theorem exec_cellRead_flip {s : State} {u : UpReq} {k : Fin 4} {o : Fin 6} {w : Tuned} {p : HalfParity}
    {ecc : EccFinding} {step : ReadStep} (hs : s.servingUp = some u) (hc : s.completionOf u = .cell k o)
    (hstep : step = .whole ecc ∨ step = .judged ecc) (hw : wholeRead u.req = true) (hpace : s.paceFull o = false)
    (htune : (s.outs[o]).tune = some w) (hm : (s.packetRead u).malformed = false)
    (hl : (s.ctxs[w.context]).lists (s.packetRead u).stream = true) (hp : (s.packetRead u).parity = .scrambled p)
    (hne : (s.ctxs[w.context]).parity ≠ some p) :
    exec (.cellRead step) s = exec (.cellRead step) (s.flipParity w.context p) := by
  obtain ⟨s1, hs1⟩ : ∃ s1, s.flipParity w.context p = s1 := ⟨_, rfl⟩
  have hf : Frame [.own, .contexts, .outputs, .writer] s s1 := hs1 ▸ State.flipParity_frame s w.context p
  have hgate := State.flipParity_work s w.context p
  have hserving : s1.servingUp = some u := by rw [← hs1, hgate.servingUp]; exact hs
  have hcfg : s1.cfg = s.cfg := hf.only .config (by decide)
  have hcompletion : s1.completionOf u = .cell k o := by
    rw [State.completionOf_congr hcfg (hf.only .intake (by decide)), hc]
  have hpace1 : s1.paceFull o = false := by
    have hkeep : (s1.outs[o]).pace = (s.outs[o]).pace := by rw [← hs1, (hgate.outs o).pace]; rfl
    rw [State.paceFull, hkeep, State.outCfg, hcfg]
    exact hpace
  have hreading : s1.reading u o = s.reading u o := by
    rw [State.reading, State.dramRead, hf.only .dram (by decide)]
    rfl
  have hproc : s1.freePort.cellProcedure (s1.reading u o) ecc = s.freePort.cellProcedure (s.reading u o) ecc := by
    rw [hreading, ← hs1, ← State.flipParity_freePort]
    exact State.cellProcedure_flip (s := s.freePort) (x := s.reading u o) ecc htune hm hl hp hne
  rw [hs1]
  rcases hstep with rfl | rfl
  · rw [exec_cellRead_whole ecc hs hc hw hpace rfl, exec_cellRead_whole ecc hserving hcompletion hw hpace1 hproc]
  · rw [exec_cellRead_judged ecc hs hc hw hpace rfl, exec_cellRead_judged ecc hserving hcompletion hw hpace1 hproc]

/-- R97, R10: a read whose half's key is uncorrectable discards the half and is blanked NO_KEY. -/
theorem exec_cellRead_keyFault {s : State} {u : UpReq} {k : Fin 4} {o : Fin 6} {w : Tuned} {p : HalfParity} {h : Half}
    (hs : s.servingUp = some u) (hc : s.completionOf u = .cell k o) (hw : wholeRead u.req = true)
    (hpace : s.paceFull o = false) (htune : (s.outs[o]).tune = some w) (hm : (s.packetRead u).malformed = false)
    (hl : (s.ctxs[w.context]).lists (s.packetRead u).stream = true) (hp : (s.packetRead u).parity = .scrambled p)
    (hpar : (s.ctxs[w.context]).parity = some p) (hg : (s.outs[o]).gate = .opened)
    (hh : (s.ctxs[w.context]).half p = some h) :
    ∃ t : State, exec (.cellRead (.whole .uncorrectable)) s = .next t ∧
      blankedRead u o .noKey (s.keyFault w.context p false) t := by
  have hproc : s.freePort.cellProcedure (s.reading u o) .uncorrectable =
      (s.keyFault w.context p false).freePort.readBlank (s.reading u o) .noKey := by
    have hp' : (packetOf (s.reading u o).cell).parity = .scrambled p := hp
    rw [State.cellProcedure_listed (s := s.freePort) (x := s.reading u o) .uncorrectable htune hm hl (by simp [hp']), hp',
      State.flipIfNew_current (s := s.freePort) hpar,
      State.readListed_scrambled (s := s.freePort) (x := s.reading u o) w.context p .uncorrectable hg,
      State.readScrambled_uncorrectable (s := s.freePort) (s.reading u o) hh, State.keyFault_freePort]
  have hserving : (s.keyFault w.context p false).servingUp = some u := by
    have hnotified : (s.halfFaulted w.context p false).servingUp = s.servingUp := (State.notify_work _ _).servingUp
    rw [(State.keyFault_work s w.context p false).servingUp, hnotified, hs]
  have hdram : (s.keyFault w.context p false).dramRead u.req.addr u.req.len = s.dramRead u.req.addr u.req.len := by
    rw [State.dramRead, (State.keyFault_frame s w.context p false).only .dram (by decide)]
    rfl
  have hblank := State.blank_blankedRead hserving u o .noKey
  rw [hdram] at hblank
  exact ⟨_, exec_cellRead_whole .uncorrectable hs hc hw hpace hproc, hblank⟩

/-! ### Reads judged and answered later (R64) -/

/-- R6, R64: the judged step and the whole step of the same read. -/
theorem judged_and_whole {s : State} {u : UpReq} {k : Fin 4} {o : Fin 6} (ecc : EccFinding) (hs : s.servingUp = some u)
    (hc : s.completionOf u = .cell k o) (hw : wholeRead u.req = true) (hp : s.paceFull o = false) :
    ∃ (t x : State) (l : Leaving), exec (.cellRead (.whole ecc)) s = .next t ∧ exec (.cellRead (.judged ecc)) s = .next x ∧
      l.output = o ∧ l.read = u ∧ x.path.leaving = s.path.leaving ++ [l] ∧ x.path.answers = s.path.answers ∧
      t.path = { x.path with
        leaving := s.path.leaving
        answers := s.path.answers ++ if u.lost then [] else [⟨u.req, l.data⟩] } ∧
      x.ctxs = t.ctxs ∧
      x.outs[o] = { t.outs[o] with tune := (s.outs[o]).tune, delivery := (s.outs[o]).delivery } ∧
      (l.event = .delivery → (t.outs[o]).delivery =
        { (s.outs[o]).delivery with last := some s.ticks.now, count := satInc (s.outs[o]).delivery.count }) ∧
      (∀ r : BlankReason, l.event = .blank r → (t.outs[o]).delivery =
        { (s.outs[o]).delivery with count := 0, lastBlank := some r }) ∧
      x.port.upAll = s.port.up ∧ onlyChanges [.path, .upstream, .own, .contexts, .outputs, .writer] s x := by
  obtain ⟨j, hj⟩ : ∃ j, s.freePort.cellProcedure (s.reading u o) ecc = j := ⟨_, rfl⟩
  have hwork : JudgeWork s.freePort j.state := hj ▸ (State.cellProcedure_outcome _ _ ecc).work
  obtain ⟨rings, hpath⟩ := hwork.path
  have htune : (j.state.outs[o]).tune = (s.outs[o]).tune := hwork.tune o
  have hdelivery : (j.state.outs[o]).delivery = (s.outs[o]).delivery := hwork.delivery o
  have hticks : j.state.ticks = s.ticks := hwork.frame.only .time (by decide)
  have hreads := State.takeRead_reads j.state o j.event
  obtain ⟨tune, delivery, ns, htaken, -, -, hdel, hblank⟩ := State.takeRead_eventTaken j.state o j.event
  refine ⟨_, _, ⟨o, j.event, u, j.data⟩, exec_cellRead_whole ecc hs hc hw hp hj, exec_cellRead_judged ecc hs hc hw hp hj,
    rfl, rfl, ?_, ?_, ?_, ?_, ?_, ?_, ?_, ?_, ?_⟩
  · rw [State.settle_path, State.keepRead_path, hpath]
    rfl
  · rw [State.settle_path, State.keepRead_path, hpath]
    rfl
  · rw [State.settle_path, State.settle_path, State.keepRead_path, State.answerRead_path, hpath]
    rfl
  · obtain ⟨hctxs, -⟩ := (State.answerRead_frame j.state o j.event u j.data).only .contexts (by decide)
    rw [State.settle_ctxs, State.settle_ctxs, hctxs]
    rfl
  · rw [State.settle_outs, State.settle_outs, State.answerRead_outs, htaken, ← htune, ← hdelivery]
    rfl
  · intro he
    obtain ⟨hd, -, -⟩ := hdel he
    rw [State.settle_outs, State.answerRead_outs, htaken, hd, hdelivery, hticks]
  · intro r he
    obtain ⟨hd, -, -⟩ := hblank r he
    rw [State.settle_outs, State.answerRead_outs, htaken, hd, hdelivery]
  · rw [State.settle_upAll]
    exact hwork.frame.only .upstream (by decide)
  · have hkeep : Frame [.path] j.state (j.state.keepRead ⟨o, j.event, u, j.data⟩) := State.withPath_frame _ _
    exact (((State.freePort_frame_up hs).trans hwork.frame
      (cs := [.path, .upstream, .own, .contexts, .outputs, .writer]) (by decide) (by decide)).trans hkeep (by decide)
      (by decide)).settle

/-- R12, R64: the response of a judged read leaves. -/
theorem answered_works {s : State} {k : Nat} {l : Leaving} (h : s.path.leaving[k]? = some l) :
    ∃ t : State, exec (.cellRead (.answered k)) s = .next t ∧ eventTaken l.output l.event s t ∧
      t.path = { s.path with
        leaving := s.path.leaving.eraseIdx k
        answers := s.path.answers ++ if l.read.lost then [] else [⟨l.read.req, l.data⟩] } ∧
      onlyChanges [.path, .own, .outputs, .writer] s t := by
  obtain ⟨s1, hs1⟩ : ∃ s1 : State, { s with path := { s.path with leaving := s.path.leaving.eraseIdx k } } = s1 :=
    ⟨_, rfl⟩
  have hexec : exec (.cellRead (.answered k)) s = .next (s1.answerRead l.output l.event l.read l.data).settle := by
    simp only [exec, execCellRead, State.leaveRead, h, done, hs1]
  have hframe : Frame [.path] s s1 := hs1 ▸ State.withPath_frame s _
  refine ⟨_, hexec, ?_, ?_, (hframe.trans (State.answerRead_frame s1 _ _ _ _) (by decide) (by decide)).settle⟩
  · obtain ⟨tune, delivery, ns, htaken, hover, hother, hdel, hblank⟩ := State.takeRead_eventTaken s1 l.output l.event
    have hnotices := (((hover.of_inputs (hframe.inputs (by decide) (by decide) (by decide) (by decide))
      (hframe.only .own (by decide))).then (State.answerRead_writer s1 _ _ l.read l.data)
      (congrArg Port.ownAll (State.answerRead_port s1 _ _ _ _)))).settle
    subst hs1
    refine ⟨tune, delivery, ns, ?_, hnotices, ?_, hdel, hblank⟩
    · rw [State.settle_outs, State.answerRead_outs]
      exact htaken
    · intro x hx
      rw [State.settle_outs, State.answerRead_outs]
      exact hother x hx
  · rw [State.settle_path, State.answerRead_path, ← hs1]

/-! ### The statement -/

/-- R97: what a key fault leaves of the contexts, the gates and the notices. -/
theorem keyFault_works {s : State} {c : Fin 8} {x : HalfParity} (compare : Bool) {h : Half} {v : Tuning}
    (hh : (s.ctxs[c]).half x = some h) (hv : (s.ctxs[c]).tuning = some v) :
    ((s.keyFault c x compare).ctxs[c]).half x = none ∧
    (∀ y : HalfParity, y ≠ x → ((s.keyFault c x compare).ctxs[c]).half y = (s.ctxs[c]).half y) ∧
    ((∀ g : HalfParity × Half, (s.ctxs[c]).governing = some g → g.1 ≠ x) ∨ (s.ctxs[c]).isActive = false →
      handedOver [.keyFault c.val v.window.val v.service x compare] s (s.keyFault c x compare) ∧
      (s.keyFault c x compare).outs = s.outs) := by
  refine ⟨?_, ?_, ?_⟩
  · rw [State.keyFault_same, Context.setHalf_same]
  · intro y hy
    rw [State.keyFault_same, Context.setHalf_other _ none hy]
  · intro hn
    have hnotice : s.keyFaultNotice c x compare = .keyFault c.val v.window.val v.service x compare := by
      simp only [State.keyFaultNotice, hv]
    rw [State.keyFault_silent compare hh hn, State.halfFaulted, hnotice]
    exact ⟨(handedOver_one _ _).of_inputs ⟨rfl, rfl, rfl, rfl⟩ rfl, State.notify_outs _ _⟩

/-- Settles O13. -/
theorem cellReadsDeliverOrWait : Obligations.CellReadsDeliverOrWait := by
  refine ⟨?_, ?_, ?_, ?_⟩
  · intro s u k o ecc step hs hc hstep
    refine ⟨?_, ?_, ?_, judged_and_whole ecc hs hc⟩
    · intro hw
      obtain ⟨atOnce, hexec⟩ := exec_cellRead_step hs hc hstep
      rw [State.cellRead_partial o ecc atOnce hw] at hexec
      exact ⟨_, hexec, partialRead_works o _ hs _ rfl⟩
    · intro hw hp hf
      obtain ⟨atOnce, hexec⟩ := exec_cellRead_step hs hc hstep
      rw [State.cellRead_held ecc atOnce hw hp] at hexec
      exact ⟨_, hexec, holdRead_works hs hf _ rfl⟩
    · rintro w cell rfl hw hp htune hm
      refine ⟨?_, ?_⟩
      · intro hg clear bytes hd
        obtain ⟨hans, hring, hout, hover, hother, hup, hframe⟩ := delivery_works ecc clear bytes hs htune _ rfl
        refine ⟨_, exec_cellRead_whole ecc hs hc hw hp
          (State.cellProcedure_delivery (s := s.freePort) (x := s.reading u o) htune hm hg hd), hans, hring, ?_, ?_, ?_, ?_,
          hover, hother, hup, hframe⟩
        · exact congrArg Output.delivery hout
        · exact congrArg Output.pace hout
        · exact congrArg Output.counters hout
        · exact congrArg Output.tune hout
      · intro x hl hx
        exact ⟨exec_cellRead_flip hs hc hstep hw hp htune hm hl hx,
          fun h hpar hg hh => exec_cellRead_keyFault hs hc hw hp htune hm hl hx hpar hg hh⟩
  · intro s k l
    exact answered_works
  · intro s c x
    exact ⟨State.flipParity_same s c x, State.flipParity_others s c x, State.flipParity_follows s c x,
      (State.flipParity_frame s c x).only⟩
  · intro s c x compare h v hh hv
    obtain ⟨hgone, hkept, hsilent⟩ := keyFault_works compare hh hv
    exact ⟨hgone, hkept, State.keyFault_others s c x compare, hsilent, State.keyFault_follows compare,
      (State.keyFault_frame s c x compare).only⟩

end Sys2Proof.Machine
end

section
/-! PROOFS. A link reset (R14, R15, R19, R33, R34, R80, R192), step by step: what each step of it leaves, as one equation. -/

namespace Sys2Proof.Machine

/-! ### The record in processing (R34) -/

/-- R34: the fetch in service is complete, and its record goes on detached. -/
def State.fetchDetaches (s : State) (complete : Bool) : Bool :=
  decide (complete = true ∧ s.fetched ≠ none ∧ ∃ n : Fin 256, s.intake.proc = some ⟨n, .fetching⟩)

theorem State.fetchDetaches_iff (s : State) (c : Bool) : s.fetchDetaches c = true ↔
    c = true ∧ s.fetched ≠ none ∧ ∃ n : Fin 256, s.intake.proc = some ⟨n, .fetching⟩ := decide_eq_true_iff

/-- A record whose fetch is its stage is at hand only by that fetch, in service. -/
theorem State.fetched_of_fetching {s : State} {n : Fin 256} {f : Fetched} (hp : s.intake.proc = some ⟨n, .fetching⟩)
    (hf : s.fetched = some f) : f = ⟨n, s.dramRead (s.slotAddr n) 256, true⟩ ∧
      ∃ r : OwnReq, s.port.serving = some (.own r) := by
  unfold State.fetched at hf
  simp only [hp] at hf
  split at hf
  · cases hf
  · next r hr =>
    split at hf
    · cases hf
      exact ⟨rfl, r, State.servingOwn_eq hr⟩
    · cases hf

theorem State.detach_none {s : State} (hp : s.intake.proc = none) (c : Bool) : s.detach c = s := by
  simp only [State.detach, hp]

theorem State.detach_detached {s : State} {n : Fin 256} {b : List Byte} (hp : s.intake.proc = some ⟨n, .detached b⟩)
    (c : Bool) : s.detach c = s := by
  simp only [State.detach, hp]

theorem State.detach_decided {s : State} {n : Fin 256} (hp : s.intake.proc = some ⟨n, .decided⟩) (c : Bool) :
    s.detach c = s.modIntake (fun i => { i with proc := none }) := by
  simp only [State.detach, hp]

theorem State.detach_abandons {s : State} {n : Fin 256} {c : Bool} (hp : s.intake.proc = some ⟨n, .fetching⟩)
    (hc : c = false ∨ s.fetched = none) : s.detach c = s.modIntake (fun i => { i with proc := none }) := by
  simp only [State.detach, hp]
  rcases hc with rfl | hf
  · split <;> rfl
  · rw [hf]

theorem State.detach_completes {s : State} {n : Fin 256} (hp : s.intake.proc = some ⟨n, .fetching⟩)
    (hf : s.fetched ≠ none) : s.detach true =
      s.freePort.modIntake (fun i => { i with proc := some ⟨n, .detached (s.dramRead (s.slotAddr n) 256)⟩ }) := by
  obtain ⟨f, hf⟩ := Option.ne_none_iff_exists'.mp hf
  obtain ⟨rfl, -⟩ := State.fetched_of_fetching hp hf
  simp only [State.detach, hp, hf, if_true]

/-- R34: but for the record in processing, and the port that a complete fetch frees, nothing changes. -/
theorem State.detach_eq (s : State) (c : Bool) : s.detach c = { s with
    intake := { s.intake with proc := (s.detach c).intake.proc }
    port := { s.port with serving := if s.fetchDetaches c then none else s.port.serving } } := by
  have hkeep : ∀ p, s.intake.proc = p → (∀ n, p ≠ some ⟨n, .fetching⟩) → ¬ s.fetchDetaches c := by
    rintro p rfl h hd
    obtain ⟨-, -, n, hn⟩ := (s.fetchDetaches_iff c).mp hd
    exact h n hn
  cases hp : s.intake.proc with
  | none =>
    rw [if_neg (hkeep _ hp (by simp)), State.detach_none hp]
  | some p =>
    obtain ⟨n, stage⟩ := p
    cases stage with
    | detached b => rw [if_neg (hkeep _ hp (by simp)), State.detach_detached hp]
    | decided =>
      rw [if_neg (hkeep _ hp (by simp)), State.detach_decided hp]
      rfl
    | fetching =>
      by_cases hc : c = false ∨ s.fetched = none
      · have hno : ¬ s.fetchDetaches c := by
          rw [State.fetchDetaches_iff]
          rintro ⟨rfl, hf, -⟩
          exact hc.elim nofun hf
        rw [if_neg hno, State.detach_abandons hp hc]
        rfl
      · obtain ⟨hc, hf⟩ := not_or.mp hc
        obtain rfl : c = true := by simpa using hc
        rw [if_pos ((s.fetchDetaches_iff true).mpr ⟨rfl, hf, n, hp⟩), State.detach_completes hp hf]
        rfl

/-! ### Held writes (R33) -/

/-- R33: the writes held against slot `n`, their link lost. -/
def State.lostWrites (s : State) (n : Fin 256) : List UpReq :=
  (s.intake.held.filter (fun h => h.1 = n)).map (fun h => { h.2 with lost := true })

/-- R33: the held writes of several slots, released slot by slot. -/
theorem State.foldl_releaseHeld {ns : List (Fin 256)} (hns : ns.Nodup) (s : State) :
    ns.foldl (fun s n => s.releaseHeld n true) s = { s with
      port := { s.port with up := s.port.up ++ ns.flatMap s.lostWrites }
      intake := { s.intake with held := s.intake.held.filter (fun h => h.1 ∉ ns) } } := by
  induction ns generalizing s with
  | nil => simp
  | cons n ns ih =>
    obtain ⟨hn, hns⟩ := List.nodup_cons.mp hns
    have hothers : ∀ m ∈ ns, (s.releaseHeld n true).lostWrites m = s.lostWrites m := by
      intro m hm
      simp only [State.lostWrites, State.releaseHeld, List.filter_filter]
      congr 2
      funext h
      by_cases e : h.1 = m
      · have hne : m ≠ n := fun h => hn (h ▸ hm)
        simp [e, hne]
      · simp [e]
    rw [List.foldl_cons, ih hns, List.flatMap_congr hothers]
    simp [State.releaseHeld, State.lostWrites, List.filter_filter, Bool.and_comm]

/-- R33: slots FREE, queues empty, streak 0, every held write released. -/
theorem State.resetIntake_eq (s : State) : s.resetIntake = { s with
    port := { s.port with up := s.port.up ++ (List.finRange 256).flatMap s.lostWrites }
    intake := ⟨Vector.replicate 256 false, [], [], 0, [], s.intake.proc⟩ } := by
  rw [State.resetIntake, State.foldl_releaseHeld (List.nodup_finRange 256)]
  simp [State.modIntake]
  rfl

end Sys2Proof.Machine
end

section
/-! PROOFS. A link reset: the pool is cleared (R80), the notices start again (R192), and the held export reads are answered
(R14). -/

namespace Sys2Proof.Machine

/-! ### The pool (R80) -/

/-- R80: an output after a link reset or STANDBY entry. -/
def Output.emptied (x : Output) : Output :=
  { x with
    tune := none
    delivery := if x.tune = none then x.delivery else Delivery.cleared
    eventUnlock := none
    periodUnlock := none
    gate := .closed .idle
    reported := .closed .idle
    offer := none }

/-- R80: one output leaves its context and is emptied. -/
def State.emptyOutput (s : State) (o : Fin 6) : State := ((s.moveToIdle o).gateIdle o).clearUnlocks o

theorem State.emptyOutput_outs (s : State) (o x : Fin 6) :
    (s.emptyOutput o).outs[x] = if o = x then (s.outs[x]).emptied else s.outs[x] := by
  unfold State.emptyOutput State.clearUnlocks State.gateIdle State.moveToIdle
  cases h : (s.outs[o]).tune with
  | none =>
    rw [State.modOut_modOut, State.modOut_get]
    split
    · next e =>
      subst e
      simp only [Output.emptied, h, if_true]
    · rfl
  | some t =>
    simp only [State.modOut_modOut, State.modOut_get, State.leaveContext, State.modCtx_outs]
    split
    · next e =>
      subst e
      simp only [Output.emptied, Output.idle, h, reduceCtorEq, if_false]
    · rfl

theorem State.emptyOutput_eq (s : State) (o : Fin 6) : s.emptyOutput o =
    { s with ctxs := (s.emptyOutput o).ctxs, outs := (s.emptyOutput o).outs } := by
  unfold State.emptyOutput State.moveToIdle
  split <;> rfl

theorem Output.emptied_emptied (x : Output) : x.emptied.emptied = x.emptied := by
  simp [Output.emptied]

/-- R80: several outputs are emptied; the contexts they leave do not matter. -/
theorem State.foldl_emptyOutput (os : List (Fin 6)) (s : State) : ∃ cs : Vector Context 8,
    os.foldl State.emptyOutput s = { s with
      ctxs := cs
      outs := Vector.ofFn (fun x : Fin 6 => if x ∈ os then (s.outs[x]).emptied else s.outs[x]) } := by
  induction os generalizing s with
  | nil =>
    refine ⟨s.ctxs, ?_⟩
    have hsame : Vector.ofFn (fun x : Fin 6 => s.outs[x]) = s.outs := by
      ext x hx
      simp
    simp only [List.not_mem_nil, if_false, hsame, List.foldl_nil]
  | cons o os ih =>
    obtain ⟨cs, h⟩ := ih (s.emptyOutput o)
    refine ⟨cs, ?_⟩
    have houts : (fun x : Fin 6 => if x ∈ os then ((s.emptyOutput o).outs[x]).emptied else (s.emptyOutput o).outs[x]) =
        fun x => if x ∈ o :: os then (s.outs[x]).emptied else s.outs[x] := by
      funext x
      rw [State.emptyOutput_outs]
      by_cases e : o = x
      · simp [e, Output.emptied_emptied]
      · simp [e, Ne.symm e]
    rw [List.foldl_cons, h, houts, State.emptyOutput_eq]

/-- R71, R80: several contexts are freed; retained entries end. -/
theorem State.foldl_freeContext (cs : List (Fin 8)) (s : State) : ∃ es : List MapEntry,
    cs.foldl State.freeContext s = { s with
      guide := { s.guide with retained := es }
      ctxs := Vector.ofFn (fun c : Fin 8 => if c ∈ cs then Context.free else s.ctxs[c]) } := by
  induction cs generalizing s with
  | nil =>
    refine ⟨s.guide.retained, ?_⟩
    have hsame : Vector.ofFn (fun c : Fin 8 => s.ctxs[c]) = s.ctxs := by
      ext c hc
      simp
    simp only [List.not_mem_nil, if_false, hsame, List.foldl_nil]
  | cons c cs ih =>
    obtain ⟨es, h⟩ := ih (s.freeContext c)
    refine ⟨es, ?_⟩
    have hstep : ∃ es' : List MapEntry, s.freeContext c =
        { s.modCtx c (fun _ => Context.free) with guide := { s.guide with retained := es' } } := by
      unfold State.freeContext
      split
      · exact ⟨s.guide.retained, rfl⟩
      · dsimp only
        split
        · exact ⟨s.guide.retained, rfl⟩
        · exact ⟨_, rfl⟩
    obtain ⟨es', hstep⟩ := hstep
    have hctxs : (fun d : Fin 8 => if d ∈ cs then Context.free else (s.freeContext c).ctxs[d]) =
        fun d => if d ∈ c :: cs then Context.free else s.ctxs[d] := by
      funext d
      have hd : (s.freeContext c).ctxs[d] = (s.modCtx c (fun _ => Context.free)).ctxs[d] := by rw [hstep]
      rw [hd, State.modCtx_get]
      by_cases e : c = d
      · simp [e]
      · simp [e, Ne.symm e]
    rw [List.foldl_cons, h, hctxs, hstep]
    rfl

/-- R80: every output emptied, every context FREE, no retained entry. -/
theorem State.clearPool_eq (s : State) : s.clearPool = { s with
    outs := s.outs.map Output.emptied
    ctxs := Vector.replicate 8 Context.free
    guide := { s.guide with retained := [] } } := by
  obtain ⟨cs, h1⟩ := State.foldl_emptyOutput allOutputs s
  obtain ⟨es, h2⟩ := State.foldl_freeContext allContexts (allOutputs.foldl State.emptyOutput s)
  have houts : Vector.ofFn (fun x : Fin 6 => if x ∈ allOutputs then (s.outs[x]).emptied else s.outs[x]) =
      s.outs.map Output.emptied := by
    ext x hx
    have hm : ∀ o : Fin 6, o ∈ allOutputs := by decide
    simp [hm]
  have hctxs : ∀ v : Vector Context 8,
      Vector.ofFn (fun c : Fin 8 => if c ∈ allContexts then Context.free else v[c]) = Vector.replicate 8 Context.free := by
    intro v
    have hm : ∀ c : Fin 8, c ∈ allContexts := by decide
    ext c hc
    simp [hm]
  have hclear : s.clearPool = (allContexts.foldl State.freeContext (allOutputs.foldl State.emptyOutput s)).modGuide
    (fun g => { g with retained := [] }) := rfl
  rw [hclear, h2, hctxs, h1, houts]
  rfl

/-! ### Notices (R192) -/

/-- R192: the own writes of a link reset: the control block, and READY unless the mount is still on. -/
def State.restartWrites (s : State) : List OwnReq :=
  [⟨.controlBlock, s.cfg.repBase, zeros 64, false⟩] ++
    if s.part = .mounting then [] else
      [⟨.entry, s.cfg.repBase + 64,
        (Notice.ready true s.cfg.version s.cfg.unitId s.purse.balance s.purse.newest).entry false 0 s.ticks.now
          s.guide.clock, false⟩,
       ⟨.publish 1, s.cfg.repBase, beBytes 4 1 ++ zeros 4, false⟩]

/-- R185: when the statistics timer ends once it has started. -/
def State.statisticsEnd (s : State) : Option Nat :=
  if s.cfg.statPeriod = 0 then s.writer.statsEnd else some (s.ticks.now + s.cfg.statPeriod * 1000)

/-- R192: the report ring after a link reset. -/
def State.restartedWriter (s : State) : Writer :=
  { s.writer.restart with
    writeIdx := if s.part = .mounting then 0 else 1
    statsEnd := if s.part = .mounting then s.writer.statsEnd else s.statisticsEnd }

theorem State.startStatistics_eq (s : State) : s.startStatistics = { s with
    writer := { s.writer with statsEnd := s.statisticsEnd } } := by
  unfold State.startStatistics State.statisticsEnd
  split <;> rfl

/-- R192: READY on the ring just emptied. -/
theorem State.restartNotices_mounted {s : State} (h : s.part.mounted = true) : s.restartNotices = { s with
    part := .active
    port := { s.port with own := s.port.own ++ s.restartWrites }
    writer := s.restartedWriter } := by
  have hm : s.part ≠ .mounting := by
    intro e
    simp [e, PartState.mounted] at h
  have hready : ∀ t : State, t.part.mounted = true → t.readyAfterReset =
      { t with part := .active }.notify (t.readyNotice true) := by
    intro t ht
    unfold State.readyAfterReset
    cases e : t.part <;> simp [e, PartState.mounted] at ht <;> rfl
  have hzeros : beBytes 4 0 = zeros 4 := by decide
  unfold State.restartNotices
  simp only [State.issueControlBlock, State.issue_part, State.modWriter_part, h, if_true]
  rw [hready _ (by simpa [State.startStatistics_eq] using h), State.notify_room]
  · simp [State.startStatistics_eq, State.restartWrites, State.restartedWriter, hm, State.issue, Port.issue,
      State.modWriter, Writer.restart, State.statisticsEnd, State.entryWrite, State.publishWrite, State.readyNotice, State.entryAddr, hzeros]
  · simp [State.startStatistics_eq, Writer.restart, Writer.full]

/-- R192 in MOUNTING: no READY, and no statistics timer. -/
theorem State.restartNotices_mounting {s : State} (h : s.part = .mounting) : s.restartNotices = { s with
    port := { s.port with own := s.port.own ++ s.restartWrites }
    writer := s.restartedWriter } := by
  simp [State.restartNotices, State.readyAfterReset, State.issueControlBlock, h, PartState.mounted, State.restartWrites,
    State.restartedWriter, State.issue, Port.issue, State.modWriter, Writer.restart]

theorem State.restartNotices_eq {s : State} (h : s.part.running = true) : s.restartNotices = { s with
    part := if s.part = .mounting then .mounting else .active
    port := { s.port with own := s.port.own ++ s.restartWrites }
    writer := s.restartedWriter } := by
  by_cases hm : s.part = .mounting
  · rw [State.restartNotices_mounting hm, if_pos hm, ← hm]
  · rw [if_neg hm, State.restartNotices_mounted]
    cases e : s.part <;> simp_all [PartState.running, PartState.mounted]

/-! ### Held export reads (R14) -/

/-- R11, R12: an output after `n` blanks of reason IDLE. -/
def Output.idleBlanked (x : Output) (enabled : Bool) (n : Nat) : Output :=
  if n = 0 then x else
    { x with
      counters := if enabled then { x.counters with gate := min 4294967295 (x.counters.gate + n) } else x.counters
      delivery := { x.delivery with count := 0, lastBlank := some .idle } }

theorem Output.idleBlanked_idleBlanked (x : Output) (e : Bool) (m n : Nat) :
    (x.idleBlanked e m).idleBlanked e n = x.idleBlanked e (m + n) := by
  unfold Output.idleBlanked
  by_cases hm : m = 0
  · simp [hm]
  · by_cases hn : n = 0
    · simp [hn]
    · cases e <;> simp [hm, hn]
      omega

/-- The number of reads of a list that are bound to output `o`. -/
def State.readsOf (s : State) (us : List UpReq) (o : Fin 6) : Nat :=
  (us.filter (fun u => s.boundOutput u.req.tag = some o)).length

/-- R14: the answers to reads of a list that were held for pacing. -/
def State.idleAnswers (s : State) (us : List UpReq) : List Answer :=
  (us.filter (fun u => !u.lost && (s.boundOutput u.req.tag).isSome)).map
    (fun u => ⟨u.req, blanked (List.replicate u.req.len 0xFF)⟩)

/-- R14: the state after held reads were answered, one by one, for outputs that are IDLE. -/
def State.heldAnswered (s : State) (us : List UpReq) : State :=
  { s with
    outs := Vector.ofFn (fun o : Fin 6 => (s.outs[o]).idleBlanked (s.outCfg o).enabled (s.readsOf us o))
    path := { s.path with answers := s.path.answers ++ s.idleAnswers us } }

theorem State.heldAnswered_outs (s : State) (us : List UpReq) (o : Fin 6) :
    (s.heldAnswered us).outs[o] = (s.outs[o]).idleBlanked (s.outCfg o).enabled (s.readsOf us o) := by
  simp [State.heldAnswered]

theorem State.heldAnswered_nil (s : State) : s.heldAnswered [] = s := by
  have houts : Vector.ofFn (fun o : Fin 6 => (s.outs[o]).idleBlanked (s.outCfg o).enabled (s.readsOf [] o)) = s.outs := by
    ext o ho
    simp [State.readsOf, Output.idleBlanked]
  simp only [State.heldAnswered, houts, State.idleAnswers, List.filter_nil, List.map_nil, List.append_nil]

theorem State.heldAnswered_append (s : State) (us vs : List UpReq) :
    (s.heldAnswered us).heldAnswered vs = s.heldAnswered (us ++ vs) := by
  have houts : (fun o : Fin 6 => ((s.heldAnswered us).outs[o]).idleBlanked (s.outCfg o).enabled (s.readsOf vs o)) =
      fun o => (s.outs[o]).idleBlanked (s.outCfg o).enabled (s.readsOf (us ++ vs) o) := by
    funext o
    rw [State.heldAnswered_outs, Output.idleBlanked_idleBlanked]
    simp [State.readsOf]
  have hanswers : s.idleAnswers (us ++ vs) = s.idleAnswers us ++ s.idleAnswers vs := by
    simp [State.idleAnswers]
  calc (s.heldAnswered us).heldAnswered vs
      = { s with
          outs := Vector.ofFn (fun o : Fin 6 =>
            ((s.heldAnswered us).outs[o]).idleBlanked (s.outCfg o).enabled (s.readsOf vs o))
          path := { s.path with answers := (s.path.answers ++ s.idleAnswers us) ++ s.idleAnswers vs } } := rfl
    _ = s.heldAnswered (us ++ vs) := by rw [houts, List.append_assoc, ← hanswers]; rfl

theorem satInc_eq (n : Nat) : satInc n = min 4294967295 (n + 1) := by
  unfold satInc counterMax
  split <;> omega

/-- A change of an output that leaves it as it is. -/
theorem State.modOut_id {s : State} {o : Fin 6} {f : Output → Output} (h : f s.outs[o] = s.outs[o]) : s.modOut o f = s := by
  have houts : s.outs.set o s.outs[o] = s.outs := Vector.set_getElem_self o.isLt
  rw [State.modOut, h, houts]

/-- R11, R12: an IDLE output takes a blank of reason IDLE: it is counted, and nothing is handed over. -/
theorem State.idleBlank_outs {s : State} {o : Fin 6} (h : (s.outs[o]).tune = none) (u : UpReq) (d : List Byte) :
    (s.countBlank o .idle).answerRead o (.blank .idle) u d =
      (s.modOut o (fun x => x.idleBlanked (s.outCfg o).enabled 1)).answer u d := by
  have hcount : s.countBlank o .idle = s.modOut o (fun x =>
      { x with counters := if (s.outCfg o).enabled then x.counters.blank .idle else x.counters }) := by
    unfold State.countBlank State.count
    split
    · rfl
    · exact (State.modOut_id rfl).symm
  have hidle : ((s.countBlank o .idle).outs[o]).tune = none := by
    rw [hcount, State.modOut_same]
    exact h
  have htake := State.takeRead_blank_keeps (s := s.countBlank o .idle) (o := o) .idle
    (fun w hw => absurd (hidle.symm.trans hw) nofun)
  rw [State.answerRead, htake, hidle, hcount]
  refine congrArg (fun t : State => t.answer u d) ?_
  simp only [State.takenAs, List.foldl_nil, State.modOut_modOut]
  refine State.modOut_congr s o ?_
  simp only [Output.idleBlanked, OutputCounters.blank, satInc_eq, h, Delivery.blanked, State.modOut_same, one_ne_zero,
    if_false]

/-- The answer on the link, if there is one, is all that an answer changes. -/
theorem State.answer_eq (s : State) (u : UpReq) (d : List Byte) : s.answer u d = { s with
    path := { s.path with answers := s.path.answers ++ if u.lost then [] else [⟨u.req, d⟩] } } := by
  unfold State.answer
  split <;> simp

/-- R11, R12, R14: one held read is answered, the outputs being IDLE. -/
theorem State.answerHeld_eq {s : State} (h : ∀ o : Fin 6, (s.outs[o]).tune = none) (u : UpReq) :
    s.answerHeld u = s.heldAnswered [u] := by
  unfold State.answerHeld
  cases hb : s.boundOutput u.req.tag with
  | none =>
    have hreads : s.readsOf [u] = s.readsOf [] := by
      funext o
      simp [State.readsOf, hb]
    have hanswers : s.idleAnswers [u] = s.idleAnswers [] := by simp [State.idleAnswers, hb]
    dsimp only
    rw [State.heldAnswered, hreads, hanswers]
    exact (State.heldAnswered_nil s).symm
  | some o =>
    have hreads : ∀ x : Fin 6, s.readsOf [u] x = if o = x then 1 else 0 := by
      intro x
      by_cases e : o = x <;> simp [State.readsOf, hb, e]
    have hanswers : s.idleAnswers [u] = if u.lost then [] else [⟨u.req, blanked (List.replicate u.req.len 0xFF)⟩] := by
      cases hl : u.lost <;> simp [State.idleAnswers, hb, hl]
    have houts : (s.modOut o (fun x => x.idleBlanked (s.outCfg o).enabled 1)).outs = (s.heldAnswered [u]).outs := by
      ext x hx
      refine (State.modOut_get s o ⟨x, hx⟩ _).trans (Eq.trans ?_ (State.heldAnswered_outs s [u] ⟨x, hx⟩).symm)
      rw [hreads]
      by_cases e : o = ⟨x, hx⟩
      · subst e
        simp
      · simp [e, Output.idleBlanked]
    dsimp only
    rw [State.idleBlank_outs (h o), State.answer_eq, houts]
    simp only [State.modOut_path, State.heldAnswered, hanswers]
    rfl

theorem State.foldl_answerHeld (us : List UpReq) {s : State} (h : ∀ o : Fin 6, (s.outs[o]).tune = none) :
    us.foldl State.answerHeld s = s.heldAnswered us := by
  induction us generalizing s with
  | nil => exact (State.heldAnswered_nil s).symm
  | cons u us ih =>
    have hidle : ∀ o : Fin 6, ((s.heldAnswered [u]).outs[o]).tune = none := by
      intro o
      rw [State.heldAnswered_outs, Output.idleBlanked]
      split
      · exact h o
      · exact h o
    rw [List.foldl_cons, State.answerHeld_eq h, ih hidle, State.heldAnswered_append, List.singleton_append]

end Sys2Proof.Machine
end

section
/-! PROOFS. A link reset, as a whole, and the obligation about LINK_RESET (R14, R15, R19, R33, R34, R80, R192). -/

namespace Sys2Proof.Machine

/-! ### The state after a link reset -/

/-- R33, R34, R19, R80: the part after the steps of a link reset that come before the notices. -/
def State.linkCleared (s : State) (complete : Bool) : State :=
  { s with
    port := { s.port.withdraw with
      up := (List.finRange 256).flatMap s.lostWrites
      serving := (if s.fetchDetaches complete then none else s.port.serving).map Serving.afterReset }
    intake := ⟨Vector.replicate 256 false, [], [], 0, [], (s.detach complete).intake.proc⟩
    guide := { s.guide with retained := [], counters := GuideCounters.zero }
    ctxs := Vector.replicate 8 Context.free
    outs := s.outs.map (fun x => Output.emptied { x with counters := OutputCounters.zero })
    path := { s.path with leaving := [], rings := s.path.rings.map Ring.zero } }

theorem State.linkCleared_eq (s : State) (c : Bool) :
    (s.detach c).resetPort.dropLeaving.resetIntake.zeroCounters.clearPool = s.linkCleared c := by
  have houts : (s.outs.map (fun x : Output => { x with counters := OutputCounters.zero })).map Output.emptied =
      s.outs.map (fun x => Output.emptied { x with counters := OutputCounters.zero }) := by
    rw [Vector.map_map]
    rfl
  rw [State.clearPool_eq, State.resetIntake_eq, State.detach_eq, State.linkCleared, ← houts]
  rfl

/-- R192: the part with its notices started again and no read held for pacing. -/
def State.linkRestarted (s : State) (complete : Bool) : State :=
  { s.linkCleared complete with
    part := if s.part = .mounting then .mounting else .active
    port := { (s.linkCleared complete).port with own := s.port.withdraw.own ++ s.restartWrites }
    writer := s.restartedWriter
    path := { (s.linkCleared complete).path with paceHeld := [] } }

theorem State.linkRestarted_outs (s : State) (c : Bool) (o : Fin 6) : (s.linkRestarted c).outs[o] =
    Output.emptied { s.outs[o] with counters := OutputCounters.zero } := by
  simp [State.linkRestarted, State.linkCleared]

/-- A link reset, as one equation: the part cleared and its notices started again, then the held reads answered. -/
theorem State.linkReset_eq {s : State} (h : s.part.running = true) (c : Bool) :
    s.linkReset c = (s.linkRestarted c).heldAnswered s.path.paceHeld := by
  have hanswers : s.linkReset c = s.path.paceHeld.foldl State.answerHeld (s.linkRestarted c) := by
    rw [State.linkReset, State.linkCleared_eq, State.restartNotices_eq (s := s.linkCleared c) h]
    rfl
  rw [hanswers, State.foldl_answerHeld]
  intro o
  rw [State.linkRestarted_outs]
  rfl

theorem exec_linkReset_running {s : State} (hp : s.powerGood = true) (h : s.part.running = true) (c : Bool) :
    exec (.linkReset c) s = .next ((s.linkRestarted c).heldAnswered s.path.paceHeld).settle := by
  have hrun : exec (.linkReset c) s = done (s.linkReset c) := by
    have hexec : exec (.linkReset c) s = execLinkReset c s := rfl
    rw [hexec, execLinkReset]
    cases e : s.part <;> simp_all [PartState.running]
  rw [hrun, State.linkReset_eq h, done_eq]

/-! ### What it leaves at the port -/

/-- The port frees a fetch that completes; a link reset makes nothing of an upstream request in service. -/
theorem State.fetchDetaches_own {s : State} {c : Bool} (h : s.fetchDetaches c = true) :
    ∃ r : OwnReq, s.port.serving = some (.own r) := by
  obtain ⟨-, hf, n, hn⟩ := (s.fetchDetaches_iff c).mp h
  obtain ⟨f, hf⟩ := Option.ne_none_iff_exists'.mp hf
  exact (State.fetched_of_fetching hn hf).2

/-- R15, R33: the upstream request in service goes on without its link, and the released writes wait. -/
theorem State.linkRestarted_upAll (s : State) (c : Bool) : (s.linkRestarted c).port.upAll =
    (match s.port.serving with
      | some (.upstream u) => [{ u with lost := true }]
      | some (.own _) => []
      | none => []) ++ (List.finRange 256).flatMap s.lostWrites := by
  have hserving : (s.linkRestarted c).port.serving =
    (if s.fetchDetaches c then none else s.port.serving).map Serving.afterReset := rfl
  have hup : (s.linkRestarted c).port.up = (List.finRange 256).flatMap s.lostWrites := rfl
  rw [Port.upAll, hserving, hup]
  cases hs : s.port.serving with
  | none => simp
  | some x =>
    cases x with
    | upstream u =>
      have hd : s.fetchDetaches c = false := by
        by_contra hd
        obtain ⟨r, hr⟩ := State.fetchDetaches_own (Bool.not_eq_false _ ▸ hd)
        cases hs.symm.trans hr
      rw [hd]
      rfl
    | own r => cases s.fetchDetaches c <;> rfl

/-- R34, R192: the own request in service, void if the reset voids its kind, then those that the reset does not withdraw,
and its own writes. -/
theorem State.linkRestarted_ownAll (s : State) (c : Bool) : (s.linkRestarted c).port.ownAll =
    (match s.port.serving with
      | some (.own r) => if c = true ∧ s.fetched ≠ none ∧ (∃ n : Fin 256, s.intake.proc = some ⟨n, .fetching⟩)
          then [] else [{ r with void := r.void || r.what.ofRecord || r.what.ofNotices }]
      | some (.upstream _) => []
      | none => []) ++
    s.port.own.filter (fun r => !(r.what.ofRecord || r.what.ofNotices)) ++ s.restartWrites := by
  have hserving : (s.linkRestarted c).port.serving =
    (if s.fetchDetaches c then none else s.port.serving).map Serving.afterReset := rfl
  have hown : (s.linkRestarted c).port.own =
    s.port.own.filter (fun r => !(r.what.ofRecord || r.what.ofNotices)) ++ s.restartWrites := rfl
  rw [Port.ownAll, hserving, hown]
  simp only [← State.fetchDetaches_iff]
  cases hs : s.port.serving with
  | none => simp
  | some x =>
    cases x with
    | upstream u => cases s.fetchDetaches c <;> rfl
    | own r =>
      cases s.fetchDetaches c
      · simp [Serving.afterReset, OwnKind.resetVoids, Bool.or_assoc]
      · rfl

/-- R33: every upstream request has lost its link. -/
theorem State.linkRestarted_lost (s : State) (c : Bool) : ∀ u ∈ (s.linkRestarted c).port.upAll, u.lost = true := by
  rw [State.linkRestarted_upAll]
  intro u hu
  rcases List.mem_append.mp hu with hu | hu
  · split at hu
    · rw [List.mem_singleton.mp hu]
    · cases hu
    · cases hu
  · obtain ⟨n, -, hu⟩ := List.mem_flatMap.mp hu
    obtain ⟨h, -, rfl⟩ := List.mem_map.mp hu
    rfl

/-- R34: every own request that belongs to a record is void. -/
theorem State.linkRestarted_void (s : State) (c : Bool) :
    ∀ r ∈ (s.linkRestarted c).port.ownAll, r.what.ofRecord = true → r.void = true := by
  rw [State.linkRestarted_ownAll]
  intro r hr hrec
  rcases List.mem_append.mp hr with hr | hr
  · rcases List.mem_append.mp hr with hr | hr
    · split at hr
      · split at hr
        · cases hr
        · obtain rfl := List.mem_singleton.mp hr
          dsimp only at hrec
          simp [hrec]
      · cases hr
      · cases hr
    · have hkept := (List.mem_filter.mp hr).2
      simp [hrec] at hkept
  · have hnew : ∀ r ∈ s.restartWrites, r.what.ofRecord = false := by
      intro r hr
      rcases List.mem_append.mp hr with hr | hr
      · rw [List.mem_singleton.mp hr]
        rfl
      · split at hr
        · cases hr
        · rcases List.mem_cons.mp hr with rfl | hr
          · rfl
          · rw [List.mem_singleton.mp hr]
            rfl
    rw [hnew r hr] at hrec
    cases hrec

/-! ### What it leaves of an output -/

/-- R14, R19, R80: an output after the whole of a link reset. -/
theorem State.linkReset_output (s : State) (c : Bool) (o : Fin 6) :
    ((s.linkRestarted c).heldAnswered s.path.paceHeld).outs[o] =
      (Output.emptied { s.outs[o] with counters := OutputCounters.zero }).idleBlanked (s.outCfg o).enabled
        (s.readsOf s.path.paceHeld o) := by
  rw [State.heldAnswered_outs, State.linkRestarted_outs]
  rfl

/-- R14: the blanks of a held read touch the counters and the delivery record alone. -/
theorem Output.idleBlanked_fields (x : Output) (e : Bool) (n : Nat) : x.idleBlanked e n =
    { x with counters := (x.idleBlanked e n).counters, delivery := (x.idleBlanked e n).delivery } := by
  unfold Output.idleBlanked
  split <;> rfl

theorem Output.idleBlanked_counters (x : Output) (e : Bool) (n : Nat) (h : x.counters = OutputCounters.zero) :
    (x.idleBlanked e n).counters = if e then ⟨0, 0, min 4294967295 n, 0, 0, 0⟩ else ⟨0, 0, 0, 0, 0, 0⟩ := by
  unfold Output.idleBlanked
  split
  · next hn => cases e <;> simp [h, hn, OutputCounters.zero]
  · cases e <;> simp [h, OutputCounters.zero]

theorem Output.idleBlanked_delivery (x : Output) (e : Bool) (n : Nat) : (x.idleBlanked e n).delivery =
    if n = 0 then x.delivery else { x.delivery with count := 0, lastBlank := some .idle } := by
  unfold Output.idleBlanked
  split <;> rfl

/-! ### What it leaves alone -/

theorem State.linkReset_frame {s : State} (h : s.part.running = true) (c : Bool) :
    Frame [.power, .path, .upstream, .own, .intake, .guide, .contexts, .outputs, .writer] s
      ((s.linkRestarted c).heldAnswered s.path.paceHeld) := by
  refine ⟨?_, ?_⟩
  · simp [onlyChanges, Area.forall_iff, Area.same, State.heldAnswered, State.linkRestarted, State.linkCleared]
  · have hmounted : (if s.part = .mounting then PartState.mounting else .active).mounted = s.part.mounted := by
      cases e : s.part <;> simp_all [PartState.running, PartState.mounted]
    simp [State.flashFree, State.heldAnswered, State.linkRestarted, State.linkCleared, hmounted]

/-- R185, R192: the statistics timer after a link reset. -/
theorem State.restartedWriter_statsEnd (s : State) : s.restartedWriter.statsEnd =
    if s.part = .mounting ∨ s.cfg.statPeriod = 0 then s.writer.statsEnd
    else some (s.ticks.now + s.cfg.statPeriod * 1000) := by
  by_cases hm : s.part = .mounting <;> simp [State.restartedWriter, State.statisticsEnd, hm]

/-! ### LINK_RESET -/

theorem State.settle_port_serves (s : State) : ∃ w : Bool, s.settle.port = s.port.serve w :=
  ⟨s.driveLamps.chooseFlash.fetchWaits, by rw [State.settle, State.serveDram, (State.chooseFlash_only s.driveLamps).port]; rfl⟩

/-- R15: the arbiter adds nothing to the upstream FIFO. -/
theorem Port.serve_up_nil {p : Port} (h : p.up = []) (w : Bool) : (p.serve w).up = [] := by
  unfold Port.serve
  split
  · exact h
  · split <;> simp_all

/-- R15: after the upstream FIFO was emptied, the request that is left at the port has lost its link. -/
theorem Port.dropUpstream_lost (p : Port) : ∀ u ∈ p.dropUpstream.upAll, u.lost = true := by
  obtain ⟨up, own, pass, serving⟩ := p
  rcases serving with _ | (v | r) <;> simp [Port.dropUpstream, Port.upAll, Serving.afterReset]

/-- R15, R18: a link reset in FAULT. -/
theorem linkReset_fault {s : State} (hp : s.powerGood = true) (hf : s.part = .fault) (c : Bool) :
    ∃ t : State, exec (.linkReset c) s = .next t ∧ t.port.up = [] ∧ (∀ u ∈ t.port.upAll, u.lost = true) ∧
      onlyChanges [.upstream, .own] s t := by
  have hexec : exec (.linkReset c) s = done { s with port := s.port.dropUpstream } := by
    have hexec : exec (.linkReset c) s = execLinkReset c s := rfl
    simp [hexec, execLinkReset, hp, hf]
  have hframe : Frame [.upstream, .own] s { s with port := s.port.dropUpstream } :=
    ⟨by simp [onlyChanges, Area.forall_iff, Area.same], rfl⟩
  refine ⟨_, hexec.trans (done_eq _), ?_, ?_, hframe.settle⟩
  · obtain ⟨w, hw⟩ := State.settle_port_serves { s with port := s.port.dropUpstream }
    rw [hw]
    exact Port.serve_up_nil rfl w
  · rw [State.settle_upAll]
    exact s.port.dropUpstream_lost

/-- Settles O6: in START by the model's case, in FAULT by the emptied FIFO, and else clause by clause from the one equation
of the state after a link reset, `exec_linkReset_running`. -/
theorem linkResetClearsLinkState : Obligations.LinkResetClearsLinkState := by
  unfold Obligations.LinkResetClearsLinkState
  intro s c hp
  refine ⟨?_, fun hf => linkReset_fault hp hf c, ?_⟩
  · intro hstart
    have hexec : exec (.linkReset c) s = execLinkReset c s := rfl
    simp [hexec, execLinkReset, hp, hstart]
  · intro hrun
    refine ⟨_, exec_linkReset_running hp hrun c, ?_⟩
    have hsame (o : Fin 6) := State.linkReset_output s c o
    have hfields (o : Fin 6) := (hsame o).trans (Output.idleBlanked_fields _ _ _)
    refine ⟨?part, ?taken, ?urgent, ?bulk, ?streak, ?held, ?lost, ?void, ?outs, ?reads, ?answers, ?noProc, ?detached,
      ?decided, ?fetching, ?up, ?own, ?statsEnd, ?copy, ?ctxs, ?guide, ?rings, ?paceHeld, ?leaving, ?writeIdx, ?pubIdx,
      ?consIdx, ?overrun, ?dropped, ?line, ?delay, ?deferred, (State.linkReset_frame hrun c).settle⟩ <;>
    simp only [State.settle_part, State.settle_intake, State.settle_upAll, State.settle_ownAll, State.settle_outs,
      State.settle_path, State.settle_writer, State.settle_ctxs, State.settle_guide]
    case part => rfl
    case urgent | bulk | streak | held | guide | paceHeld | leaving => rfl
    case writeIdx | pubIdx | consIdx | overrun | dropped | line | delay | deferred | copy => rfl
    case lost => exact State.linkRestarted_lost s c
    case void => exact State.linkRestarted_void s c
    case taken =>
      intro n
      exact Vector.getElem_replicate n.isLt
    case outs =>
      intro o
      rw [hfields o]
      exact ⟨rfl, rfl, rfl, rfl, rfl, rfl⟩
    case reads =>
      rintro o n rfl
      refine ⟨?_, ?_, ?_⟩
      · rw [hsame o, Output.idleBlanked_counters _ _ _ rfl]
        rfl
      · rw [hfields o]
        rfl
      · rw [hsame o, Output.idleBlanked_delivery]
        rfl
    case answers => rfl
    case noProc =>
      intro h
      exact (congrArg (fun t : State => t.intake.proc) (State.detach_none h c)).trans h
    case detached =>
      intro n b h
      exact (congrArg (fun t : State => t.intake.proc) (State.detach_detached h c)).trans h
    case decided =>
      intro n h
      exact congrArg (fun t : State => t.intake.proc) (State.detach_decided h c)
    case fetching =>
      intro n h
      refine ⟨?_, fun hc => congrArg (fun t : State => t.intake.proc) (State.detach_abandons h hc)⟩
      rintro rfl hf
      exact congrArg (fun t : State => t.intake.proc) (State.detach_completes h hf)
    case up => exact State.linkRestarted_upAll s c
    case own => exact (State.linkRestarted_ownAll s c).trans (List.append_assoc _ _ _).symm
    case statsEnd => exact s.restartedWriter_statsEnd
    case ctxs =>
      intro x
      exact Vector.getElem_replicate x.isLt
    case rings =>
      intro k
      exact Vector.getElem_map _ k.isLt

end Sys2Proof.Machine
end

section
/-! PROOFS. What R25 speaks of: the slots that are TAKEN, the queues, the record in processing, and the outcome writes
that wait. Each operation that leaves all of it alone is shown once to do so. -/

namespace Sys2Proof.Machine

/-! ### The slot book (R25) -/

/-- The slot of the record whose processing the completion of an own request ends (R32), if it ends one. -/
def OwnReq.endsSlot (r : OwnReq) : Option (Fin 256) :=
  match r.what with
  | .outcome n => if r.void then none else some n
  | .fetch _ | .entry | .overrun | .publish _ | .controlBlock | .scrub _ | .title _ | .crc _ => none

/-- The slots whose outcome writes wait at the DRAM port or occupy it. -/
def Port.ending (p : Port) : List (Fin 256) := p.ownAll.filterMap OwnReq.endsSlot

/-- Intake but for the held writes, with the slots whose outcome writes are under way: all that R25 reads. -/
def State.slots (s : State) : Intake × List (Fin 256) := ({ s.intake with held := [] }, s.port.ending)

/-- R25, of Intake alone: the TAKEN slots are those of the queues and the attached record in processing, each once. -/
def Intake.TakenOk (i : Intake) : Prop :=
  i.accounted.Nodup ∧ ∀ n : Fin 256, i.taken[n] = true ↔ n ∈ i.accounted

/-- R25, on the slot book. -/
def SlotsOk (b : Intake × List (Fin 256)) : Prop :=
  b.1.TakenOk ∧ (∀ n ∈ b.2, b.1.proc = some ⟨n, .decided⟩) ∧ b.2.length ≤ 1

theorem OwnReq.ends_iff (r : OwnReq) (n : Fin 256) : r.ends n ↔ r.endsSlot = some n := by
  obtain ⟨what, addr, data, void⟩ := r
  cases what <;> cases void <;> simp [OwnReq.ends, OwnReq.endsSlot]

theorem OwnReq.endsSlot_eq_none_of_kind {r : OwnReq} (h : ∀ n : Fin 256, r.what ≠ .outcome n) : r.endsSlot = none := by
  unfold OwnReq.endsSlot
  split
  · next n hn => exact absurd hn (h n)
  all_goals rfl

theorem OwnReq.endsSlot_eq_none_of_void {r : OwnReq} (h : r.void = true) : r.endsSlot = none := by
  unfold OwnReq.endsSlot
  split <;> simp [h]

theorem OwnReq.endsSlot_of_notices {r : OwnReq} (h : r.what.ofNotices = true) : r.endsSlot = none :=
  OwnReq.endsSlot_eq_none_of_kind fun n hn => by simp [hn, OwnKind.ofNotices] at h

/-- Requests that end no processing add nothing to the slots whose outcome writes are under way. -/
theorem filterMap_endsSlot_eq_nil {rs : List OwnReq} (h : ∀ r ∈ rs, r.endsSlot = none) :
    rs.filterMap OwnReq.endsSlot = [] := List.filterMap_eq_nil_iff.mpr h

/-- At most one of a list of requests ends the processing of a record exactly if no two of them do. -/
theorem pairwise_ends_iff (rs : List OwnReq) :
    rs.Pairwise (fun r x => ∀ n m : Fin 256, r.ends n → ¬ x.ends m) ↔ (rs.filterMap OwnReq.endsSlot).length ≤ 1 := by
  induction rs with
  | nil => simp
  | cons r rs ih =>
    rw [List.pairwise_cons, ih]
    simp only [OwnReq.ends_iff]
    cases hr : r.endsSlot with
    | none => simp [hr]
    | some n =>
      have hnone : (∀ x ∈ rs, ∀ m : Fin 256, x.endsSlot ≠ some m) ↔ rs.filterMap OwnReq.endsSlot = [] := by
        simp [List.filterMap_eq_nil_iff, Option.eq_none_iff_forall_ne_some]
      constructor
      · rintro ⟨h, -⟩
        rw [List.filterMap_cons_some hr, hnone.mp fun x hx m => h x hx n m rfl]
        simp
      · intro h
        rw [List.filterMap_cons_some hr, List.length_cons] at h
        have hnil := List.eq_nil_of_length_eq_zero (Nat.le_zero.mp (Nat.le_of_succ_le_succ h))
        exact ⟨fun x hx _ m _ => hnone.mpr hnil x hx m, by simp [hnil]⟩

/-- R25 is a statement about the slot book. -/
theorem intakeOk_iff (s : State) : IntakeOk s ↔ SlotsOk s.slots := by
  have hends : (∀ (r : OwnReq) (n : Fin 256), r ∈ s.port.ownAll → r.ends n → s.intake.proc = some ⟨n, .decided⟩) ↔
      ∀ n ∈ s.port.ending, s.intake.proc = some ⟨n, .decided⟩ := by
    simp only [Port.ending, List.mem_filterMap, OwnReq.ends_iff]
    exact ⟨fun h n ⟨r, hr, hn⟩ => h r n hr hn, fun h r n hr hn => h n ⟨r, hr, hn⟩⟩
  exact and_assoc.symm.trans (and_congr_right fun _ => and_congr hends (pairwise_ends_iff _))

/-! ### Operations at the DRAM port -/

theorem Port.ending_appendOwn (p : Port) (rs : List OwnReq) :
    Port.ending { p with own := p.own ++ rs } = p.ending ++ rs.filterMap OwnReq.endsSlot := by
  simp [Port.ending]

theorem State.slots_eq_of_port {s t : State} (hi : t.intake = s.intake) (hp : t.port.ownAll = s.port.ownAll) :
    t.slots = s.slots := by
  simp [State.slots, Port.ending, hi, hp]

/-- An operation whose frame leaves Intake and the own requests alone. -/
theorem Frame.slots {as : List Area} {s t : State} (h : Frame as s t) (hi : Area.intake ∉ as) (ho : Area.own ∉ as) :
    t.slots = s.slots := State.slots_eq_of_port (h.only .intake hi) (h.only .own ho)

/-- Own requests that end no processing, issued with Intake as it was. -/
theorem State.slots_eq_of_issued {s t : State} {rs : List OwnReq} (hi : t.intake = s.intake)
    (hp : t.port = { s.port with own := s.port.own ++ rs }) (hr : ∀ r ∈ rs, r.endsSlot = none) : t.slots = s.slots := by
  simp [State.slots, hi, hp, Port.ending_appendOwn, filterMap_endsSlot_eq_nil hr]

theorem GateWork.slots {s t : State} (h : GateWork s t) : t.slots = s.slots := by
  obtain ⟨rs, hp, hr⟩ := h.port
  exact State.slots_eq_of_issued h.intake hp fun r hm => OwnReq.endsSlot_of_notices (hr r hm)

theorem VerdictWork.slots {s t : State} (h : VerdictWork s t) : t.slots = s.slots :=
  State.slots_eq_of_port h.intake (by rw [h.port])

/-- An operation done for each of a list leaves the slot book alone if each one does. -/
theorem State.foldl_slots {α : Type} {f : State → α → State} (h : ∀ s a, (f s a).slots = s.slots) (l : List α)
    (s : State) : (l.foldl f s).slots = s.slots := by
  induction l generalizing s with
  | nil => rfl
  | cons a l ih => exact (ih (f s a)).trans (h s a)

section SlotsOfUpdates

variable (s : State)

theorem State.withPart_slots (p : PartState) : ({ s with part := p } : State).slots = s.slots := rfl
theorem State.withAccess_slots (a : AccessUnit) : ({ s with access := a } : State).slots = s.slots := rfl
@[simp] theorem State.modOut_slots (o : Fin 6) (f : Output → Output) : (s.modOut o f).slots = s.slots := rfl
@[simp] theorem State.modCtx_slots (c : Fin 8) (f : Context → Context) : (s.modCtx c f).slots = s.slots := rfl
@[simp] theorem State.modProfile_slots (q : Fin 6) (f : Profile → Profile) : (s.modProfile q f).slots = s.slots := rfl
@[simp] theorem State.modRing_slots (k : Fin 4) (f : Ring → Ring) : (s.modRing k f).slots = s.slots := rfl
@[simp] theorem State.modPurse_slots (f : Purse → Purse) : (s.modPurse f).slots = s.slots := rfl
@[simp] theorem State.modGuide_slots (f : Guide → Guide) : (s.modGuide f).slots = s.slots := rfl
@[simp] theorem State.modGuideCounters_slots (f : GuideCounters → GuideCounters) :
    (s.modGuideCounters f).slots = s.slots := rfl
@[simp] theorem State.modWriter_slots (f : Writer → Writer) : (s.modWriter f).slots = s.slots := rfl
@[simp] theorem State.modRights_slots (f : Rights → Rights) : (s.modRights f).slots = s.slots := rfl
@[simp] theorem State.setHalf_slots (l : HalfPlace) (h : Option Half) : (s.setHalf l h).slots = s.slots := rfl
@[simp] theorem State.dropOffer_slots (o : Fin 6) : (s.dropOffer o).slots = s.slots := rfl
@[simp] theorem State.gateIdle_slots (o : Fin 6) : (s.gateIdle o).slots = s.slots := rfl
@[simp] theorem State.clearUnlocks_slots (o : Fin 6) : (s.clearUnlocks o).slots = s.slots := rfl
@[simp] theorem State.setUp_slots (c : Fin 8) (l : Life) (ms : List (Fin 6)) : (s.setUp c l ms).slots = s.slots := rfl
@[simp] theorem State.markChange_slots : s.markChange.slots = s.slots := rfl
@[simp] theorem State.markMetering_slots : s.markMetering.slots = s.slots := rfl
@[simp] theorem State.dramWrite_slots (a : Nat) (bs : List Byte) : (s.dramWrite a bs).slots = s.slots := rfl
@[simp] theorem State.present_slots (u : UpReq) : (s.present u).slots = s.slots := rfl
@[simp] theorem State.countMalformed_slots : s.countMalformed.slots = s.slots := rfl

@[simp] theorem State.count_slots (o : Fin 6) (f : OutputCounters → OutputCounters) : (s.count o f).slots = s.slots :=
  (s.count_frame o f).slots (by decide) (by decide)

@[simp] theorem State.answer_slots (u : UpReq) (d : List Byte) : (s.answer u d).slots = s.slots :=
  (s.answer_frame u d).slots (by decide) (by decide)

@[simp] theorem State.notify_slots (n : Notice) : (s.notify n).slots = s.slots := (s.notify_work n).slots

@[simp] theorem State.settle_slots : s.settle.slots = s.slots :=
  State.slots_eq_of_port s.settle_intake s.settle_ownAll

@[simp] theorem State.evaluate_slots (c : GateCause) (d : Bool) (o : Fin 6) : (s.evaluate c d o).slots = s.slots :=
  (s.evaluate_work c d o).slots

@[simp] theorem State.evaluateAll_slots (c : GateCause) (d : Bool) (os : List (Fin 6)) :
    (s.evaluateAll c d os).slots = s.slots := (s.evaluateAll_work c d os).slots

@[simp] theorem State.evaluateChanged_slots (before : State) (d : Bool) (pick : Fin 8 → Bool) :
    (s.evaluateChanged before d pick).slots = s.slots := (s.evaluateChanged_work before d pick).slots

@[simp] theorem State.evaluateTuned_slots (c : GateCause) (o : Fin 6) : (s.evaluateTuned c o).slots = s.slots :=
  (s.evaluateTuned_work c o).slots

@[simp] theorem State.evaluateIfGoverningChanged_slots (m : Option (HalfParity × Nat)) (c : Fin 8) :
    (s.evaluateIfGoverningChanged m c).slots = s.slots := (s.evaluateIfGoverningChanged_work m c).slots

@[simp] theorem State.deferredNotices_slots : s.deferredNotices.slots = s.slots := s.deferredNotices_work.slots

@[simp] theorem State.recompute_slots (ls : List HalfPlace) : (s.recompute ls).slots = s.slots :=
  (s.recompute_work ls).slots

@[simp] theorem State.recomputeAndEvaluate_slots (d : Bool) : (s.recomputeAndEvaluate d).slots = s.slots := by
  simp [State.recomputeAndEvaluate]

/-- R15: the control-block write ends no processing. -/
@[simp] theorem State.issueControlBlock_slots : s.issueControlBlock.slots = s.slots :=
  State.slots_eq_of_issued rfl rfl (rs := [⟨.controlBlock, s.cfg.repBase, zeros 64, false⟩]) (by simp [OwnReq.endsSlot])

/-- R26, R27: a slot fetch ends no processing. -/
@[simp] theorem State.issue_fetch_slots (n : Fin 256) : (s.issue (s.fetchRead n)).slots = s.slots :=
  State.slots_eq_of_issued rfl rfl (rs := [s.fetchRead n]) (by simp [State.fetchRead, OwnReq.endsSlot])

end SlotsOfUpdates

/-! ### Completions at the DRAM port -/

/-- An upstream request that leaves the port is in no slot's account. -/
theorem State.freePort_slots_up {s : State} {u : UpReq} (h : s.servingUp = some u) : s.freePort.slots = s.slots :=
  (State.freePort_frame_up h).slots (by decide) (by decide)

/-- The slots whose outcome writes are under way, by the request in service and the own FIFO. -/
theorem State.ending_of_servingOwn {s : State} {r : OwnReq} (h : s.servingOwn = some r) :
    s.port.ending = r.endsSlot.toList ++ s.freePort.port.ending := by
  have hall : s.port.ownAll = r :: s.port.own := by simp [Port.ownAll, State.servingOwn_eq h]
  have hfree : s.freePort.port.ownAll = s.port.own := rfl
  rw [Port.ending, Port.ending, hall, hfree]
  cases hr : r.endsSlot <;> simp [hr]

/-- An own request that ends no processing leaves the port. -/
theorem State.freePort_slots_own {s : State} {r : OwnReq} (h : s.servingOwn = some r) (hr : r.endsSlot = none) :
    s.freePort.slots = s.slots := by
  simp [State.slots, State.ending_of_servingOwn h, hr]

theorem State.completeWrite_slots {s : State} {u : UpReq} (h : s.servingUp = some u) :
    (s.completeWrite u).slots = s.slots := by
  simp [State.completeWrite, State.freePort_slots_up h]

theorem State.completeOwn_slots {s : State} {r : OwnReq} (h : s.servingOwn = some r) (hr : r.endsSlot = none) :
    (s.completeOwn r).slots = s.slots := by
  simp [State.completeOwn, State.freePort_slots_own h hr]

end Sys2Proof.Machine
end

section
/-! PROOFS. The effects of the Context Pool, the Key Store and the Path Unit leave the slot book alone (R25). -/

namespace Sys2Proof.Machine

/-! ### The Context Pool -/

section SlotsOfPool

variable (s : State)

@[simp] theorem State.freeContext_slots (c : Fin 8) : (s.freeContext c).slots = s.slots := by
  unfold State.freeContext
  split
  · rfl
  · dsimp only
    split <;> rfl

theorem State.takeContext_slots {r : State × Fin 8 × Means} (h : s.takeContext = some r) : r.1.slots = s.slots := by
  unfold State.takeContext at h
  split at h
  · cases h
    rfl
  · split at h <;> cases h
    simp

theorem State.obtainView_slots {o : Fin 6} {e : MapEntry} {w : Fin 4} {r : State × Fin 8 × Means}
    (h : s.obtainView o e w = some r) : r.1.slots = s.slots := by
  unfold State.obtainView at h
  split at h
  · cases h
    rfl
  · obtain ⟨x, hx, rfl⟩ := Option.map_eq_some_iff.mp h
    simpa using s.takeContext_slots hx

theorem State.obtainStage_slots {e : MapEntry} {w : Fin 4} {r : State × Fin 8 × Means}
    (h : s.obtainStage e w = some r) : r.1.slots = s.slots := by
  unfold State.obtainStage at h
  split at h
  · cases h
    rfl
  · obtain ⟨x, hx, rfl⟩ := Option.map_eq_some_iff.mp h
    simpa using s.takeContext_slots hx

@[simp] theorem State.enterSeeking_slots (o : Fin 6) (svc : Nat) (w : Fin 4) (c : Fin 8) :
    (s.enterSeeking o svc w c).slots = s.slots := by
  simp [State.enterSeeking]

@[simp] theorem State.stall_slots (o : Fin 6) (t : Tuned) : (s.stall o t).slots = s.slots := by
  simp [State.stall]

@[simp] theorem State.tuneDelivery_slots (o : Fin 6) : (s.tuneDelivery o).slots = s.slots := by
  unfold State.tuneDelivery
  split
  · rfl
  · dsimp only
    split
    · simp
    · rfl
    · split <;> simp

@[simp] theorem State.tuneBlank_slots (o : Fin 6) : (s.tuneBlank o).slots = s.slots := by
  unfold State.tuneBlank
  split
  · split <;> simp
  · rfl

@[simp] theorem State.takeRead_slots (o : Fin 6) (e : ReadEvent) : (s.takeRead o e).slots = s.slots := by
  cases e <;> simp [State.takeRead]

@[simp] theorem State.moveToIdle_slots (o : Fin 6) : (s.moveToIdle o).slots = s.slots := by
  unfold State.moveToIdle
  split <;> rfl

@[simp] theorem State.clearPool_slots : s.clearPool.slots = s.slots := by
  have houts (l : List (Fin 6)) :
      (l.foldl (fun s o => ((s.moveToIdle o).gateIdle o).clearUnlocks o) s).slots = s.slots :=
    State.foldl_slots (fun s o => by simp) l s
  simp only [State.clearPool, State.modGuide_slots]
  exact (State.foldl_slots State.freeContext_slots _ _).trans (houts allOutputs)

@[simp] theorem State.leaveOld_slots (o : Fin 6) (old : Option Tuned) : (s.leaveOld o old).slots = s.slots := by
  cases old <;> rfl

theorem State.applyView_slots (o : Fin 6) (e : MapEntry) (w : Fin 4) : (s.applyView o e w).1.slots = s.slots := by
  unfold State.applyView
  split
  · rfl
  · split
    · rfl
    · next h => simpa using s.obtainView_slots h

theorem State.tuneView_slots (op : TuneOp) : (s.tuneView op).1.slots = s.slots := by
  unfold State.tuneView
  split
  · rfl
  · split
    · rfl
    · exact s.applyView_slots _ _ _

theorem State.tuneStage_slots (op : TuneOp) : (s.tuneStage op).1.slots = s.slots := by
  unfold State.tuneStage
  split
  · rfl
  · split
    · rfl
    · next h => exact s.obtainStage_slots h

theorem State.release_slots (n : Nat) : (s.release n).1.slots = s.slots := by
  unfold State.release
  split
  · rfl
  · split <;> simp

end SlotsOfPool

/-! ### The Key Store -/

section SlotsOfKeys

variable (s : State)

@[simp] theorem State.countCorrected_slots (c : Fin 8) : (s.countCorrected c).slots = s.slots := by
  unfold State.countCorrected
  split <;> rfl

@[simp] theorem State.discardHalf_slots (c : Fin 8) (p : HalfParity) : (s.discardHalf c p).slots = s.slots := by
  simp [State.discardHalf]

@[simp] theorem State.keyFault_slots (c : Fin 8) (p : HalfParity) (compare : Bool) :
    (s.keyFault c p compare).slots = s.slots := by
  simp [State.keyFault]

@[simp] theorem State.eccCheck_slots (c : Fin 8) (p : HalfParity) (compare : Bool) (f : EccFinding) :
    (s.eccCheck c p compare f).1.slots = s.slots := by
  cases f <;> simp [State.eccCheck]

@[simp] theorem State.flipParity_slots (c : Fin 8) (p : HalfParity) : (s.flipParity c p).slots = s.slots := by
  simp [State.flipParity]

theorem State.compareBlocks_slots (c : Fin 8) (bs : List KeyBlock) (fs : List EccFinding) :
    (s.compareBlocks c bs fs).1.slots = s.slots := by
  induction bs generalizing s fs with
  | nil => rfl
  | cons b bs ih =>
    unfold State.compareBlocks
    split
    · rfl
    · split
      · rfl
      · dsimp only
        split <;> simp [ih]

@[simp] theorem State.refreshHalf_slots (c : Fin 8) (b : KeyBlock) : (s.refreshHalf c b).slots = s.slots := by
  unfold State.refreshHalf
  split <;> rfl

@[simp] theorem State.loadHalf_slots (c : Fin 8) (b : KeyBlock) (k : BitVec 128) :
    (s.loadHalf c b k).slots = s.slots := by
  unfold State.loadHalf
  split <;> rfl

@[simp] theorem State.loadHalves_slots (c : Fin 8) (bs : List KeyBlock) (ks : List (BitVec 128)) :
    (s.loadHalves c bs ks).slots = s.slots := by
  induction bs generalizing s ks with
  | nil => rfl
  | cons b bs ih => simp [State.loadHalves, ih]

theorem State.keyRefresh_slots (c : Fin 8) (bs : List KeyBlock) (fs : List EccFinding) :
    (s.keyRefresh c bs fs).1.slots = s.slots := by
  have hcompare := s.compareBlocks_slots c bs fs
  unfold State.keyRefresh
  split
  · next h =>
    rw [h] at hcompare
    exact (State.foldl_slots (fun s b => s.refreshHalf_slots c b) bs _).trans hcompare
  · next h =>
    rw [h] at hcompare
    exact hcompare

theorem State.keyLoad_slots (c : Fin 8) (epoch : Nat) (bs : List KeyBlock) (ks : List (BitVec 128)) :
    (s.keyLoad c epoch bs ks).1.slots = s.slots := by
  simp [State.keyLoad]

theorem State.keyRecord_slots (u : KeyUnwrap) (r : Record) : (s.keyRecord u r).1.slots = s.slots := by
  unfold State.keyRecord
  split
  · rfl
  · split
    · rfl
    · split
      · exact s.keyLoad_slots _ _ _ _
      · exact s.keyRefresh_slots _ _ _
      · rfl

end SlotsOfKeys

/-! ### The Path Unit -/

section SlotsOfPath

variable (s : State)

theorem State.arrive_slots (r : Request) : (s.arrive r).slots = s.slots := by
  unfold State.arrive State.presentOrHold
  split <;> rfl

theorem State.upstream_slots (r : Request) : (s.upstream r).slots = s.slots := by
  unfold State.upstream
  split
  · rfl
  · rfl
  all_goals exact s.arrive_slots r

@[simp] theorem State.arrival_slots (k : Fin 4) (good : Bool) : (s.arrival k good).slots = s.slots := by
  unfold State.arrival State.noteRing
  split <;> simp

@[simp] theorem State.fallSilent_slots (k : Fin 4) : (s.fallSilent k).slots = s.slots := by
  simp [State.fallSilent]

@[simp] theorem State.countDelivery_slots (o : Fin 6) (clear : Bool) : (s.countDelivery o clear).slots = s.slots := by
  simp [State.countDelivery]

@[simp] theorem State.readBlank_slots (x : Reading) (r : BlankReason) : (s.readBlank x r).state.slots = s.slots :=
  s.count_slots _ _

@[simp] theorem State.readClear_slots (x : Reading) : (s.readClear x).state.slots = s.slots :=
  s.countDelivery_slots _ _

theorem State.readScrambled_slots (x : Reading) (c : Fin 8) (p : HalfParity) (ecc : EccFinding) :
    (s.readScrambled x c p ecc).state.slots = s.slots := by
  have hcheck := s.eccCheck_slots c p false ecc
  unfold State.readScrambled
  split
  · simp
  · split
    · next h =>
      rw [h] at hcheck
      simpa using hcheck
    · next h =>
      rw [h] at hcheck
      simpa using hcheck

theorem State.readListed_slots (x : Reading) (c : Fin 8) (pp : PacketParity) (ecc : EccFinding) :
    (s.readListed x c pp ecc).state.slots = s.slots := by
  unfold State.readListed
  split
  · simp
  · split
    · simp
    · simp
    · exact s.readScrambled_slots _ _ _ _

theorem State.flipIfNew_slots (c : Fin 8) (pp : PacketParity) : (s.flipIfNew c pp).slots = s.slots := by
  unfold State.flipIfNew
  split
  · rfl
  · rfl
  · split <;> simp

theorem State.readForeign_slots (x : Reading) (pp : PacketParity) : (s.readForeign x pp).state.slots = s.slots := by
  unfold State.readForeign
  split
  · simp
  all_goals split <;> simp

theorem State.cellProcedure_slots (x : Reading) (ecc : EccFinding) : (s.cellProcedure x ecc).state.slots = s.slots := by
  unfold State.cellProcedure
  dsimp only
  split
  · simp
  · split
    · simp
    · split
      · exact s.readForeign_slots _ _
      · split
        · simp
        · exact (State.readListed_slots _ _ _ _ _).trans (s.flipIfNew_slots _ _)

@[simp] theorem State.holdRead_slots (u : UpReq) : (s.holdRead u).slots = s.slots := by
  unfold State.holdRead
  split <;> rfl

@[simp] theorem State.answerRead_slots (o : Fin 6) (e : ReadEvent) (u : UpReq) (d : List Byte) :
    (s.answerRead o e u d).slots = s.slots := by
  simp [State.answerRead]

theorem State.cellRead_slots {u : UpReq} (h : s.servingUp = some u) (o : Fin 6) (ecc : EccFinding) (atOnce : Bool) :
    (s.cellRead u o ecc atOnce).slots = s.slots := by
  rw [← State.freePort_slots_up h]
  unfold State.cellRead
  dsimp only
  split
  · simp [State.partialRead]
  · split
    · simp
    · split
      · simpa using State.cellProcedure_slots _ _ _
      · exact State.cellProcedure_slots _ _ _

theorem State.passComplete_slots {u : UpReq} (h : s.servingUp = some u) : (s.passComplete u).slots = s.slots := by
  unfold State.passComplete
  split
  · exact State.completeWrite_slots h
  · simp [State.freePort_slots_up h]

end SlotsOfPath

end Sys2Proof.Machine
end

section
/-! PROOFS. The effects of Guide Tables, the Profile Table, the Purse and Journal, the settings store, the Access Unit,
the Rights Table, the Notice Writer and the POWER records leave the slot book alone (R25). -/

namespace Sys2Proof.Machine

/-! ### Guide Tables -/

section SlotsOfGuide

variable (s : State)

@[simp] theorem State.retarget_slots : s.retarget.slots = s.slots := by
  unfold State.retarget
  split <;> rfl

@[simp] theorem State.recheckTarget_slots : s.recheckTarget.slots = s.slots := by
  unfold State.recheckTarget
  split <;> rfl

@[simp] theorem State.followCurrent_slots (before : List CurrentOf) (c : GateCause) (d : Bool) :
    (s.followCurrent before c d).slots = s.slots := by
  simp [State.followCurrent]

theorem State.newBudgetDay_slots (d : Bool) : (s.newBudgetDay d).slots = s.slots :=
  State.evaluateAll_slots _ _ _ _

theorem State.setBudgetDate_slots (d : Int) : (s.setBudgetDate d).slots = s.slots := rfl

@[simp] theorem State.budgetDateCheck_slots (d : Bool) : (s.budgetDateCheck d).slots = s.slots := by
  unfold State.budgetDateCheck
  split
  · rfl
  · rfl
  · split
    · exact (State.setBudgetDate_slots _ _).trans (s.newBudgetDay_slots d)
    · rfl

theorem State.guideTick_slots (before : List CurrentOf) : (s.guideTick before).slots = s.slots := by
  unfold State.guideTick
  dsimp only
  split <;> simp

@[simp] theorem State.offerOrNone_slots (o : Fin 6) : (s.offerOrNone o).slots = s.slots := (s.offerOrNone_work o).slots

@[simp] theorem State.makeOffer_slots (o : Fin 6) (e : EventCriteria) (p : Nat) :
    (s.makeOffer o e p).slots = s.slots := (s.makeOffer_work o e p).slots

@[simp] theorem State.reprice_slots (o : Fin 6) (old : Offer) : (s.reprice o old).slots = s.slots := by
  unfold State.reprice
  split
  · simp
  · split
    · simp
    · split <;> simp

theorem State.refreshOffer_slots (o : Fin 6) : (s.refreshOffer o).slots = s.slots := by
  unfold State.refreshOffer
  split
  · split <;> simp
  · rfl

theorem State.accessTick_slots : s.accessTick.slots = s.slots :=
  (State.foldl_slots State.refreshOffer_slots _ _).trans (State.recomputeAndEvaluate_slots _ _)

theorem State.windowTick_slots : s.windowTick.slots = s.slots :=
  State.evaluateAll_slots _ _ _ _

theorem State.tickBlock_slots (before : List CurrentOf) (b : TickBlock) : (s.tickBlock before b).slots = s.slots := by
  cases b with
  | guide => exact s.guideTick_slots before
  | access => exact s.accessTick_slots
  | purse => exact s.recheckTarget_slots
  | profiles => exact s.windowTick_slots

@[simp] theorem State.minuteWork_slots (before : List CurrentOf) (order : List TickBlock) :
    (s.minuteWork before order).slots = s.slots :=
  (State.deferredNotices_slots _).trans (State.foldl_slots (State.tickBlock_slots · before) order s)

theorem State.clockSecond_slots : s.clockSecond.slots = s.slots := by
  unfold State.clockSecond
  dsimp only
  split <;> rfl

theorem State.meter_slots (q : Fin 6) : (s.meter q).slots = s.slots := by
  unfold State.meter
  dsimp only
  split
  · rfl
  · split <;> rfl

theorem State.secondTick_slots : s.secondTick.slots = s.slots :=
  (State.foldl_slots State.meter_slots _ _).trans (State.clockSecond_slots _)

@[simp] theorem State.noteJump_slots (clock : Nat) (offset : Int) : (s.noteJump clock offset).slots = s.slots := by
  unfold State.noteJump
  split
  · rfl
  · dsimp only
    split <;> simp

theorem State.timeRecord_slots (order : List TickBlock) (clock : Nat) (offset : Int) :
    (s.timeRecord order clock offset).1.slots = s.slots := by
  unfold State.timeRecord
  split
  · rfl
  · dsimp only
    split <;> simp

theorem State.addService_slots {e : MapEntry} {t : State} (h : s.addService e = some t) : t.slots = s.slots := by
  unfold State.addService at h
  split at h
  · cases h
    rfl
  · split at h <;> cases h
    rfl

theorem State.applyItem_slots {it : ServiceItem} {r : State × Option Nat} (h : s.applyItem it = some r) :
    r.1.slots = s.slots := by
  cases it with
  | add e =>
    obtain ⟨t, ht, rfl⟩ := Option.map_eq_some_iff.mp h
    exact s.addService_slots ht
  | remove svc =>
    simp only [State.applyItem] at h
    split at h <;> cases h <;> rfl
  | unknown _ =>
    cases h
    rfl

@[simp] theorem State.applyItems_slots (its : List ServiceItem) : (s.applyItems its).state.slots = s.slots := by
  induction its generalizing s with
  | nil => rfl
  | cons it its ih =>
    unfold State.applyItems
    split
    · rfl
    · next h => exact (ih _).trans (s.applyItem_slots h)

theorem State.servicesRecord_slots (version : Nat) (items : List ServiceItem) :
    (s.servicesRecord version items).1.slots = s.slots := by
  unfold State.servicesRecord
  split <;> simp

/-- R54, R55: the writes of masked titles and of the section CRC end no processing. -/
theorem State.maskWrites_endsSlot {f : Fetched} {es : List SectionEvent} {r : OwnReq} (h : r ∈ s.maskWrites f es) :
    r.endsSlot = none := by
  unfold State.maskWrites at h
  dsimp only at h
  split at h
  · cases h
  · rcases List.mem_append.mp h with h | h
    · obtain ⟨e, -, rfl⟩ := List.mem_map.mp h
      rfl
    · obtain rfl := List.mem_singleton.mp h
      rfl

theorem State.issueAll_slots {rs : List OwnReq} (h : ∀ r ∈ rs, r.endsSlot = none) : (s.issueAll rs).slots = s.slots :=
  State.slots_eq_of_issued rfl rfl h

theorem State.issueFor_slots (f : Fetched) {rs : List OwnReq} (h : ∀ r ∈ rs, r.endsSlot = none) :
    (s.issueFor f rs).slots = s.slots := by
  unfold State.issueFor
  split
  · exact s.issueAll_slots h
  · rfl

theorem State.applyEvents_slots (f : Fetched) : (s.applyEvents f).1.slots = s.slots :=
  (State.followCurrent_slots _ _ _ _).trans (State.issueFor_slots _ f fun _ => State.maskWrites_endsSlot _)

theorem State.eventsCheck_slots {r : Record} {x : State × Outcome} (h : s.eventsCheck r = some x) :
    x.1.slots = s.slots := by
  unfold State.eventsCheck at h
  split at h
  · cases h
    rfl
  · split at h
    · cases h
      rfl
    · split at h
      · cases h
        rfl
      · split at h <;> cases h
        rfl

theorem State.eventsRecord_slots (f : Fetched) : (s.eventsRecord f).1.slots = s.slots := by
  unfold State.eventsRecord
  split
  · next h => exact s.eventsCheck_slots h
  · exact s.applyEvents_slots f

end SlotsOfGuide

/-! ### The Profile Table -/

section SlotsOfProfiles

variable (s : State)

theorem State.pinMatched_slots (q : Fin 6) : (s.pinMatched q).slots = s.slots := by
  unfold State.pinMatched
  split <;> rfl

theorem State.pinFailed_slots (q : Fin 6) (kind : Nat) (o : Option Nat) : (s.pinFailed q kind o).1.slots = s.slots := by
  unfold State.pinFailed
  dsimp only
  split
  · simp [State.lockOut]
  · rfl

theorem State.comparePin_slots (q : Fin 6) (pin : List Byte) (kind : Nat) (o : Option Nat) :
    (s.comparePin q pin kind o).1.slots = s.slots := by
  unfold State.comparePin
  split
  · rfl
  · split
    · exact s.pinMatched_slots q
    · exact s.pinFailed_slots q kind o

/-- What follows a PIN comparison leaves the slot book alone if both do. -/
theorem afterPin_slots {s : State} {r : State × Option Outcome} {go : State → State × Outcome}
    (hr : r.1.slots = s.slots) (hgo : ∀ t : State, (go t).1.slots = t.slots) : (afterPin r go).1.slots = s.slots := by
  unfold afterPin
  split
  · exact hr
  · exact (hgo r.1).trans hr

theorem State.comparePinRecord_slots (o : Fin 6) (op : PinOp) : (s.comparePinRecord o op).1.slots = s.slots :=
  s.comparePin_slots _ _ _ _

theorem State.unlockEvent_slots (o : Fin 6) (e : Nat) : (s.unlockEvent o e).1.slots = s.slots :=
  State.evaluate_slots _ _ _ _

theorem State.unlockPeriod_slots (o : Fin 6) (m : Nat) : (s.unlockPeriod o m).1.slots = s.slots :=
  State.evaluateTuned_slots _ _ _

theorem State.pinUnlockEvent_slots (op : PinOp) : (s.pinUnlockEvent op).1.slots = s.slots := by
  unfold State.pinUnlockEvent
  split
  · rfl
  · split
    · rfl
    · split
      · rfl
      · exact afterPin_slots (s.comparePinRecord_slots _ _) fun t => t.unlockEvent_slots _ _

theorem State.pinUnlockPeriod_slots (op : PinOp) : (s.pinUnlockPeriod op).1.slots = s.slots := by
  unfold State.pinUnlockPeriod
  split
  · rfl
  · split
    · rfl
    · exact afterPin_slots (s.comparePinRecord_slots _ _) fun t => t.unlockPeriod_slots _ _

theorem State.pinChange_slots (op : PinOp) : (s.pinChange op).1.slots = s.slots := by
  unfold State.pinChange
  split
  · rfl
  · split
    · rfl
    · split
      · rfl
      · exact afterPin_slots (s.comparePinRecord_slots _ _) fun _ => rfl

theorem State.editProfile_slots (q : Fin 6) (op : ProfileOp) : (s.editProfile q op).1.slots = s.slots :=
  State.evaluateAll_slots _ _ _ _

theorem State.profileRecord_slots (op : ProfileOp) : (s.profileRecord op).1.slots = s.slots := by
  unfold State.profileRecord
  split
  · rfl
  · split
    · rfl
    · exact afterPin_slots (s.comparePin_slots _ _ _ _) fun t => t.editProfile_slots _ _

theorem State.endUnlock_slots (o : Fin 6) : (s.endUnlock o).slots = s.slots :=
  State.evaluateTuned_slots _ _ _

@[simp] theorem State.warn_slots (q : Fin 6) (viewers : List (Fin 6)) : (s.warn q viewers).slots = s.slots := by
  unfold State.warn
  split <;> simp

@[simp] theorem State.budgetReached_slots (q : Fin 6) : (s.budgetReached q).slots = s.slots := by
  unfold State.budgetReached
  split <;> simp

theorem State.rise_slots (q : Fin 6) (viewers : List (Fin 6)) : (s.rise q viewers).slots = s.slots := by
  unfold State.rise
  split <;> simp

end SlotsOfProfiles

/-! ### The Purse and Journal and the settings store -/

section SlotsOfJournal

variable (s : State)

@[simp] theorem State.followPosition_slots (old : Nat) : (s.followPosition old).slots = s.slots := by
  unfold State.followPosition
  split <;> simp

@[simp] theorem State.followCollect_slots (k : JournalKind) : (s.followCollect k).slots = s.slots := by
  cases k <;> simp [State.followCollect]

@[simp] theorem State.append_slots (e : Entry) : (s.append e).slots = s.slots := by
  simp [State.append]

theorem State.pageWritten_slots (p : Fin 4) : (s.pageWritten p).slots = s.slots := by
  unfold State.pageWritten
  split
  · rfl
  · dsimp only
    split <;> rfl

theorem State.settingsBlank_slots : s.settingsBlank.slots = s.slots := rfl

theorem State.settingsLoaded_slots (b : List Byte) : (s.settingsLoaded b).slots = s.slots := by
  unfold State.settingsLoaded
  rfl

theorem State.settingsCorrupt_slots : s.settingsCorrupt.slots = s.slots := by
  simp only [State.settingsCorrupt, State.markChange_slots, State.notify_slots]
  rfl

theorem State.settingsMount_slots : s.settingsMount.slots = s.slots := by
  unfold State.settingsMount
  split
  · exact s.settingsBlank_slots
  · split
    · exact s.settingsLoaded_slots _
    · exact s.settingsCorrupt_slots

@[simp] theorem State.startStatistics_slots : s.startStatistics.slots = s.slots := by
  unfold State.startStatistics
  split <;> rfl

theorem State.mountComplete_slots : s.mountComplete.slots = s.slots := by
  simp only [State.mountComplete, State.budgetDateCheck_slots, State.notify_slots]
  exact State.startStatistics_slots _

theorem State.journalMount_slots : s.journalMount.slots = s.slots :=
  ((State.mountComplete_slots _).trans (State.withAccess_slots _ _)).trans
    ((State.retarget_slots _).trans (State.slots_eq_of_port rfl rfl))

end SlotsOfJournal

/-! ### The Access Unit and the Rights Table -/

section SlotsOfAccess

variable (s : State)

theorem State.exhaustHalf_slots (l : HalfPlace) : (s.exhaustHalf l).slots = s.slots := rfl

theorem State.previewEnd_slots (o : Fin 6) (event seconds : Nat) : (s.previewEnd o event seconds).slots = s.slots := by
  unfold State.previewEnd
  split <;> simp

theorem State.previewEnds_slots (cs : List (Fin 8)) (event seconds : Nat) :
    (s.previewEnds cs event seconds).slots = s.slots :=
  State.foldl_slots (fun s _ => State.foldl_slots (fun s o => s.previewEnd_slots o event seconds) _ s) cs s

theorem State.exhaust_slots (x : PreviewEntry) : (s.exhaust x).slots = s.slots :=
  ((State.evaluateAll_slots _ _ _ _).trans (State.previewEnds_slots _ _ _ _)).trans
    (State.foldl_slots State.exhaustHalf_slots _ s)

theorem State.purchasePin_slots (o : Fin 6) (op : BuyOp) : (s.purchasePin o op).1.slots = s.slots := by
  unfold State.purchasePin
  split
  · exact s.comparePin_slots _ _ _ _
  · rfl

theorem State.purchase_slots (o : Fin 6) (e : EventCriteria) (price : Nat) :
    (s.purchase o e price).1.slots = s.slots := by
  simp only [State.purchase, State.recomputeAndEvaluate_slots, State.notify_slots]
  exact s.append_slots _

theorem State.buyPriced_slots (o : Fin 6) (e : EventCriteria) (price confirm : Nat) :
    (s.buyPriced o e price confirm).1.slots = s.slots := by
  unfold State.buyPriced
  split
  · rfl
  · split
    · rfl
    · split
      · rfl
      · split
        · rfl
        · exact s.purchase_slots o e price

theorem State.buyOffered_slots (o : Fin 6) (op : BuyOp) : (s.buyOffered o op).1.slots = s.slots := by
  unfold State.buyOffered
  split
  · rfl
  · split
    · rfl
    · split
      · rfl
      · split
        · rfl
        · exact afterPin_slots (s.purchasePin_slots o op) fun t => t.buyPriced_slots _ _ _ _

theorem State.buyRecord_slots (op : BuyOp) : (s.buyRecord op).1.slots = s.slots := by
  unfold State.buyRecord
  split
  · rfl
  · split
    · rfl
    · exact s.buyOffered_slots _ op

theorem State.applyRight_slots (op : RightsOp) (it : RightsItem) : (s.applyRight op it).slots = s.slots := by
  cases it with
  | topup a => exact s.append_slots _
  | collect u => exact s.append_slots _
  | pinReset q pin =>
    simp only [State.applyRight, State.pinReset]
    split <;> rfl
  | _ => rfl

@[simp] theorem State.rightsFollow_slots (region : Bool) : (s.rightsFollow region).slots = s.slots := by
  cases region <;> simp [State.rightsFollow]

theorem State.applyRights_slots (op : RightsOp) : (s.applyRights op).1.slots = s.slots := by
  simp only [State.applyRights, State.rightsFollow_slots, State.notify_slots, State.markChange_slots,
    State.modRights_slots]
  exact State.foldl_slots (State.applyRight_slots · op) op.items s

theorem State.rightsRecord_slots (pass : Bool) (op : RightsOp) : (s.rightsRecord pass op).1.slots = s.slots := by
  unfold State.rightsRecord
  split
  · rfl
  · exact s.applyRights_slots op

end SlotsOfAccess

/-! ### The Notice Writer -/

section SlotsOfWriter

variable (s : State)

theorem State.statsOutput_slots (o : Fin 6) : (s.statsOutput o).slots = s.slots := by
  unfold State.statsOutput
  split <;> simp

theorem State.statsRing_slots (k : Fin 4) : (s.statsRing k).slots = s.slots := by
  unfold State.statsRing
  split <;> simp

@[simp] theorem State.writeStats_slots : s.writeStats.slots = s.slots := by
  simp only [State.writeStats, State.statsGuide, State.modGuideCounters_slots, State.notify_slots]
  exact (State.foldl_slots State.statsRing_slots _ _).trans (State.foldl_slots State.statsOutput_slots _ s)

@[simp] theorem State.retryStats_slots : s.retryStats.slots = s.slots := by
  unfold State.retryStats
  split <;> simp

theorem State.statsFallDue_slots : s.statsFallDue.slots = s.slots := by
  unfold State.statsFallDue
  split
  · rfl
  · split <;> simp

theorem State.handConsumer_slots (v : Nat) : (s.handConsumer v).slots = s.slots := by
  unfold State.handConsumer
  split
  · rfl
  · simp [State.takeConsumer]

theorem State.consumerWritten_slots (r : Request) : (s.consumerWritten r).slots = s.slots :=
  State.handConsumer_slots _ _

end SlotsOfWriter

/-! ### Power and part states -/

section SlotsOfPower

variable (s : State)

theorem State.forceSettings_slots : s.forceSettings.slots = s.slots := by
  unfold State.forceSettings
  split <;> rfl

theorem State.enterStandby_slots : s.enterStandby.slots = s.slots :=
  ((State.withPart_slots _ .standby).trans (State.forceSettings_slots _)).trans s.clearPool_slots

theorem State.powerStandby_slots (a : Nat) : (s.powerStandby a).1.slots = s.slots := by
  unfold State.powerStandby
  split
  · rfl
  · split
    · rfl
    · exact s.enterStandby_slots

theorem State.powerWake_slots (a : Nat) : (s.powerWake a).1.slots = s.slots := by
  unfold State.powerWake
  split
  · rfl
  · split <;> rfl

theorem State.releaseStart_slots : s.releaseStart.slots = s.slots :=
  State.foldl_slots State.arrive_slots _ _

theorem State.loadImage_slots (i : Image) : (s.loadImage i).slots = s.slots :=
  (State.releaseStart_slots _).trans (State.issueControlBlock_slots _)

theorem State.enterFault_slots : s.enterFault.slots = s.slots :=
  State.foldl_slots (fun s r => s.present_slots ⟨r, .plain, none, false⟩) _ _

end SlotsOfPower

end Sys2Proof.Machine
end

section
/-! PROOFS. R25: what taking a slot, selecting, finishing a record, the outcome write and a link reset make of the slots,
and the obligation that every step keeps them in order. -/

namespace Sys2Proof.Machine

/-! ### Slots that stay, come and go (R22, R26, R32) -/

theorem Intake.accounted_of_none {i : Intake} (h : i.proc = none) : i.accounted = i.urgent ++ i.bulk := by
  simp [Intake.accounted, h]

theorem Intake.accounted_of_fetching {i : Intake} {n : Fin 256} (h : i.proc = some ⟨n, .fetching⟩) :
    i.accounted = i.urgent ++ i.bulk ++ [n] := by
  simp [Intake.accounted, h]

theorem Intake.accounted_of_decided {i : Intake} {n : Fin 256} (h : i.proc = some ⟨n, .decided⟩) :
    i.accounted = i.urgent ++ i.bulk ++ [n] := by
  simp [Intake.accounted, h]

theorem Intake.accounted_of_detached {i : Intake} {n : Fin 256} {b : List Byte} (h : i.proc = some ⟨n, .detached b⟩) :
    i.accounted = i.urgent ++ i.bulk := by
  simp [Intake.accounted, h]

/-- The same slots in another order: a slot moves between the queues and processing. -/
theorem Intake.TakenOk.of_perm {i j : Intake} (h : i.TakenOk) (ht : j.taken = i.taken)
    (hp : j.accounted.Perm i.accounted) : j.TakenOk := by
  obtain ⟨hnodup, htaken⟩ := h
  exact ⟨hp.nodup_iff.mpr hnodup, fun m => by rw [ht, htaken, hp.mem_iff]⟩

/-- A FREE slot is taken. -/
theorem Intake.TakenOk.of_added {i j : Intake} {n : Fin 256} (h : i.TakenOk) (hn : i.taken[n] = false)
    (ht : j.taken = i.taken.set n true) (hp : j.accounted.Perm (n :: i.accounted)) : j.TakenOk := by
  obtain ⟨hnodup, htaken⟩ := h
  have hnew : n ∉ i.accounted := fun hm => by simp [(htaken n).mpr hm] at hn
  refine ⟨hp.nodup_iff.mpr (List.nodup_cons.mpr ⟨hnew, hnodup⟩), fun m => ?_⟩
  rw [ht, hp.mem_iff, List.mem_cons, ← htaken m]
  by_cases e : m = n
  · simp [e]
  · have hne : (n : Nat) ≠ m := fun he => e (Fin.ext he.symm)
    simp [e, hne]

/-- A TAKEN slot becomes FREE. -/
theorem Intake.TakenOk.of_removed {i j : Intake} {n : Fin 256} (h : i.TakenOk)
    (ht : j.taken = i.taken.set n false) (hp : i.accounted.Perm (n :: j.accounted)) : j.TakenOk := by
  obtain ⟨hnodup, htaken⟩ := h
  obtain ⟨hgone, hrest⟩ := List.nodup_cons.mp (hp.nodup_iff.mp hnodup)
  refine ⟨hrest, fun m => ?_⟩
  by_cases e : m = n
  · simp [ht, e, hgone]
  · have hne : (n : Nat) ≠ m := fun he => e (Fin.ext he.symm)
    have hm := htaken m
    rw [hp.mem_iff, List.mem_cons, or_iff_right e] at hm
    simpa [ht, Vector.getElem_set, hne] using hm

/-- No outcome write is under way while the record in processing has no outcome. -/
theorem SlotsOk.ending_eq_nil {b : Intake × List (Fin 256)} (h : SlotsOk b)
    (hp : ∀ n : Fin 256, b.1.proc ≠ some ⟨n, .decided⟩) : b.2 = [] :=
  List.eq_nil_iff_forall_not_mem.mpr fun n hn => hp n (h.2.1 n hn)

theorem slotsOk_of_no_ending {i : Intake} (h : i.TakenOk) : SlotsOk (i, []) := ⟨h, nofun, Nat.zero_le _⟩

theorem IntakeOk.of_slots {s t : State} (h : IntakeOk s) (ht : t.slots = s.slots) : IntakeOk t := by
  rw [intakeOk_iff] at h ⊢
  rwa [ht]

theorem IntakeOk.takenOk {s : State} (h : IntakeOk s) : s.intake.TakenOk := ⟨h.1, h.2.1⟩

theorem IntakeOk.ending_eq_nil {s : State} (h : IntakeOk s) (hp : ∀ n : Fin 256, s.intake.proc ≠ some ⟨n, .decided⟩) :
    s.port.ending = [] := ((intakeOk_iff s).mp h).ending_eq_nil hp

/-- With no outcome write under way, R25 speaks of Intake alone. -/
theorem intakeOk_of_no_ending {s : State} (h : s.intake.TakenOk) (he : s.port.ending = []) : IntakeOk s := by
  rw [intakeOk_iff, State.slots, he]
  exact slotsOk_of_no_ending h

/-! ### Taking and selecting (R22, R26) -/

theorem Intake.take_proc (i : Intake) (n : Fin 256) (kind : Byte) : (i.take n kind).proc = i.proc := by
  unfold Intake.take
  split <;> rfl

theorem Intake.take_taken (i : Intake) (n : Fin 256) (kind : Byte) : (i.take n kind).taken = i.taken.set n true := by
  unfold Intake.take
  split <;> rfl

/-- R22: the slot joins the account. -/
theorem Intake.take_accounted (i : Intake) (n : Fin 256) (kind : Byte) :
    (i.take n kind).accounted.Perm (n :: i.accounted) := by
  unfold Intake.accounted
  rw [i.take_proc n kind]
  refine List.Perm.append_right _ (?_ : List.Perm _ (n :: (i.urgent ++ i.bulk)))
  unfold Intake.take
  split
  · simp [Intake.mark, List.append_assoc]
  · simpa [Intake.mark] using List.perm_append_singleton n (i.urgent ++ i.bulk)

/-- R22: a write that takes a slot found it FREE. -/
theorem State.free_of_take {s : State} {u : UpReq} {n : Fin 256} {kind : Byte} (h : s.completionOf u = .take n kind) :
    s.intake.taken[n] = false := by
  unfold State.completionOf at h
  split at h
  · cases h
  · split at h
    · split at h <;> cases h
    · split at h <;> cases h
  · split at h
    · next hc =>
      cases h
      simp only [State.slotTaken, Bool.and_eq_true, Bool.not_eq_true'] at hc
      exact hc.2
    · cases h
  · split at h <;> cases h

theorem State.take_keeps {s : State} (h : IntakeOk s) {n : Fin 256} (hn : s.intake.taken[n] = false) (kind : Byte) :
    IntakeOk (s.modIntake (fun i => i.take n kind)) := by
  obtain ⟨-, hends, hone⟩ := (intakeOk_iff s).mp h
  rw [intakeOk_iff]
  refine ⟨?_, fun m hm => (s.intake.take_proc n kind).trans (hends m hm), hone⟩
  exact h.takenOk.of_added hn (s.intake.take_taken n kind) (s.intake.take_accounted n kind)

/-- R26: the chosen slot leaves its queue. -/
theorem Intake.choose_some {i j : Intake} {n : Fin 256} (h : i.choose = some (n, j)) :
    j.taken = i.taken ∧ (i.urgent ++ i.bulk).Perm (n :: (j.urgent ++ j.bulk)) := by
  unfold Intake.choose at h
  split at h
  · cases h
  · next hu hb =>
    cases h
    simp [hu]
  · next hu hb =>
    cases h
    simp [hu, hb]
  · next hu hb =>
    split at h <;> cases h
    · simp [hu]
    · rw [hu, hb]
      exact ⟨rfl, List.perm_middle⟩

/-- R26: selection moves a slot from its queue into processing. -/
theorem State.select_keeps {s : State} (h : IntakeOk s) : IntakeOk s.select := by
  cases hp : s.intake.proc with
  | some p => simpa [State.select, hp] using h
  | none =>
    cases hc : s.intake.choose with
    | none => rwa [State.select_of_none hp hc]
    | some c =>
      obtain ⟨n, j⟩ := c
      obtain ⟨htaken, hperm⟩ := Intake.choose_some hc
      have hending : s.port.ending = [] := h.ending_eq_nil (by simp [hp])
      rw [State.select_of_some hp hc]
      refine intakeOk_of_no_ending (h.takenOk.of_perm htaken ?_) ?_
      · rw [Intake.accounted_of_fetching (n := n) rfl, Intake.accounted_of_none hp]
        exact (List.perm_append_singleton n _).trans hperm.symm
      · exact (congrArg Prod.snd (State.issue_fetch_slots s n)).trans hending

/-! ### Records (R27 to R34) -/

/-- The record at hand is that of the fetch in service, or one that a link reset detached. -/
theorem State.fetched_cases {s : State} {f : Fetched} (h : s.fetched = some f) :
    (f.attached = true ∧ s.intake.proc = some ⟨f.slot, .fetching⟩ ∧
      ∃ r : OwnReq, s.servingOwn = some r ∧ r.endsSlot = none) ∨
    (f.attached = false ∧ ∃ b : List Byte, s.intake.proc = some ⟨f.slot, .detached b⟩) := by
  cases hp : s.intake.proc with
  | none => simp [State.fetched, hp] at h
  | some p =>
    obtain ⟨n, stage⟩ := p
    simp only [State.fetched, hp] at h
    cases stage with
    | decided => cases h
    | detached b =>
      cases h
      exact .inr ⟨rfl, b, rfl⟩
    | fetching =>
      cases hr : s.servingOwn with
      | none => simp [hr] at h
      | some r =>
        simp only [hr] at h
        split at h
        · next hfetch =>
          cases h
          exact .inl ⟨rfl, rfl, r, rfl, OwnReq.endsSlot_eq_none_of_kind (by simp [hfetch.1])⟩
        · cases h

theorem State.fetchDone_slots {s : State} {f : Fetched} (h : s.fetched = some f) :
    (s.fetchDone f).slots = s.slots := by
  rcases State.fetched_cases h with ⟨ha, -, r, hr, hends⟩ | ⟨ha, -⟩
  · rw [State.fetchDone_attached s ha, State.freePort_slots_own hr hends]
  · rw [State.fetchDone_detached s ha]

theorem State.countBadLength_slots (s : State) (k : Kind) (a : Bool) : (s.countBadLength k a).slots = s.slots := by
  cases k <;> cases a <;> rfl

/-- R28 to R30: carrying a record out leaves the slot book alone if its owning block's effect does. -/
theorem State.carryOut_slots {effect : Effect} (h : ∀ (s : State) (f : Fetched), (effect s f).1.slots = s.slots)
    (s : State) (f : Fetched) (k : Kind) : (s.carryOut f k effect).1.slots = s.slots := by
  unfold State.carryOut
  split
  · exact s.countBadLength_slots k _
  · split
    · rfl
    · exact h s f

theorem State.scrubWrites_endsSlot {s : State} {n : Fin 256} {k : Kind} {r : OwnReq} (h : r ∈ s.scrubWrites n k) :
    r.endsSlot = none := by
  obtain ⟨i, -, rfl⟩ := List.mem_map.mp h
  rfl

/-- R32: an attached record stays in processing until its outcome write, the only one under way, completes. -/
theorem State.finishRecord_keeps_attached {s : State} (h : IntakeOk s) {f : Fetched} (ha : f.attached = true)
    (hp : s.intake.proc = some ⟨f.slot, .fetching⟩) {ws : List OwnReq} (hws : ∀ r ∈ ws, r.endsSlot = none)
    (out : Outcome) : IntakeOk (s.finishRecord f ws out) := by
  have hnone : s.port.ending = [] := h.ending_eq_nil (by simp [hp])
  have hending : (s.finishRecord f ws out).port.ending = [f.slot] := by
    rw [State.finishRecord_attached s ha, State.modIntake_port, State.issueAll_port, Port.ending_appendOwn, hnone,
      List.filterMap_append, filterMap_endsSlot_eq_nil hws]
    rfl
  rw [intakeOk_iff, State.slots, hending, State.finishRecord_attached s ha]
  refine ⟨h.takenOk.of_perm rfl ?_, fun n hn => ?_, Nat.le_refl _⟩
  · rw [Intake.accounted_of_fetching hp, Intake.accounted_of_decided (n := f.slot) rfl]
    rfl
  · rw [List.mem_singleton.mp hn]
    rfl

/-- R34: with a detached record no slot leaves the account, and the next record is selected. -/
theorem State.endProcessing_keeps {s : State} (h : IntakeOk s) {n : Fin 256} {b : List Byte}
    (hp : s.intake.proc = some ⟨n, .detached b⟩) : IntakeOk s.endProcessing := by
  refine State.select_keeps (intakeOk_of_no_ending (h.takenOk.of_perm rfl ?_) (h.ending_eq_nil (by simp [hp])))
  rw [Intake.accounted_of_detached hp, Intake.accounted_of_none rfl]
  rfl

/-- R31, R32, R34: the record at hand is finished after an effect that leaves the slot book alone. -/
theorem State.finishRecord_keeps {s u : State} (h : IntakeOk s) {f : Fetched} (hf : s.fetched = some f)
    (hu : u.slots = s.slots) {ws : List OwnReq} (hws : ∀ r ∈ ws, r.endsSlot = none) (out : Outcome) :
    IntakeOk (u.finishRecord f ws out) := by
  have hproc : u.intake.proc = s.intake.proc := congrArg (fun b => b.1.proc) hu
  rcases State.fetched_cases hf with ⟨ha, hp, -⟩ | ⟨ha, b, hp⟩
  · exact State.finishRecord_keeps_attached (h.of_slots hu) ha (hproc.trans hp) hws out
  · rw [State.finishRecord_detached u ha]
    exact State.endProcessing_keeps (h.of_slots hu) (hproc.trans hp)

/-! ### The outcome write (R32) -/

/-- R32: the slot of the completed outcome write is that of the record in processing, and leaves the account. -/
theorem State.outcomeDone_keeps {s : State} (h : IntakeOk s) {r : OwnReq} {n : Fin 256} (hs : s.servingOwn = some r)
    (hr : r.endsSlot = some n) : IntakeOk ((s.completeOwn r).outcomeDone n) := by
  obtain ⟨-, hends, hone⟩ := (intakeOk_iff s).mp h
  have hall : s.port.ending = n :: s.freePort.port.ending := by rw [State.ending_of_servingOwn hs, hr]; rfl
  have hproc : s.intake.proc = some ⟨n, .decided⟩ := hends n (by simp [State.slots, hall])
  have hnone : s.freePort.port.ending = [] := by
    have hlen : s.port.ending.length ≤ 1 := hone
    rw [hall, List.length_cons] at hlen
    exact List.eq_nil_of_length_eq_zero (Nat.le_zero.mp (Nat.le_of_succ_le_succ hlen))
  refine State.select_keeps (intakeOk_of_no_ending (h.takenOk.of_removed (n := n) rfl ?_) hnone)
  rw [Intake.accounted_of_decided hproc, Intake.accounted_of_none rfl]
  exact List.perm_append_singleton n _

/-! ### A link reset (R33, R34) -/

/-- R34: after a link reset no attached record is in processing. -/
theorem State.detach_proc (s : State) (c : Bool) :
    (s.detach c).intake.proc = none ∨
      ∃ (n : Fin 256) (b : List Byte), (s.detach c).intake.proc = some ⟨n, .detached b⟩ := by
  cases hp : s.intake.proc with
  | none =>
    rw [State.detach_none hp]
    exact .inl hp
  | some p =>
    obtain ⟨n, stage⟩ := p
    cases stage with
    | detached b =>
      rw [State.detach_detached hp]
      exact .inr ⟨n, b, hp⟩
    | decided =>
      rw [State.detach_decided hp]
      exact .inl rfl
    | fetching =>
      by_cases hc : c = false ∨ s.fetched = none
      · rw [State.detach_abandons hp hc]
        exact .inl rfl
      · obtain ⟨hc, hf⟩ := not_or.mp hc
        obtain rfl : c = true := by simpa using hc
        rw [State.detach_completes hp hf]
        exact .inr ⟨n, _, rfl⟩

/-- R33, R34: every slot is FREE, both queues are empty, and no outcome write ends a processing any more. -/
theorem State.linkReset_keeps {s : State} (h : s.part.running = true) (c : Bool) : IntakeOk (s.linkReset c) := by
  have hending : (s.linkRestarted c).port.ending = [] := by
    refine filterMap_endsSlot_eq_nil fun r hr => ?_
    by_cases hk : r.what.ofRecord = true
    · exact OwnReq.endsSlot_eq_none_of_void (State.linkRestarted_void s c r hr hk)
    · exact OwnReq.endsSlot_eq_none_of_kind fun n hn => hk (by rw [hn]; rfl)
  have hnone : (s.linkRestarted c).intake.accounted = [] := by
    rcases State.detach_proc s c with hp | ⟨n, b, hp⟩
    · exact Intake.accounted_of_none hp
    · exact Intake.accounted_of_detached hp
  have hfree : (s.linkRestarted c).intake.TakenOk := by
    refine ⟨by simp [hnone], fun n => ?_⟩
    rw [hnone]
    simp [State.linkRestarted, State.linkCleared]
  rw [State.linkReset_eq h]
  exact (intakeOk_of_no_ending hfree hending).of_slots rfl

/-- R15, R18: in FAULT a link reset may make the outcome write in service void. -/
theorem Port.dropUpstream_ending (p : Port) : p.dropUpstream.ending.Sublist p.ending := by
  obtain ⟨up, own, pass, serving⟩ := p
  rcases serving with _ | (u | r)
  · exact List.Sublist.refl _
  · exact List.Sublist.refl _
  · show (List.filterMap OwnReq.endsSlot ({ r with void := r.void || r.what.resetVoids } :: own)).Sublist
      (List.filterMap OwnReq.endsSlot (r :: own))
    cases hv : r.void || r.what.resetVoids with
    | true =>
      rw [List.filterMap_cons_none (OwnReq.endsSlot_eq_none_of_void rfl)]
      exact (List.sublist_cons_self r own).filterMap _
    | false =>
      obtain ⟨hvoid, -⟩ := Bool.or_eq_false_iff.mp hv
      rw [← hvoid]

theorem State.dropUpstream_keeps {s : State} (h : IntakeOk s) : IntakeOk { s with port := s.port.dropUpstream } := by
  obtain ⟨htaken, hends, hone⟩ := (intakeOk_iff s).mp h
  rw [intakeOk_iff]
  have hsub := s.port.dropUpstream_ending
  exact ⟨htaken, fun n hn => hends n (hsub.subset hn), hsub.length_le.trans hone⟩

/-! ### How a command's outcome keeps R25 -/

/-- If a command answers a next state, R25 holds in it where it held before. -/
def KeepsIntake (s : State) (r : Result) : Prop := ∀ t : State, r = .next t → IntakeOk s → IntakeOk t

theorem KeepsIntake.same (s : State) : KeepsIntake s (.next s) := by
  rintro t ⟨⟩ h
  exact h

theorem KeepsIntake.refused (s : State) (x : Refusal) : KeepsIntake s (.refused x) := by
  rintro t ⟨⟩

theorem KeepsIntake.fault (s : State) (x : Fault) : KeepsIntake s (.fault x) := by
  rintro t ⟨⟩

theorem KeepsIntake.done {s t : State} (h : IntakeOk s → IntakeOk t) : KeepsIntake s (done t) := by
  rintro u ⟨⟩ hs
  exact (h hs).of_slots t.settle_slots

/-- A command whose effect leaves the slot book alone. -/
theorem KeepsIntake.done_slots {s t : State} (h : t.slots = s.slots) : KeepsIntake s (Machine.done t) :=
  .done fun hs => hs.of_slots h

/-- A command that acts when it is due and otherwise changes nothing. -/
theorem KeepsIntake.due {s : State} {p : Prop} [Decidable p] {r : Result} (h : p → KeepsIntake s r) :
    KeepsIntake s (if p then r else .next s) := by
  split
  · next hp => exact h hp
  · exact .same s

/-- A record command of a block whose effect leaves the slot book alone. -/
theorem recordStep_keeps {effect : Effect} (h : ∀ (s : State) (f : Fetched), (effect s f).1.slots = s.slots)
    (s : State) (k : Kind) (mine : Record → Bool) : KeepsIntake s (recordStep s k mine effect) := by
  unfold recordStep State.processRecord
  cases hf : s.fetched with
  | none => exact .same s
  | some f =>
    dsimp only
    split
    · next u hu =>
      split at hu <;> cases hu
      exact .same s
    · next u hu =>
      split at hu <;> cases hu
      refine .done fun hs => State.finishRecord_keeps hs hf ?_ (fun r => State.scrubWrites_endsSlot) _
      exact (State.carryOut_slots h _ f k).trans (State.fetchDone_slots hf)

/-! ### The commands, one by one -/

theorem State.powerOff_keeps (s : State) : IntakeOk s.powerOff := reset_intake.of_slots rfl

theorem execPowerGood_keeps (s : State) : KeepsIntake s (execPowerGood s) := by
  unfold execPowerGood
  split
  · exact .same s
  · exact .done fun _ => s.powerOff_keeps.of_slots rfl

theorem execPowerLoss_keeps (remains : List Byte) (s : State) : KeepsIntake s (execPowerLoss remains s) := by
  unfold execPowerLoss
  split
  · exact .same s
  · split
    · exact .refused s _
    · next t ht =>
      rintro u ⟨⟩ -
      unfold State.losePower at ht
      split at ht
      · cases ht
        exact State.powerOff_keeps _
      · split at ht
        · cases ht
          exact State.powerOff_keeps _
        · split at ht <;> cases ht
          exact State.powerOff_keeps _

theorem execLinkReset_keeps (c : Bool) (s : State) : KeepsIntake s (execLinkReset c s) := by
  unfold execLinkReset
  split
  · exact .same s
  · split
    · exact .same s
    · exact .done State.dropUpstream_keeps
    all_goals next hp => exact .done fun _ => State.linkReset_keeps (by rw [hp]; rfl) c

theorem execConfigImageReadComplete_keeps (s : State) : KeepsIntake s (execConfigImageReadComplete s) := by
  unfold execConfigImageReadComplete
  split
  · split
    · exact .done_slots (s.loadImage_slots _)
    · exact .done_slots s.enterFault_slots
  all_goals exact .same s

theorem execUpstreamRequest_keeps (r : Request) (s : State) : KeepsIntake s (execUpstreamRequest r s) := by
  unfold execUpstreamRequest
  split
  · exact .fault s _
  · split
    · exact .refused s _
    · exact .due fun _ => .done_slots (s.upstream_slots r)

theorem execPassRequestComplete_keeps (s : State) : KeepsIntake s (execPassRequestComplete s) := by
  unfold execPassRequestComplete
  split
  · exact .same s
  · next u hu => exact .due fun _ => .done_slots (s.passComplete_slots hu)

theorem execCellArrival_keeps (s : State) : KeepsIntake s (execCellArrival s) := by
  unfold execCellArrival
  split
  · exact .same s
  · next u hu =>
    split
    · exact .done_slots ((State.arrival_slots _ _ _).trans (State.completeWrite_slots hu))
    all_goals exact .same s

theorem execCellRead_keeps (x : ReadStep) (s : State) : KeepsIntake s (execCellRead x s) := by
  have hcomplete (ecc : EccFinding) (atOnce : Bool) : KeepsIntake s (s.completeRead ecc atOnce) := by
    unfold State.completeRead
    split
    · exact .same s
    · next u hu =>
      split
      · exact .done_slots (s.cellRead_slots hu _ _ _)
      all_goals exact .same s
  cases x with
  | whole ecc => exact hcomplete ecc true
  | judged ecc => exact hcomplete ecc false
  | answered k =>
    simp only [execCellRead, State.leaveRead]
    split
    · exact .same s
    · exact .done_slots (State.answerRead_slots _ _ _ _ _)

theorem execOwnWriteComplete_keeps (s : State) : KeepsIntake s (execOwnWriteComplete s) := by
  unfold execOwnWriteComplete
  split
  · exact .same s
  · next r hr =>
    refine .due fun hp => .done_slots (State.completeOwn_slots hr (OwnReq.endsSlot_eq_none_of_kind fun n hn => ?_))
    simp [hn, OwnKind.plain] at hp

theorem execSlotTake_keeps (s : State) : KeepsIntake s (execSlotTake s) := by
  unfold execSlotTake
  split
  · exact .same s
  · next u hu =>
    split
    · next n kind hc =>
      refine .done fun hs => State.select_keeps (State.take_keeps (hs.of_slots (State.completeWrite_slots hu)) ?_ kind)
      simpa using State.free_of_take hc
    all_goals exact .same s

theorem execRecordBadKind_keeps (s : State) : KeepsIntake s (execRecordBadKind s) := by
  unfold execRecordBadKind
  split
  · exact .same s
  · next f hf =>
    exact .due fun _ => .done fun hs =>
      State.finishRecord_keeps hs hf (State.fetchDone_slots hf) (List.forall_mem_nil _) _

theorem execOutcomeWriteComplete_keeps (s : State) : KeepsIntake s (execOutcomeWriteComplete s) := by
  unfold execOutcomeWriteComplete
  split
  · exact .same s
  · next r hr =>
    split
    · next n hn =>
      split
      · next hv => exact .done_slots (State.completeOwn_slots hr (OwnReq.endsSlot_eq_none_of_void hv))
      · next hv => exact .done fun hs => State.outcomeDone_keeps hs hr (by simp [OwnReq.endsSlot, hn, hv])
    all_goals exact .same s

theorem execDiscardedFetchComplete_keeps (s : State) : KeepsIntake s (execDiscardedFetchComplete s) := by
  unfold execDiscardedFetchComplete
  split
  · exact .same s
  · next r hr =>
    split
    · exact .due fun hv => .done_slots (State.freePort_slots_own hr (OwnReq.endsSlot_eq_none_of_void hv))
    all_goals exact .same s

theorem execPublishingWriteComplete_keeps (s : State) : KeepsIntake s (execPublishingWriteComplete s) := by
  unfold execPublishingWriteComplete
  split
  · exact .same s
  · next r hr =>
    split
    · next i hi =>
      have hslots := State.completeOwn_slots hr (OwnReq.endsSlot_eq_none_of_kind (by simp [hi]))
      split <;> exact .done_slots hslots
    all_goals exact .same s

theorem execControlBlockWriteComplete_keeps (s : State) : KeepsIntake s (execControlBlockWriteComplete s) := by
  unfold execControlBlockWriteComplete
  split
  · exact .same s
  · next r hr =>
    split
    · next hk => exact .done_slots (State.completeOwn_slots hr (OwnReq.endsSlot_eq_none_of_kind (by simp [hk])))
    all_goals exact .same s

theorem execConsumerIndexWrite_keeps (s : State) : KeepsIntake s (execConsumerIndexWrite s) := by
  unfold execConsumerIndexWrite
  split
  · exact .same s
  · next u hu =>
    split
    · exact .done_slots ((State.consumerWritten_slots _ _).trans (State.completeWrite_slots hu))
    all_goals exact .same s

theorem execMinuteTick_keeps (order : List TickBlock) (s : State) : KeepsIntake s (execMinuteTick order s) := by
  unfold execMinuteTick
  split
  · exact .refused s _
  · split
    · exact .same s
    · exact .done_slots (State.minuteWork_slots _ _ _)

theorem execTime_keeps (order : List TickBlock) (s : State) : KeepsIntake s (execTime order s) := by
  unfold execTime
  split
  · exact .refused s _
  · exact recordStep_keeps (fun s _ => s.timeRecord_slots _ _ _) s _ _

theorem execPreviewExhaustion_keeps (event : Nat) (s : State) : KeepsIntake s (execPreviewExhaustion event s) := by
  unfold execPreviewExhaustion
  refine .due fun _ => ?_
  dsimp only
  split
  · exact .done_slots rfl
  · exact .done_slots (State.exhaust_slots _ _)

theorem execMinutesUsedRise_keeps (q : Fin 6) (s : State) : KeepsIntake s (execMinutesUsedRise q s) := by
  unfold execMinutesUsedRise
  split
  · exact .same s
  · exact .done_slots (State.rise_slots _ _ _)

theorem execKeyWaitExpiry_keeps (o : Fin 6) (s : State) : KeepsIntake s (execKeyWaitExpiry o s) := by
  unfold execKeyWaitExpiry
  split
  · exact .same s
  · exact .due fun _ => .done_slots (s.stall_slots o _)

theorem execSettingsReadComplete_keeps (s : State) : KeepsIntake s (execSettingsReadComplete s) := by
  unfold execSettingsReadComplete
  split
  · exact .done_slots s.settingsMount_slots
  all_goals exact .same s

theorem execJournalMount_keeps (s : State) : KeepsIntake s (execJournalMount s) := by
  unfold execJournalMount
  split
  · exact .done_slots s.journalMount_slots
  all_goals exact .same s

theorem execPageProgramComplete_keeps (s : State) : KeepsIntake s (execPageProgramComplete s) := by
  unfold execPageProgramComplete
  split
  · exact .done_slots rfl
  all_goals exact .same s

theorem execEraseComplete_keeps (s : State) : KeepsIntake s (execEraseComplete s) := by
  unfold execEraseComplete
  split
  · exact .done_slots (State.retarget_slots _)
  all_goals exact .same s

theorem execSettingsRewriteStepComplete_keeps (s : State) : KeepsIntake s (execSettingsRewriteStepComplete s) := by
  unfold execSettingsRewriteStepComplete
  split
  · exact .done_slots rfl
  · exact .done_slots (s.pageWritten_slots _)
  all_goals exact .same s

/-! ### Every command, every step -/

/-- R25: every command keeps the TAKEN slots those of the queues and the record in processing. -/
theorem exec_keepsIntake (c : Instr) (s : State) : KeepsIntake s (exec c s) := by
  cases c with
  | powerGood => exact execPowerGood_keeps s
  | powerLoss remains => exact execPowerLoss_keeps remains s
  | linkReset c => exact execLinkReset_keeps c s
  | configImageReadComplete => exact execConfigImageReadComplete_keeps s
  | upstreamRequest r => exact execUpstreamRequest_keeps r s
  | passRequestComplete => exact execPassRequestComplete_keeps s
  | cellArrival => exact execCellArrival_keeps s
  | silenceTimerExpiry w => exact .due fun _ => .done_slots (s.fallSilent_slots w)
  | cellRead x => exact execCellRead_keeps x s
  | paceWindowOpen => exact .due fun _ => .done_slots (s.openPace_frame.slots (by decide) (by decide))
  | ownWriteComplete => exact execOwnWriteComplete_keeps s
  | slotTake => exact execSlotTake_keeps s
  | recordBadKind => exact execRecordBadKind_keeps s
  | outcomeWriteComplete => exact execOutcomeWriteComplete_keeps s
  | time order => exact execTime_keeps order s
  | oneSecondTick => exact .due fun _ => .done_slots s.secondTick_slots
  | previewExhaustion event => exact execPreviewExhaustion_keeps event s
  | minutesUsedRise q => exact execMinutesUsedRise_keeps q s
  | minuteTick order => exact execMinuteTick_keeps order s
  | services => exact recordStep_keeps (fun s _ => s.servicesRecord_slots _ _) s _ _
  | events => exact recordStep_keeps (fun s f => s.eventsRecord_slots f) s _ _
  | tuneView => exact recordStep_keeps (fun s _ => s.tuneView_slots _) s _ _
  | tuneStage => exact recordStep_keeps (fun s _ => s.tuneStage_slots _) s _ _
  | release => exact recordStep_keeps (fun s _ => s.release_slots _) s _ _
  | keyWaitExpiry o => exact execKeyWaitExpiry_keeps o s
  | stagedLifetimeExpiry c => exact .due fun _ => .done_slots (s.freeContext_slots c)
  | key u => exact recordStep_keeps (fun s _ => s.keyRecord_slots _ _) s _ _
  | ageingExpiry c p => exact .due fun _ => .done_slots (s.discardHalf_slots c p)
  | buy => exact recordStep_keeps (fun s _ => s.buyRecord_slots _) s _ _
  | rights u => exact recordStep_keeps (fun s _ => s.rightsRecord_slots _ _) s _ _
  | pinUnlockEvent => exact recordStep_keeps (fun s _ => s.pinUnlockEvent_slots _) s _ _
  | pinUnlockPeriod => exact recordStep_keeps (fun s _ => s.pinUnlockPeriod_slots _) s _ _
  | pinChange => exact recordStep_keeps (fun s _ => s.pinChange_slots _) s _ _
  | lockoutTimerExpiry q => exact .due fun _ => .done_slots rfl
  | periodUnlockExpiry o => exact .due fun _ => .done_slots (s.endUnlock_slots o)
  | profile => exact recordStep_keeps (fun s _ => s.profileRecord_slots _) s _ _
  | powerStandby => exact recordStep_keeps (fun s _ => s.powerStandby_slots _) s _ _
  | powerWake => exact recordStep_keeps (fun s _ => s.powerWake_slots _) s _ _
  | publishingWriteComplete => exact execPublishingWriteComplete_keeps s
  | controlBlockWriteComplete => exact execControlBlockWriteComplete_keeps s
  | consumerIndexWrite => exact execConsumerIndexWrite_keeps s
  | mitigationDelayExpiry => exact .due fun _ => .done_slots rfl
  | statisticsTimerExpiry => exact .due fun _ => .done_slots (State.statsFallDue_slots _)
  | settingsReadComplete => exact execSettingsReadComplete_keeps s
  | journalMount => exact execJournalMount_keeps s
  | flashInhibitEnd => exact .due fun _ => .done_slots rfl
  | pageProgramComplete => exact execPageProgramComplete_keeps s
  | eraseComplete => exact execEraseComplete_keeps s
  | meteringPaceElapsed => exact .due fun _ => .done_slots rfl
  | settingsRewriteStepComplete => exact execSettingsRewriteStepComplete_keeps s
  | blinkCycle => exact .due fun _ => .done_slots rfl
  | discardedFetchComplete => exact execDiscardedFetchComplete_keeps s

theorem State.idle_slots (s : State) : s.idle.slots = s.slots := by
  unfold State.idle
  split
  · rfl
  · split <;> rfl

/-- Settles O58, by cases of the step: an empty queue leaves the slot book alone, and every command keeps R25. -/
theorem stepKeepsIntake : Obligations.StepKeepsIntake := by
  unfold Obligations.StepKeepsIntake
  intro s t hs h
  unfold step at h
  split at h
  · cases h
    exact hs.of_slots s.idle_slots
  · next c rest _ => exact exec_keepsIntake c { s with pending := rest } t h (hs.of_slots rfl)

end Sys2Proof.Machine
end

section
/-! PROOFS. Intake: a header write that takes a slot (R22, R26, R27), and the completion of an outcome write (R32, R24,
R26). -/

namespace Sys2Proof.Machine

/-! ### What selection leaves (R26) -/

/-- R26: while a record is in processing nothing is selected. -/
theorem State.select_of_processing {s : State} (h : s.intake.proc ≠ none) : s.select = s := by
  obtain ⟨p, hp⟩ := Option.ne_none_iff_exists'.mp h
  simp [State.select, hp]

theorem Intake.choose_held {i j : Intake} {n : Fin 256} (h : i.choose = some (n, j)) : j.held = i.held := by
  unfold Intake.choose at h
  split at h
  · cases h
  · cases h
    rfl
  · cases h
    rfl
  · split at h <;> cases h <;> rfl

/-- R26: selection moves a slot number; it takes and frees no slot and releases no held write. -/
theorem State.select_slots_kept (s : State) :
    s.select.intake.taken = s.intake.taken ∧ s.select.intake.held = s.intake.held := by
  by_cases hp : s.intake.proc = none
  · cases hc : s.intake.choose with
    | none => simp [State.select_of_none hp hc]
    | some c =>
      obtain ⟨n, j⟩ := c
      rw [State.select_of_some hp hc]
      exact ⟨(Intake.choose_some hc).1, (Intake.choose_held hc :)⟩
  · simp [State.select_of_processing hp]

/-- R26: a slot is selected: its number has left its queue and its fetch is the last own request. -/
theorem State.select_selects {s : State} {n : Fin 256} {j : Intake} (hp : s.intake.proc = none)
    (hc : s.intake.choose = some (n, j)) : s.select.intake = { j with proc := some ⟨n, .fetching⟩ } ∧
      s.select.port.ownAll = s.port.ownAll ++ [s.fetchRead n] := by
  rw [State.select_of_some hp hc]
  exact ⟨rfl, Port.issue_ownAll _ _⟩

/-- R27: where a slot's bytes are read follows from the configuration. -/
theorem State.fetchRead_congr {s t : State} (h : t.cfg = s.cfg) (n : Fin 256) : t.fetchRead n = s.fetchRead n := by
  simp only [State.fetchRead, State.slotAddr, h]

/-! ### SLOT_TAKE (R22) -/

theorem Intake.take_held (i : Intake) (n : Fin 256) (kind : Byte) : (i.take n kind).held = i.held := by
  unfold Intake.take
  split <;> rfl

theorem Intake.take_streak (i : Intake) (n : Fin 256) (kind : Byte) : (i.take n kind).streak = i.streak := by
  unfold Intake.take
  split <;> rfl

theorem Intake.take_urgent (i : Intake) (n : Fin 256) (kind : Byte) :
    (i.take n kind).urgent = i.urgent ++ if urgentKind kind then [n] else [] := by
  unfold Intake.take
  split <;> simp [Intake.mark]

theorem Intake.take_bulk (i : Intake) (n : Fin 256) (kind : Byte) :
    (i.take n kind).bulk = i.bulk ++ if urgentKind kind then [] else [n] := by
  unfold Intake.take
  split <;> simp [Intake.mark]

/-- R22, R26: a slot taken with both queues empty is the one that is chosen. -/
theorem Intake.take_choose {i : Intake} (hu : i.urgent = []) (hb : i.bulk = []) (n : Fin 256) (kind : Byte) :
    (i.take n kind).choose = some (n, { i.take n kind with
      urgent := [], bulk := [], streak := if urgentKind kind then min 4 (i.streak + 1) else 0 }) := by
  have hurgent := i.take_urgent n kind
  have hbulk := i.take_bulk n kind
  cases hk : urgentKind kind
  · have hu' : (i.take n kind).urgent = [] := by simp [hurgent, hu, hk]
    have hb' : (i.take n kind).bulk = [n] := by simp [hbulk, hb, hk]
    simp [Intake.choose_bulk hb' (.inr hu'), hu']
  · have hu' : (i.take n kind).urgent = [n] := by simp [hurgent, hu, hk]
    have hb' : (i.take n kind).bulk = [] := by simp [hbulk, hb, hk]
    simp [Intake.choose_urgent hu' (.inr hb'), hb', i.take_streak n kind]

/-- R3, R22: the header write has completed and the slot is taken; nothing is selected yet. -/
def State.slotEntered (s : State) (u : UpReq) (n : Fin 256) (kind : Byte) : State :=
  (s.completeWrite u).modIntake (fun i => i.take n kind)

theorem exec_slotTake {s : State} {u : UpReq} {n : Fin 256} {kind : Byte} (hu : s.servingUp = some u)
    (hc : s.completionOf u = .take n kind) : exec .slotTake s = .next (s.slotEntered u n kind).select.settle := by
  have hexec : exec .slotTake s = execSlotTake s := rfl
  rw [hexec, execSlotTake, hu]
  simp only [hc]
  rfl

theorem State.slotEntered_intake (s : State) (u : UpReq) (n : Fin 256) (kind : Byte) :
    (s.slotEntered u n kind).intake = s.intake.take n kind := by
  simp [State.slotEntered]

theorem State.slotEntered_ownAll {s : State} {u : UpReq} (hu : s.servingUp = some u) (n : Fin 256) (kind : Byte) :
    (s.slotEntered u n kind).port.ownAll = s.port.ownAll := by
  simp [State.slotEntered, State.ownAll_of_servingUp hu]

theorem State.slotEntered_frame {s : State} {u : UpReq} (hu : s.servingUp = some u) (n : Fin 256) (kind : Byte) :
    Frame [.path, .upstream, .dram, .intake] s (s.slotEntered u n kind) :=
  (State.completeWrite_frame hu u).trans (State.modIntake_frame _ _) (by decide) (by decide)

/-- Settles O17: the header write completes and the slot joins its queue (`State.slotEntered`); what the selection after
it does depends on whether a record is in processing. -/
theorem headerWriteTakesSlot : Obligations.HeaderWriteTakesSlot := by
  unfold Obligations.HeaderWriteTakesSlot
  intro s u n kind hm hu hc
  let v := s.slotEntered u n kind
  have hv : v.intake = s.intake.take n kind := s.slotEntered_intake u n kind
  have hown : v.port.ownAll = s.port.ownAll := State.slotEntered_ownAll hu n kind
  have hproc : v.intake.proc = s.intake.proc := hv ▸ s.intake.take_proc n kind
  obtain ⟨htaken, hheld⟩ := v.select_slots_kept
  have hselect := v.select_frame
  have hdram : v.select.settle.dram = s.dram.writeBytes dramDefault u.req.addr (writeData u.req) :=
    ((State.settle_dram _).trans (hselect.only .dram (by decide))).trans (State.completeWrite_dram s u)
  refine ⟨_, exec_slotTake hu hc, ?taken, ?held, ?answer, dramHolds_of_write hm _ _ hdram, ?up, ?processing, ?idle,
    ?frame⟩
  case taken =>
    rw [State.settle_intake, htaken, hv, Intake.take_taken]
  case held =>
    rw [State.settle_intake, hheld, hv, Intake.take_held]
  case answer =>
    exact ((State.settle_path _).trans (hselect.only .path (by decide))).trans (State.completeWrite_path s u)
  case up =>
    have hup : v.port.upAll = s.port.up := by simp [v, State.slotEntered]
    exact ((State.settle_upAll _).trans (hselect.only .upstream (by decide))).trans hup
  case processing =>
    intro hp
    rw [State.settle_intake, State.settle_ownAll, State.select_of_processing (hproc ▸ hp), hv]
    exact ⟨s.intake.take_urgent n kind, s.intake.take_bulk n kind, s.intake.take_streak n kind,
      s.intake.take_proc n kind, hown⟩
  case idle =>
    intro hp hurgent hbulk
    have hchoose : v.intake.choose = _ := hv ▸ Intake.take_choose hurgent hbulk n kind
    obtain ⟨hintake, hfetch⟩ := State.select_selects (hproc.trans hp) hchoose
    have hread : v.fetchRead n = s.fetchRead n :=
      State.fetchRead_congr ((State.slotEntered_frame hu n kind).only .config (by decide)) n
    rw [State.settle_intake, State.settle_ownAll, hintake, hfetch, hown, hread]
    exact ⟨rfl, rfl, rfl, rfl, rfl⟩
  case frame =>
    exact ((State.slotEntered_frame hu n kind).trans hselect (by decide) (by decide)).settle

/-! ### OUTCOME_WRITE_COMPLETE (R32) -/

/-- R32, R24: the outcome write has completed, the slot is FREE, its held writes are presented, and processing has
ended; nothing is selected yet. -/
def State.slotLeft (s : State) (r : OwnReq) (n : Fin 256) : State :=
  (((s.completeOwn r).modIntake (fun i => i.mark n false)).releaseHeld n false).modIntake
    (fun i => { i with proc := none })

theorem exec_outcomeWriteComplete {s : State} {r : OwnReq} {n : Fin 256} (hr : s.servingOwn = some r)
    (hn : r.what = .outcome n) : exec .outcomeWriteComplete s =
      .next (if r.void then s.completeOwn r else (s.slotLeft r n).select).settle := by
  have hexec : exec .outcomeWriteComplete s = execOutcomeWriteComplete s := rfl
  rw [hexec, execOutcomeWriteComplete, hr]
  simp only [hn]
  split <;> rfl

theorem State.slotLeft_intake (s : State) (r : OwnReq) (n : Fin 256) : (s.slotLeft r n).intake = { s.intake with
    taken := s.intake.taken.set n false
    held := s.intake.held.filter (fun h => h.1 ≠ n)
    proc := none } := rfl

theorem State.slotLeft_ownAll (s : State) (r : OwnReq) (n : Fin 256) : (s.slotLeft r n).port.ownAll = s.port.own := rfl

theorem State.slotLeft_upAll (s : State) (r : OwnReq) (n : Fin 256) : (s.slotLeft r n).port.upAll =
    s.port.up ++ (s.intake.held.filter (fun h => h.1 = n)).map (·.2) := by
  simp only [State.slotLeft, State.releaseHeld, State.modIntake_port, Port.appendUp_upAll, Bool.or_false]
  rfl

theorem State.releaseHeld_frame (s : State) (n : Fin 256) (lost : Bool) :
    Frame [.upstream, .intake] s (s.releaseHeld n lost) :=
  ⟨by simp [onlyChanges, Area.forall_iff, Area.same, State.releaseHeld], rfl⟩

theorem State.slotLeft_frame {s : State} {r : OwnReq} (hr : s.servingOwn = some r) (n : Fin 256) :
    Frame [.upstream, .own, .intake, .dram] s (s.slotLeft r n) := by
  have hmark := (State.completeOwn_frame hr r).trans (State.modIntake_frame _ (fun i => i.mark n false))
    (cs := [.own, .intake, .dram]) (by decide) (by decide)
  exact (hmark.trans (State.releaseHeld_frame _ n false) (by decide) (by decide)).trans (State.modIntake_frame _ _)
    (List.Subset.refl _) (by decide)

/-- Settles O18: a void write only reaches DRAM; another one frees the slot and releases its held writes
(`State.slotLeft`), and the selection after it follows Intake's choice. -/
theorem outcomeWriteFreesSlotAndSelects : Obligations.OutcomeWriteFreesSlotAndSelects := by
  unfold Obligations.OutcomeWriteFreesSlotAndSelects
  intro s r n hm hr hn
  have hexec := exec_outcomeWriteComplete hr hn
  refine ⟨fun hv => ?_, fun hv => ?_⟩
  · rw [hv, if_pos rfl] at hexec
    refine ⟨_, hexec, dramHolds_of_write hm _ _ ?_, ?_, (State.completeOwn_frame hr r).settle⟩
    · exact (State.settle_dram _).trans (State.completeOwn_dram s r)
    · exact State.settle_ownAll _
  · rw [hv, if_neg Bool.false_ne_true] at hexec
    let v := s.slotLeft r n
    have hintake : v.intake = _ := s.slotLeft_intake r n
    have hproc : v.intake.proc = none := congrArg Intake.proc hintake
    have hown : v.port.ownAll = s.port.own := s.slotLeft_ownAll r n
    obtain ⟨htaken, hheld⟩ := v.select_slots_kept
    have hselect := v.select_frame
    have hselected (x : Fin 256) (j : Intake) (hc : v.intake.choose = some (x, j)) :
        v.select.settle.intake = { j with proc := some ⟨x, .fetching⟩ } ∧
          v.select.settle.port.ownAll = s.port.own ++ [s.fetchRead x] := by
      obtain ⟨hchosen, hfetch⟩ := State.select_selects hproc hc
      rw [hown] at hfetch
      exact ⟨(State.settle_intake _).trans hchosen, (State.settle_ownAll _).trans hfetch⟩
    refine ⟨_, hexec, dramHolds_of_write hm _ _ ?dram, ?taken, ?held, ?up, ?none, ?urgent, ?bulk, ?frame⟩
    case dram =>
      exact ((State.settle_dram _).trans (hselect.only .dram (by decide))).trans (State.completeOwn_dram s r)
    case taken =>
      rw [State.settle_intake, htaken, hintake]
    case held =>
      rw [State.settle_intake, hheld, hintake]
    case up =>
      exact ((State.settle_upAll _).trans (hselect.only .upstream (by decide))).trans (s.slotLeft_upAll r n)
    case none =>
      intro hu hb
      have hc : v.intake.choose = none := Intake.choose_empty hu hb
      rw [State.settle_intake, State.settle_ownAll, State.select_of_none hproc hc, hown, hintake]
      exact ⟨rfl, hu, hb, rfl, rfl⟩
    case urgent =>
      intro x xs hu h
      obtain ⟨hchosen, hfetch⟩ := hselected x _ (Intake.choose_urgent (i := v.intake) hu h)
      rw [hchosen, hfetch]
      exact ⟨rfl, rfl, rfl, rfl, rfl⟩
    case bulk =>
      intro x xs hb h
      obtain ⟨hchosen, hfetch⟩ := hselected x _ (Intake.choose_bulk (i := v.intake) hb h)
      rw [hchosen, hfetch]
      exact ⟨rfl, rfl, rfl, rfl, rfl⟩
    case frame =>
      exact ((State.slotLeft_frame hr n).trans hselect (by decide) (by decide)).settle

end Sys2Proof.Machine
end

section
/-! PROOFS. The event pool (R47, R50, R51): what storing an event can do, and what it leaves of the pool. -/

namespace Sys2Proof.Machine

/-! ### One event against another -/

theorem GuideEvent.yields_comm (x y : GuideEvent) : x.yields y = y.yields x := by
  rw [Bool.eq_iff_iff]
  simp only [GuideEvent.yields, GuideEvent.overlaps, Bool.and_eq_true, Bool.or_eq_true, decide_eq_true_eq]
  constructor <;> rintro ⟨hs, h⟩ <;> exact ⟨hs.symm, h.imp And.symm Eq.symm⟩

theorem insertEvent_perm (e : GuideEvent) (es : List GuideEvent) : (insertEvent e es).Perm (e :: es) := by
  induction es with
  | nil => exact List.Perm.refl _
  | cons x xs ih =>
    unfold insertEvent
    split
    · exact List.Perm.refl _
    · exact (ih.cons x).trans (List.Perm.swap e x xs)

/-- R51: the event that is evicted for an incoming one is a stored one. -/
theorem latestStart_mem {es : List GuideEvent} {x : GuideEvent} (h : latestStart es = some x) : x ∈ es := by
  induction es with
  | nil => cases h
  | cons e es ih =>
    unfold latestStart at h
    split at h
    · cases h
      exact List.mem_cons_self
    · next b hb =>
      split at h
      · exact List.mem_cons_of_mem _ (ih (hb.trans h))
      · cases h
        exact List.mem_cons_self

/-! ### What storing one event can do -/

/-- R50, R51: an incoming event is dropped, with the events it removes gone or not; or it joins the events it does not
remove, of which a stored one may have left for it, and then it finds room. -/
inductive StoreEffect (w : Storing) (e : GuideEvent) : Storing → Prop
  | dropped : StoreEffect w e w.drop
  | cleared : StoreEffect w e (w.clearFor e).drop
  | joined (room : (w.clearFor e).guide.pool.length < 4096) : StoreEffect w e ((w.clearFor e).insert e)
  | evicted (x : GuideEvent) (stored : x ∈ (w.clearFor e).guide.pool) :
      StoreEffect w e (((w.clearFor e).evict x).insert e)

theorem Storing.store_effect (w : Storing) (e : GuideEvent) : StoreEffect w e (w.store e) := by
  unfold Storing.store
  split
  · exact .dropped
  · dsimp only
    split
    · next h => exact .joined h
    · unfold Storing.squeeze
      split
      · exact .cleared
      · next x hx =>
        split
        · exact .evicted x (latestStart_mem hx)
        · exact .cleared

theorem Storing.mem_clearFor {w : Storing} {e x : GuideEvent} :
    x ∈ (w.clearFor e).guide.pool ↔ x ∈ w.guide.pool ∧ x.yields e = false := by
  simp [Storing.clearFor]

theorem Storing.clearFor_length (w : Storing) (e : GuideEvent) :
    (w.clearFor e).guide.pool.length ≤ w.guide.pool.length := List.length_filter_le _ _

theorem Storing.evict_length {w : Storing} {x : GuideEvent} (h : x ∈ w.guide.pool) :
    (w.evict x).guide.pool.length < w.guide.pool.length :=
  List.length_filter_lt_length_iff_exists.mpr ⟨x, h, by simp⟩

theorem Storing.insert_pool (w : Storing) (e : GuideEvent) : (w.insert e).guide.pool.Perm (e :: w.guide.pool) :=
  insertEvent_perm e w.guide.pool

theorem Storing.mem_insert {w : Storing} {e x : GuideEvent} :
    x ∈ (w.insert e).guide.pool ↔ x = e ∨ x ∈ w.guide.pool :=
  (w.insert_pool e).mem_iff.trans List.mem_cons

/-- R47: the pool holds no two events of one service that share a minute or an id. -/
def PoolDisjoint (es : List GuideEvent) : Prop := es.Pairwise (fun x y => x.yields y = false)

theorem PoolDisjoint.filter {es : List GuideEvent} (h : PoolDisjoint es) (p : GuideEvent → Bool) :
    PoolDisjoint (es.filter p) := List.Pairwise.filter p h

/-- R50: an event joins a disjoint pool none of whose events gives way to it. -/
theorem PoolDisjoint.insert {w : Storing} {e : GuideEvent} (h : PoolDisjoint w.guide.pool)
    (he : ∀ x ∈ w.guide.pool, x.yields e = false) : PoolDisjoint (w.insert e).guide.pool := by
  have hcons : PoolDisjoint (e :: w.guide.pool) :=
    List.pairwise_cons.mpr ⟨fun x hx => (GuideEvent.yields_comm e x).trans (he x hx), h⟩
  exact ((w.insert_pool e).pairwise_iff (fun {x y} hxy => (GuideEvent.yields_comm y x).trans hxy)).mpr hcons

theorem StoreEffect.disjoint {w t : Storing} {e : GuideEvent} (h : StoreEffect w e t)
    (hd : PoolDisjoint w.guide.pool) : PoolDisjoint t.guide.pool := by
  have hclear : PoolDisjoint (w.clearFor e).guide.pool := hd.filter _
  cases h with
  | dropped => exact hd
  | cleared => exact hclear
  | joined => exact hclear.insert fun x hx => (Storing.mem_clearFor.mp hx).2
  | evicted y =>
    refine PoolDisjoint.insert (hclear.filter _) fun x hx => ?_
    exact (Storing.mem_clearFor.mp (List.mem_of_mem_filter hx)).2

theorem StoreEffect.length {w t : Storing} {e : GuideEvent} (h : StoreEffect w e t)
    (hl : w.guide.pool.length ≤ 4096) : t.guide.pool.length ≤ 4096 := by
  have hclear := w.clearFor_length e
  cases h with
  | dropped => exact hl
  | cleared => exact hclear.trans hl
  | joined room => simpa [(Storing.insert_pool _ e).length_eq] using room
  | evicted x hx =>
    have hroom := Storing.evict_length hx
    rw [(Storing.insert_pool _ e).length_eq, List.length_cons]
    omega

theorem StoreEffect.mem_pool {w t : Storing} {e : GuideEvent} (h : StoreEffect w e t) {x : GuideEvent}
    (hx : x ∈ t.guide.pool) : x = e ∨ x ∈ w.guide.pool := by
  cases h with
  | dropped => exact .inr hx
  | cleared => exact .inr (Storing.mem_clearFor.mp hx).1
  | joined =>
    exact (Storing.mem_insert.mp hx).imp_right fun h => (Storing.mem_clearFor.mp h).1
  | evicted y =>
    exact (Storing.mem_insert.mp hx).imp_right fun h => (Storing.mem_clearFor.mp (List.mem_of_mem_filter h)).1

/-- Settles O25: by the cases of what storing an event can do. -/
theorem storingKeepsPoolDisjoint : Obligations.StoringKeepsPoolDisjoint := by
  intro w e hd hl
  have h := w.store_effect e
  exact ⟨h.disjoint hd, h.length hl, fun x hx => h.mem_pool hx⟩

end Sys2Proof.Machine
end

section
/-! PROOFS. The 1-second tick (R37, R40, R123, R124, R165): the clock, the previewed seconds, the accumulators, and what
falls due. -/

namespace Sys2Proof.Machine

/-! ### Metering (R165) -/

/-- R165: profile `q` after one second. -/
def State.metered (s : State) (q : Fin 6) : Profile :=
  if s.viewersOn q = [] then s.profiles[q]
  else { s.profiles[q] with
    accumulator := if (s.profiles[q]).accumulator < 59 then (s.profiles[q]).accumulator + 1 else 0 }

/-- R165: the rises of minutes-used that fall due at this second, of the listed profiles. -/
def State.rises (s : State) (qs : List (Fin 6)) : List (Fin 6 × List (Fin 6)) :=
  (qs.filter (fun q => !(s.viewersOn q).isEmpty && decide (59 ≤ (s.profiles[q]).accumulator))).map
    (fun q => (q, s.viewersOn q))

theorem State.rises_cons (s : State) (q : Fin 6) (qs : List (Fin 6)) :
    s.rises (q :: qs) = s.rises [q] ++ s.rises qs := by
  rw [← List.singleton_append, State.rises, List.filter_append, List.map_append]
  rfl

theorem State.viewersOn_congr {s t : State} (hc : t.cfg = s.cfg) (ho : t.outs = s.outs)
    (hn : t.ticks.now = s.ticks.now) (q : Fin 6) : t.viewersOn q = s.viewersOn q := by
  have hview : t.inView = s.inView := funext fun o => by simp only [State.inView, ho, hn]
  have hcfg : t.outCfg = s.outCfg := funext fun o => by simp only [State.outCfg, hc]
  simp only [State.viewersOn, State.boundTo, hcfg, hview]

/-- R165: what metering one profile does. -/
theorem State.meter_eq (s : State) (q : Fin 6) : s.meter q = { s with
    profiles := s.profiles.set q (s.metered q)
    ticks := { s.ticks with riseDue := s.ticks.riseDue ++ s.rises [q] } } := by
  unfold State.meter State.metered State.rises
  by_cases hv : s.viewersOn q = []
  · simp [hv]
  · by_cases ha : (s.profiles[q]).accumulator < 59
    · simp [-Fin.getElem_fin, hv, ha, State.modProfile, Nat.not_le.mpr ha]
    · simp [-Fin.getElem_fin, hv, ha, State.modProfile, Nat.not_lt.mp ha]

/-- R165: what metering several profiles does: each is metered as it stood before. -/
theorem State.foldl_meter {qs : List (Fin 6)} (hq : qs.Nodup) (s : State) : ∃ ps : Vector Profile 6,
    qs.foldl State.meter s = { s with
      profiles := ps
      ticks := { s.ticks with riseDue := s.ticks.riseDue ++ s.rises qs } } ∧
    ∀ q : Fin 6, ps[q] = if q ∈ qs then s.metered q else s.profiles[q] := by
  induction qs generalizing s with
  | nil => exact ⟨s.profiles, by simp [State.rises], by simp⟩
  | cons q qs ih =>
    obtain ⟨hnot, hrest⟩ := List.nodup_cons.mp hq
    obtain ⟨ps, heq, hps⟩ := ih hrest (s.meter q)
    have hview (x : Fin 6) : (s.meter q).viewersOn x = s.viewersOn x :=
      State.viewersOn_congr (by rw [State.meter_eq]) (by rw [State.meter_eq]) (by rw [State.meter_eq]) x
    have hsame : (s.meter q).profiles[q] = s.metered q := by rw [State.meter_eq]; simp
    have hother {x : Fin 6} (h : x ≠ q) : (s.meter q).profiles[x] = s.profiles[x] := by
      rw [State.meter_eq]
      exact Vector.getElem_set_ne q.isLt x.isLt fun e => h (Fin.ext e.symm)
    have hmetered {x : Fin 6} (h : x ≠ q) : (s.meter q).metered x = s.metered x := by
      simp only [State.metered, hview, hother h]
    have hrises : (s.meter q).rises qs = s.rises qs := by
      simp only [State.rises, hview]
      refine congrArg _ (List.filter_congr fun x hx => ?_)
      rw [hother (fun e => hnot (e ▸ hx))]
    refine ⟨ps, ?_, fun x => ?_⟩
    · rw [List.foldl_cons, heq, hrises, State.rises_cons, State.meter_eq, List.append_assoc]
    · rw [hps x]
      by_cases h : x = q
      · subst h
        simp [hnot, hsame]
      · simp [h, hmetered h, hother h]

/-! ### Preview accrual and exhaustions (R123, R124) -/

/-- R123: the preview entries after one second. -/
def State.gained (s : State) : List PreviewEntry :=
  s.access.previews.map (fun x => if s.previewing x.event then x.gain else x)

/-- R124: the events that fall due at this second. -/
def State.newlyExhausted (s : State) : List Nat :=
  (((s.gained.filter (fun x =>
    s.previewing x.event && !(s.exhaustedHalves x.event x.seconds).isEmpty)).map (·.event)).filter
    (fun e => !s.ticks.exhaustDue.contains e))

theorem State.accrue_eq (s : State) : s.accrue = { s with
    access := { s.access with previews := s.gained }
    ticks := { s.ticks with exhaustDue := s.ticks.exhaustDue ++ s.newlyExhausted } } := rfl

theorem mem_allContexts (c : Fin 8) : c ∈ allContexts := by fin_cases c <;> simp [allContexts]

theorem mem_allProfiles (q : Fin 6) : q ∈ allProfiles := by fin_cases q <;> simp [allProfiles]

theorem mem_allOutputs (o : Fin 6) : o ∈ allOutputs := by fin_cases o <;> simp [allOutputs]

theorem mem_allHalves (l : HalfPlace) : l ∈ allHalves := by
  obtain ⟨c, p⟩ := l
  refine List.mem_flatMap.mpr ⟨c, mem_allContexts c, ?_⟩
  cases p <;> simp

theorem Half.eventCriteria_eq_some {h : Half} {e : EventCriteria} :
    h.eventCriteria = some e ↔ h.criteria = .event e := by
  unfold Half.eventCriteria
  split <;> simp_all

/-- R124: a half is exhausted where it is in PREVIEW and the seconds reach the allowance of its event. -/
theorem Half.exhaustedAt_iff (h : Half) (event seconds : Nat) : h.exhaustedAt event seconds = true ↔
    h.verdict = .preview ∧
      ∃ e : EventCriteria, h.criteria = .event e ∧ e.event = event ∧ e.preview * 60 ≤ seconds := by
  simp only [Half.exhaustedAt, Bool.and_eq_true, decide_eq_true_eq, Option.any_eq_true, Half.eventCriteria_eq_some]

/-- R124: some half of the event is exhausted at a count of seconds. -/
theorem State.exhaustedHalves_iff (s : State) (event seconds : Nat) :
    (s.exhaustedHalves event seconds).isEmpty = false ↔
      ∃ (c : Fin 8) (p : HalfParity) (h : Half) (e : EventCriteria), (s.ctxs[c]).half p = some h ∧
        h.verdict = .preview ∧ h.criteria = .event e ∧ e.event = event ∧ e.preview * 60 ≤ seconds := by
  simp only [State.exhaustedHalves, List.isEmpty_eq_false_iff_exists_mem, List.mem_filter,
    Option.any_eq_true, Half.exhaustedAt_iff]
  constructor
  · rintro ⟨⟨c, p⟩, -, h, hh, hv, e, he⟩
    exact ⟨c, p, h, e, hh, hv, he⟩
  · rintro ⟨c, p, h, e, hh, hv, he⟩
    exact ⟨(c, p), mem_allHalves _, h, hh, hv, e, he⟩

/-- R124: what falls due at this second, or was due before it. -/
theorem State.mem_newlyExhausted (s : State) (id : Nat) :
    id ∈ s.ticks.exhaustDue ++ s.newlyExhausted ↔ id ∈ s.ticks.exhaustDue ∨
      ∃ x ∈ s.access.previews, x.event = id ∧ s.previewing id = true ∧
        ∃ (c : Fin 8) (p : HalfParity) (h : Half) (e : EventCriteria), (s.ctxs[c]).half p = some h ∧
          h.verdict = .preview ∧ h.criteria = .event e ∧ e.event = id ∧
          e.preview * 60 ≤ min 3600 (x.seconds + 1) := by
  have hgain (x : PreviewEntry) (h : s.previewing x.event = true) :
      (if s.previewing x.event then x.gain else x) = x.gain := if_pos h
  have hevent (x : PreviewEntry) : (if s.previewing x.event then x.gain else x).event = x.event := by
    split <;> rfl
  simp only [List.mem_append, State.newlyExhausted, State.gained, List.mem_filter, List.mem_map, Bool.and_eq_true,
    Bool.not_eq_true', State.exhaustedHalves_iff, List.contains_eq_mem, decide_eq_false_iff_not]
  constructor
  · rintro (h | ⟨⟨_, ⟨⟨x, hx, rfl⟩, hp, hh⟩, rfl⟩, -⟩)
    · exact .inl h
    · rw [hevent] at hp
      rw [hgain x hp] at hh
      rw [hevent]
      exact .inr ⟨x, hx, rfl, hp, hh⟩
  · rintro (h | ⟨x, hx, rfl, hp, hh⟩)
    · exact .inl h
    · by_cases hin : x.event ∈ s.ticks.exhaustDue
      · exact .inl hin
      · refine .inr ⟨⟨x.gain, ⟨⟨x, hx, hgain x hp⟩, hp, hh⟩, rfl⟩, hin⟩

/-! ### The 1-second tick -/

theorem State.clockSecond_eq (s : State) : s.clockSecond = { s with
    guide := s.guide.second
    ticks := { s.ticks with minuteDue :=
      if s.guide.second.nowMinute = s.guide.nowMinute then s.ticks.minuteDue
      else s.ticks.minuteDue.or (some s.currentEvents) } } := by
  by_cases h : s.guide.second.nowMinute = s.guide.nowMinute
  · rw [if_pos h]
    exact if_pos h
  · rw [if_neg h]
    exact if_neg h

theorem exec_oneSecondTick {s : State} (h : s.secondDue = true) :
    exec .oneSecondTick s = .next s.secondTick.settle := by
  have hexec : exec .oneSecondTick s = execOneSecondTick s := rfl
  rw [hexec, execOneSecondTick, if_pos h, done]

/-- What a 1-second tick does, on the values before it: nothing that one part of it reads is what another writes. -/
theorem State.secondTick_eq (s : State) : ∃ ps : Vector Profile 6,
    s.secondTick = { s with
      guide := s.guide.second
      access := { s.access with previews := s.gained }
      profiles := ps
      ticks := { s.ticks with
        seconds := s.ticks.seconds + 1
        minuteDue := if s.guide.second.nowMinute = s.guide.nowMinute then s.ticks.minuteDue
          else s.ticks.minuteDue.or (some s.currentEvents)
        exhaustDue := s.ticks.exhaustDue ++ s.newlyExhausted
        riseDue := s.ticks.riseDue ++ s.rises allProfiles } } ∧
    ∀ q : Fin 6, ps[q] = s.metered q := by
  let u : State := ({ s with ticks := { s.ticks with seconds := s.ticks.seconds + 1 } }).clockSecond.accrue
  obtain ⟨ps, heq, hps⟩ := State.foldl_meter (qs := allProfiles) (by decide) u
  have hu : u = _ := State.accrue_eq _
  rw [State.clockSecond_eq] at hu
  refine ⟨ps, ?_, fun q => ?_⟩
  · rw [State.secondTick, heq, hu]
    rfl
  · rw [hps q, if_pos (mem_allProfiles q), hu]
    rfl

/-- Settles O21: each part of the tick reads values that the others leave alone (`State.secondTick_eq`). -/
theorem secondTickAdvancesClockAndMeters : Obligations.SecondTickAdvancesClockAndMeters := by
  unfold Obligations.SecondTickAdvancesClockAndMeters
  intro s h
  obtain ⟨ps, heq, hps⟩ := s.secondTick_eq
  refine ⟨_, exec_oneSecondTick h, ?_⟩
  have hframe : Frame [.time, .guide, .access, .profiles] s s.secondTick := by
    rw [heq]
    exact ⟨by simp [onlyChanges, Area.forall_iff, Area.same], rfl⟩
  simp only [State.settle_guide, State.settle_ticks, State.settle_access, State.settle_profiles]
  rw [heq] at hframe ⊢
  refine ⟨rfl, rfl, rfl, rfl, rfl, hps, rfl, ?_, s.mem_newlyExhausted, hframe.settle⟩
  change (if s.guide.second.nowMinute = s.guide.nowMinute then s.ticks.minuteDue
    else s.ticks.minuteDue.or (some s.currentEvents)).isSome = true ↔
      s.ticks.minuteDue.isSome = true ∨ s.guide.second.nowMinute ≠ s.guide.nowMinute
  split
  · next hm => simp [hm]
  · next hm => simp [hm]

end Sys2Proof.Machine
end

section
/-! PROOFS. Gates that follow a record of Guide Tables (R46, R53, R176): whose gates are evaluated, what an evaluation
leaves of the other outputs, and how a record that moved gates is answered (R31, R32, R182). -/

namespace Sys2Proof.Machine

/-! ### Outputs that are not evaluated -/

theorem State.offerOrNone_others (s : State) {o x : Fin 6} (h : o ≠ x) : (s.offerOrNone o).outs[x] = s.outs[x] := by
  unfold State.offerOrNone State.dropOffer State.makeOffer
  split
  · rw [State.modOut_get, if_neg h]
  · split
    · rw [State.modOut_get, if_neg h]
    · rw [State.modOut_get, if_neg h, State.notify_outs]

theorem State.handValue_others (s : State) {o x : Fin 6} (h : o ≠ x) (g : Gate) :
    (s.handValue o g).outs[x] = s.outs[x] := by
  unfold State.handValue
  split
  · split
    · exact s.offerOrNone_others h
    · split
      · rfl
      · exact s.offerOrNone_others h
  · rw [State.dropOffer, State.modOut_get, if_neg h]

theorem State.reportGate_others (s : State) {o x : Fin 6} (h : o ≠ x) (c : GateCause) :
    (s.reportGate o c).outs[x] = s.outs[x] := by
  unfold State.reportGate
  split
  · rfl
  · split
    · rfl
    · rw [State.modOut_get, if_neg h, State.notify_outs]

theorem State.clearStaleUnlock_others (s : State) {o x : Fin 6} (h : o ≠ x) :
    (s.clearStaleUnlock o).outs[x] = s.outs[x] := by
  unfold State.clearStaleUnlock
  split
  · rfl
  · rw [State.modOut_get, if_neg h]

/-- R176: an evaluation leaves every other output as it is. -/
theorem State.evaluate_others (s : State) (c : GateCause) (d : Bool) {o x : Fin 6} (h : o ≠ x) :
    (s.evaluate c d o).outs[x] = s.outs[x] := by
  have hset (g : Gate) : ((s.clearStaleUnlock o).setGate o g).outs[x] = s.outs[x] := by
    rw [State.setGate, State.modOut_get, if_neg h, State.clearStaleUnlock_others s h]
  unfold State.evaluate
  split
  · rw [State.gateIdle, State.modOut_get, if_neg h]
  · rw [State.handValue_others _ h]
    split
    · exact hset _
    · rw [State.reportGate_others _ h, hset]

theorem State.evaluateAll_others (s : State) (c : GateCause) (d : Bool) {os : List (Fin 6)} {x : Fin 6} (h : x ∉ os) :
    (s.evaluateAll c d os).outs[x] = s.outs[x] := by
  induction os generalizing s with
  | nil => rfl
  | cons o os ih =>
    obtain ⟨hne, hnot⟩ := not_or.mp (mt List.mem_cons.mpr h)
    exact (ih (s.evaluate c d o) hnot).trans (s.evaluate_others c d (Ne.symm hne))

/-! ### Members of the contexts of services (R46, R53) -/

theorem Context.isActive_iff (c : Context) : c.isActive = true ↔ ∃ u : Tuning, c.life = .active u := by
  unfold Context.isActive
  split <;> simp_all

theorem Context.tuning_of_active {c : Context} {u : Tuning} (h : c.life = .active u) : c.tuning = some u := by
  simp [Context.tuning, h]

/-- The members of the ACTIVE contexts of listed services, as the statements say it. -/
theorem State.mem_membersOfServices {s : State} {svcs : List Nat} {x : Fin 6} :
    x ∈ s.membersOfServices svcs ↔ memberOfService (· ∈ svcs) s x := by
  simp only [State.membersOfServices, State.membersWhere, List.mem_filter, List.any_eq_true, Bool.and_eq_true,
    List.contains_iff_mem, mem_allOutputs, mem_allContexts, true_and, Context.isActive_iff]
  constructor
  · rintro ⟨c, ⟨⟨u, hu⟩, hs⟩, hm⟩
    rw [Context.tuning_of_active hu] at hs
    exact ⟨c, u, hu, hm, List.contains_iff_mem.mp hs⟩
  · rintro ⟨c, u, hu, hm, hs⟩
    refine ⟨c, ⟨⟨u, hu⟩, ?_⟩, hm⟩
    rw [Context.tuning_of_active hu]
    exact List.contains_iff_mem.mpr hs

theorem memberOfService.mono {P Q : Nat → Prop} {s t : State} {x : Fin 6} (h : memberOfService P s x)
    (hc : t.ctxs = s.ctxs) (hpq : ∀ svc : Nat, P svc → Q svc) : memberOfService Q t x := by
  obtain ⟨c, u, hu, hm, hp⟩ := h
  exact ⟨c, u, hc ▸ hu, hc ▸ hm, hpq _ hp⟩

theorem State.mem_currentEvents {s : State} {b : CurrentOf} : b ∈ s.currentEvents ↔
    (∃ (c : Fin 8) (u : Tuning), (s.ctxs[c]).life = .active u ∧ u.service = b.service) ∧
      b.event = (s.guide.currentEvent b.service).map (fun e => (e.id, e.rating)) := by
  simp only [State.currentEvents, List.mem_map, List.mem_dedup, List.mem_filterMap]
  constructor
  · rintro ⟨svc, ⟨c, -, hc⟩, rfl⟩
    split at hc
    · next u hu =>
      cases hc
      exact ⟨⟨c, u, hu, rfl⟩, rfl⟩
    · cases hc
    · cases hc
  · rintro ⟨⟨c, u, hu, hs⟩, he⟩
    exact ⟨b.service, ⟨c, mem_allContexts c, by rw [hu, ← hs]⟩, by rw [← he]⟩

theorem State.mem_changedCurrent {s : State} {before : List CurrentOf} {svc : Nat} :
    svc ∈ s.changedCurrent before ↔ ∃ b ∈ before, b.service = svc ∧
      b.event ≠ (s.guide.currentEvent svc).map (fun e => (e.id, e.rating)) := by
  simp only [State.changedCurrent, List.mem_map, List.mem_filter, decide_eq_true_eq]
  constructor
  · rintro ⟨b, ⟨hb, hne⟩, rfl⟩
    exact ⟨b, hb, rfl, hne⟩
  · rintro ⟨b, hb, rfl, hne⟩
    exact ⟨b, ⟨hb, hne⟩, rfl⟩

/-- R53: with the current events of before at hand, the outputs evaluated are the members of the services whose current
event changed. -/
theorem State.mem_followCurrent {s u : State} (hc : u.ctxs = s.ctxs) {x : Fin 6} :
    x ∈ u.membersOfServices (u.changedCurrent s.currentEvents) ↔ memberOfService (currentChanged s u) u x := by
  rw [State.mem_membersOfServices]
  constructor
  · rintro ⟨c, v, hv, hm, hs⟩
    obtain ⟨b, hb, hsvc, hne⟩ := State.mem_changedCurrent.mp hs
    obtain ⟨-, he⟩ := State.mem_currentEvents.mp hb
    rw [he, hsvc] at hne
    exact ⟨c, v, hv, hm, hne.symm⟩
  · rintro ⟨c, v, hv, hm, hne⟩
    refine ⟨c, v, hv, hm, State.mem_changedCurrent.mpr ⟨⟨v.service, _⟩, ?_, rfl, hne.symm⟩⟩
    exact State.mem_currentEvents.mpr ⟨⟨c, v, hc ▸ hv, rfl⟩, rfl⟩

/-! ### The end of a command that moved gates -/

/-- What the end of a command leaves alone: all that the statements about gates, verdicts and tables read. -/
structure EndOf (u t : State) : Prop where
  part : t.part = u.part
  ticks : t.ticks = u.ticks
  cfg : t.cfg = u.cfg
  guide : t.guide = u.guide
  ctxs : t.ctxs = u.ctxs
  outs : t.outs = u.outs
  rights : t.rights = u.rights
  access : t.access = u.access
  profiles : t.profiles = u.profiles

theorem State.settle_end (u : State) : EndOf u u.settle := by constructor <;> simp

theorem State.finishRecord_end (u : State) {f : Fetched} (ha : f.attached = true) (ws : List OwnReq) (out : Outcome) :
    EndOf u (u.finishRecord f ws out).settle := by
  rw [State.finishRecord_attached u ha]
  constructor <;> simp

theorem EndOf.view {u t : State} (h : EndOf u t) (x : Fin 6) : GateView x u t :=
  ⟨h.cfg, h.guide, h.rights, h.profiles, h.ctxs, by rw [h.outs], by rw [h.outs], by rw [h.outs]⟩

theorem EndOf.gateFollows {u t : State} (h : EndOf u t) {x : Fin 6} (hx : gateFollows u x) : gateFollows t x := by
  intro v hv
  rw [(h.view x).gateInputs, h.outs]
  exact hx v (h.outs ▸ hv)

/-- Notices join the own requests behind those that waited. -/
structure Noticed (s t : State) : Prop where
  port : ∃ rs : List OwnReq, t.port = { s.port with own := s.port.own ++ rs } ∧ ∀ r ∈ rs, r.what.ofNotices = true

theorem Noticed.of_port {s t : State} (h : t.port = s.port) : Noticed s t := ⟨[], by simp [h], by simp⟩

theorem Noticed.trans {s t u : State} (h : Noticed s t) (k : Noticed t u) : Noticed s u := by
  obtain ⟨rs, e1, n1⟩ := h.port
  obtain ⟨qs, e2, n2⟩ := k.port
  refine ⟨rs ++ qs, by rw [e2, e1, List.append_assoc], fun r hr => ?_⟩
  exact (List.mem_append.mp hr).elim (n1 r) (n2 r)

theorem GateWork.noticed {s t : State} (h : GateWork s t) : Noticed s t := ⟨h.port⟩

theorem VerdictWork.noticed {s t : State} (h : VerdictWork s t) : Noticed s t := .of_port h.port

/-- R182, R31, R32: a record whose effect handed over notices is answered after them. -/
theorem State.finishRecord_after {s u : State} {f : Fetched} (ha : f.attached = true) (hn : Noticed s.freePort u)
    (hc : u.cfg = s.cfg) (hi : u.intake = s.intake) (k : Kind) (out : Outcome) :
    answeredAfter f k out s (u.finishRecord f (u.scrubWrites f.slot k) out).settle := by
  obtain ⟨rs, hport, hrs⟩ := hn.port
  have hown : u.port.ownAll = s.port.own ++ rs := by rw [hport]; rfl
  have haddr (n : Fin 256) : u.slotAddr n = s.slotAddr n := by simp only [State.slotAddr, hc]
  rw [State.finishRecord_attached u ha]
  refine ⟨⟨rs, hrs, ?_⟩, by simp [hi]⟩
  simp [hown, State.scrubWrites, State.outcomeWrite, State.slotWrite, haddr]

end Sys2Proof.Machine
end

section
/-! PROOFS. EVENTS records (R49, R50, R53 to R55): what storing a section leaves of Guide Tables, and the obligation
about EVENTS. -/

namespace Sys2Proof.Machine

/-! ### Map entries (R42) -/

theorem Guide.entry_service {g : Guide} {svc : Nat} {e : MapEntry} (h : g.entry svc = some e) : e.service = svc := by
  simpa using List.find?_some h

/-- R42: a change of the entries that keeps their services is seen in each entry. -/
theorem Guide.entry_map (g : Guide) {f : MapEntry → MapEntry} (hf : ∀ e, (f e).service = e.service) (svc : Nat) :
    ({ g with map := g.map.map f } : Guide).entry svc = (g.entry svc).map f := by
  have hp : (fun e : MapEntry => decide (e.service = svc)) ∘ f = fun e => decide (e.service = svc) :=
    funext fun e => by simp only [Function.comp_apply, hf]
  unfold Guide.entry
  rw [List.find?_map, hp]

theorem Guide.entry_setVersion (g : Guide) (svc version x : Nat) : (g.setVersion svc version).entry x =
    (g.entry x).map (fun e => if e.service = svc then { e with version := some version } else e) :=
  g.entry_map (fun e => by split <;> rfl) x

theorem Guide.entry_setVersion_same {g : Guide} {svc : Nat} {e : MapEntry} (h : g.entry svc = some e) (version : Nat) :
    ((g.setVersion svc version).entry svc).bind (·.version) = some version := by
  rw [Guide.entry_setVersion, h]
  simp [Guide.entry_service h]

theorem Guide.entry_setVersion_other (g : Guide) (version : Nat) {svc x : Nat} (h : x ≠ svc) :
    (g.setVersion svc version).entry x = g.entry x := by
  rw [Guide.entry_setVersion]
  cases he : g.entry x with
  | none => rfl
  | some e => simp [Guide.entry_service he, h]

/-! ### Storing a section (R50, R55) -/

/-- Of Guide Tables, storing events changes the pool and two counters alone. -/
structure PoolWork (g h : Guide) : Prop where
  clock : h.clock = g.clock
  map : h.map = g.map
  accepted : h.counters.accepted = g.counters.accepted

theorem PoolWork.refl (g : Guide) : PoolWork g g := ⟨rfl, rfl, rfl⟩

theorem PoolWork.trans {g h k : Guide} (a : PoolWork g h) (b : PoolWork h k) : PoolWork g k :=
  ⟨b.clock.trans a.clock, b.map.trans a.map, b.accepted.trans a.accepted⟩

/-- What R50 and R55 say of events stored one after another: the pool comes from the stored and the incoming events, and
the record's events that are kept are in the pool and no more than were sent. -/
structure Stored (w : Storing) (es : List GuideEvent) (t : Storing) : Prop where
  work : PoolWork w.guide t.guide
  pool : ∀ x ∈ t.guide.pool, x ∈ w.guide.pool ∨ x ∈ es
  kept : (∀ x ∈ w.kept, x ∈ w.guide.pool) → ∀ x ∈ t.kept, x ∈ t.guide.pool
  length : t.kept.length ≤ w.kept.length + es.length

theorem StoreEffect.poolWork {w t : Storing} {e : GuideEvent} (h : StoreEffect w e t) :
    PoolWork w.guide t.guide := by
  cases h <;> exact ⟨rfl, rfl, rfl⟩

theorem Storing.clearFor_kept {w : Storing} (h : ∀ x ∈ w.kept, x ∈ w.guide.pool) (e : GuideEvent) :
    ∀ x ∈ (w.clearFor e).kept, x ∈ (w.clearFor e).guide.pool := by
  intro x hx
  obtain ⟨hk, hy⟩ := List.mem_filter.mp hx
  exact List.mem_filter.mpr ⟨h x hk, hy⟩

theorem Storing.evict_kept {w : Storing} (h : ∀ x ∈ w.kept, x ∈ w.guide.pool) (y : GuideEvent) :
    ∀ x ∈ (w.evict y).kept, x ∈ (w.evict y).guide.pool := by
  intro x hx
  obtain ⟨hk, hy⟩ := List.mem_filter.mp hx
  exact List.mem_filter.mpr ⟨h x hk, hy⟩

theorem Storing.insert_kept {w : Storing} (h : ∀ x ∈ w.kept, x ∈ w.guide.pool) (e : GuideEvent) :
    ∀ x ∈ (w.insert e).kept, x ∈ (w.insert e).guide.pool := by
  intro x hx
  rcases List.mem_append.mp hx with hx | hx
  · exact Storing.mem_insert.mpr (.inr (h x hx))
  · exact Storing.mem_insert.mpr (.inl (List.mem_singleton.mp hx))

theorem StoreEffect.kept {w t : Storing} {e : GuideEvent} (h : StoreEffect w e t)
    (hk : ∀ x ∈ w.kept, x ∈ w.guide.pool) : ∀ x ∈ t.kept, x ∈ t.guide.pool := by
  have hclear := Storing.clearFor_kept hk e
  cases h with
  | dropped => exact hk
  | cleared => exact hclear
  | joined => exact Storing.insert_kept hclear e
  | evicted y => exact Storing.insert_kept (Storing.evict_kept hclear y) e

theorem StoreEffect.kept_length {w t : Storing} {e : GuideEvent} (h : StoreEffect w e t) :
    t.kept.length ≤ w.kept.length + 1 := by
  have hclear : (w.clearFor e).kept.length ≤ w.kept.length := List.length_filter_le _ _
  cases h with
  | dropped => exact Nat.le_succ _
  | cleared => exact hclear.trans (Nat.le_succ _)
  | joined => simpa [Storing.insert] using hclear
  | evicted y =>
    have hevict : ((w.clearFor e).evict y).kept.length ≤ (w.clearFor e).kept.length := List.length_filter_le _ _
    simpa [Storing.insert] using hevict.trans hclear

theorem Storing.foldl_stored (es : List GuideEvent) (w : Storing) : Stored w es (es.foldl Storing.store w) := by
  induction es generalizing w with
  | nil => exact ⟨.refl _, fun x hx => .inl hx, fun h => h, Nat.le_refl _⟩
  | cons e es ih =>
    have hstep := w.store_effect e
    obtain ⟨hwork, hpool, hkept, hlength⟩ := ih (w.store e)
    refine ⟨hstep.poolWork.trans hwork, fun x hx => ?_, fun hk => hkept (hstep.kept hk), ?_⟩
    · rcases hpool x hx with hx | hx
      · exact (hstep.mem_pool hx).elim (fun h => .inr (h ▸ List.mem_cons_self)) .inl
      · exact .inr (List.mem_cons_of_mem _ hx)
    · have hone := hstep.kept_length
      rw [List.foldl_cons, List.length_cons]
      omega

theorem Guide.storeSection_stored (g : Guide) (svc version : Nat) (es : List GuideEvent) :
    ∃ w : Storing, Stored ⟨g, []⟩ es w ∧
      g.storeSection svc version es = ⟨w.guide.setVersion svc version, w.kept⟩ :=
  ⟨_, Storing.foldl_stored es ⟨g, []⟩, rfl⟩

/-- R50: an event that has not aged joins a pool with room in place of the events that give way to it. -/
theorem Storing.store_room {w : Storing} {e : GuideEvent}
    (hnow : ∀ m : Nat, w.guide.nowMinute = some m → m < e.start + e.duration + 60)
    (hroom : w.guide.pool.length < 4096) :
    w.store e = (w.clearFor e).insert e := by
  have haged : ¬ w.guide.nowMinute.any (Machine.aged e.finish) = true := by
    rw [Option.any_eq_true]
    rintro ⟨m, hm, ha⟩
    have hlt := hnow m hm
    have ha' : e.start + e.duration + 60 ≤ m := of_decide_eq_true ha
    omega
  unfold Storing.store
  rw [if_neg haged]
  exact if_pos ((w.clearFor_length e).trans_lt hroom)

theorem GuideEvent.not_yields_iff (x e : GuideEvent) : x.yields e = false ↔ ¬ (x.service = e.service ∧
    (x.start < e.start + e.duration ∧ e.start < x.start + x.duration ∨ x.id = e.id)) := by
  rw [← Bool.not_eq_true]
  simp only [GuideEvent.yields, GuideEvent.overlaps, Bool.and_eq_true, Bool.or_eq_true, decide_eq_true_eq]
  rfl

/-! ### EVENTS (R49 to R55) -/

/-- R49: an EVENTS record passes its checks. -/
theorem State.eventsCheck_none_iff (s : State) (r : Record) : s.eventsCheck r = none ↔
    r.sectionCrc = crc32 r.sectionBytes ∧
      ¬ (r.b2 0 < 1 ∨ 9999 < r.b2 0 ∨ 31 < r.b1 2 ∨ (!r.sectionEvents.all SectionEvent.ok) = true) ∧
      ∃ e : MapEntry, s.guide.entry (r.b2 0) = some e ∧ e.version ≠ some (r.b1 2) := by
  by_cases hcrc : r.sectionCrc = crc32 r.sectionBytes
  · by_cases hfield : r.b2 0 < 1 ∨ 9999 < r.b2 0 ∨ 31 < r.b1 2 ∨ (!r.sectionEvents.all SectionEvent.ok) = true
    · simp only [State.eventsCheck, hcrc, hfield]
      simp
    · cases he : s.guide.entry (r.b2 0) <;> simp only [State.eventsCheck, hcrc, hfield, he] <;> simp
  · simp [State.eventsCheck, hcrc]

theorem State.eventsRecord_of_none (s : State) {f : Fetched} (h : s.eventsCheck f.bytes = none) :
    s.eventsRecord f = s.applyEvents f := by
  simp only [State.eventsRecord, h]

/-- R50: the section's storing. -/
def State.storing (s : State) (f : Fetched) : Storing :=
  s.guide.storeSection (f.bytes.b2 0) (f.bytes.b1 2) (f.bytes.sectionEvents.map (·.event))

/-- R50, R54, R55: the section is stored and counted, and its mask writes are issued; the gates are still to follow. -/
def State.sectionStored (s : State) (f : Fetched) : State :=
  (s.modGuide (fun _ => { (s.storing f).guide with
    counters := { (s.storing f).guide.counters with accepted := satInc (s.storing f).guide.counters.accepted } })).issueAll
    (s.maskWrites f f.bytes.sectionEvents)

theorem State.applyEvents_eq (s : State) {f : Fetched} (ha : f.attached = true) : s.applyEvents f =
    ((s.sectionStored f).followCurrent s.currentEvents .guide false, accepted (s.storing f).kept.length) := by
  simp only [State.applyEvents, State.issueFor, ha, if_true]
  rfl

theorem State.sectionStored_frame (s : State) (f : Fetched) : Frame [.own, .guide] s (s.sectionStored f) :=
  (State.modGuide_frame s _).trans (State.issueAll_frame _ _) (by decide) (by decide)

theorem exec_events {s u : State} {f : Fetched} {out : Outcome} (h : atHand s .events f)
    (he : s.freePort.eventsRecord f = (u, out)) :
    exec .events s = .next (u.finishRecord f (u.scrubWrites f.slot .events) out).settle := by
  have hexec : exec .events s = execEvents s := rfl
  rw [hexec, execEvents]
  exact recordStep_atHand h rfl he

/-- Settles O24: the section is stored (`State.sectionStored`), then the gates of the services whose current event
changed follow, and the record is answered. -/
theorem eventsRecordFillsPool : Obligations.EventsRecordFillsPool := by
  unfold Obligations.EventsRecordFillsPool
  intro s f h hcheck
  have ⟨hf, ha, _⟩ := h
  let v := s.freePort.sectionStored f
  let os := v.membersOfServices (v.changedCurrent s.freePort.currentEvents)
  let u := v.evaluateAll .guide false os
  let out : Outcome := ⟨.accepted, (s.storing f).kept.length⟩
  have hpasses := (s.eventsCheck_none_iff f.bytes).mp hcheck
  have hrecord : s.freePort.eventsRecord f = (u, out) := by
    rw [State.eventsRecord_of_none _ ((s.freePort.eventsCheck_none_iff f.bytes).mpr hpasses), State.applyEvents_eq _ ha]
    rfl
  have hwork : GateWork v u := State.evaluateAll_work v .guide false os
  obtain ⟨rs, hport, hrs⟩ := hwork.port
  obtain ⟨w, hstored, hw⟩ := s.guide.storeSection_stored (f.bytes.b2 0) (f.bytes.b1 2)
    (f.bytes.sectionEvents.map (·.event))
  obtain ⟨-, -, e, hentry, -⟩ := hpasses
  have hend := u.finishRecord_end ha (u.scrubWrites f.slot .events) out
  have hguide : (u.finishRecord f (u.scrubWrites f.slot .events) out).settle.guide = { (s.storing f).guide with
      counters := { (s.storing f).guide.counters with accepted := satInc s.guide.counters.accepted } } := by
    rw [hend.guide, hwork.guide]
    show ({ (s.storing f).guide with counters := { (s.storing f).guide.counters with
      accepted := satInc (s.storing f).guide.counters.accepted } } : Guide) = _
    rw [State.storing, hw, ← hstored.work.accepted]
    rfl
  have hkept : (s.storing f).kept = w.kept := by rw [State.storing, hw]
  have hstoring : (s.storing f).guide = w.guide.setVersion (f.bytes.b2 0) (f.bytes.b1 2) := by rw [State.storing, hw]
  have hmap : w.guide.entry = s.guide.entry := by
    funext x
    simp only [Guide.entry, hstored.work.map]
  have hchanged (x : Fin 6) :
      memberOfService (currentChanged s (u.finishRecord f (u.scrubWrites f.slot .events) out).settle)
        (u.finishRecord f (u.scrubWrites f.slot .events) out).settle x ↔ x ∈ os := by
    have hcurrent : currentChanged s (u.finishRecord f (u.scrubWrites f.slot .events) out).settle =
        currentChanged s.freePort v := by
      funext svc
      simp only [currentChanged, hend.guide, hwork.guide]
      rfl
    have hctxs := hend.ctxs.trans hwork.ctxs
    rw [hcurrent]
    refine Iff.trans ?_ (State.mem_followCurrent (s := s.freePort) (u := v) rfl).symm
    exact ⟨fun hm => hm.mono hctxs.symm fun _ => id, fun hm => hm.mono hctxs fun _ => id⟩
  refine ⟨_, s.storing f, rs, exec_events h hrecord, rfl, ?length, hrs, ?own, ?intake, hguide, ?version, ?entries, ?clock,
    ?pool, ?kept, ?lone, ?gates, ?others, ?frame⟩
  case length => simpa [hkept] using hstored.length
  case own =>
    have hown : u.port.ownAll = s.port.own ++ s.maskWrites f f.bytes.sectionEvents ++ rs := by
      rw [hport]
      rfl
    have hwrite : u.outcomeWrite f.slot out = s.outcomeWrite f.slot out := by
      simp only [State.outcomeWrite, State.slotWrite, State.slotAddr, hwork.cfg]
      rfl
    rw [State.settle_ownAll, State.finishRecord_attached u ha, ← hwrite]
    simp [hown, State.scrubWrites, scrubFields, out]
  case intake =>
    rw [State.settle_intake, State.finishRecord_attached u ha, State.modIntake_intake, State.issueAll_intake,
      hwork.intake]
    rfl
  case version =>
    rw [hguide, hstoring]
    exact Guide.entry_setVersion_same (g := w.guide) (hmap ▸ hentry) (f.bytes.b1 2)
  case entries =>
    intro x hx
    rw [hguide, hstoring, ← hmap]
    exact Guide.entry_setVersion_other w.guide (f.bytes.b1 2) hx
  case clock =>
    rw [hguide, hstoring]
    exact hstored.work.clock
  case pool =>
    intro x hx
    rw [hguide, hstoring] at hx
    exact (hstored.pool x hx).imp_right fun hm => List.mem_map.mp hm
  case kept =>
    intro x hx
    rw [hguide, hstoring]
    rw [hkept] at hx
    exact hstored.kept (by simp) x hx
  case lone =>
    intro e he hnow hroom
    have hlone : s.storing f = ⟨((Storing.clearFor ⟨s.guide, []⟩ e).insert e).guide.setVersion (f.bytes.b2 0)
        (f.bytes.b1 2), [e]⟩ := by
      rw [State.storing, he, Guide.storeSection, List.foldl_cons, List.foldl_nil, Storing.store_room hnow hroom]
      rfl
    rw [hguide, hlone]
    refine ⟨rfl, fun x => Storing.mem_insert.trans (or_congr_right ?_)⟩
    rw [Storing.mem_clearFor, GuideEvent.not_yields_iff]
  case gates =>
    intro x y hx hy
    exact hend.gateFollows (State.evaluateAll_follows v .guide false ((hchanged x).mp hx)) y hy
  case others =>
    intro x hx
    rw [hend.outs]
    exact State.evaluateAll_others v .guide false (mt (hchanged x).mpr hx)
  case frame =>
    have hstore := (State.fetched_freePort_frame hf ha).trans (s.freePort.sectionStored_frame f)
      (cs := [.own, .guide]) (by decide) (by decide)
    have hgates := hstore.trans hwork.toFrame (cs := [.own, .guide, .outputs, .writer]) (by decide) (by decide)
    exact (hgates.trans (State.finishRecord_attached_frame u ha _ _)
      (cs := [.own, .intake, .guide, .outputs, .writer]) (by decide) (by decide)).settle

end Sys2Proof.Machine
end

section
/-! PROOFS. SERVICES records (R43 to R46): what an item leaves of the map, the pool, the retained entries and the
contexts, how far a record's items are applied and which services they touch, and the obligation about SERVICES. -/

namespace Sys2Proof.Machine

/-! ### Entries after a change of the map (R44, R45) -/

theorem find?_insertEntry {e : MapEntry} {es : List MapEntry}
    (h : es.find? (fun x => x.service = e.service) = none) (svc : Nat) :
    (insertEntry e es).find? (fun x => x.service = svc) =
      if svc = e.service then some e else es.find? (fun x => x.service = svc) := by
  have hhead (xs : List MapEntry) : (e :: xs).find? (fun x => x.service = svc) =
      if svc = e.service then some e else xs.find? (fun x => x.service = svc) := by
    by_cases hs : svc = e.service
    · simp [hs]
    · simp [hs, Ne.symm hs]
  induction es with
  | nil => exact hhead []
  | cons y ys ih =>
    have hall := List.find?_eq_none.mp h
    have hy : ¬ y.service = e.service := by simpa using hall y List.mem_cons_self
    have hys : ys.find? (fun x => x.service = e.service) = none :=
      List.find?_eq_none.mpr fun x hx => hall x (List.mem_cons_of_mem _ hx)
    unfold insertEntry
    split
    · exact hhead (y :: ys)
    · by_cases hsvc : y.service = svc
      · have hne : ¬ svc = e.service := fun hs => hy (hsvc.trans hs)
        simp [hsvc, hne]
      · rw [List.find?_cons_of_neg (by simpa using hsvc), List.find?_cons_of_neg (by simpa using hsvc)]
        exact ih hys

theorem Guide.entry_addEntry {g : Guide} {e : MapEntry} (h : g.entry e.service = none) (svc : Nat) :
    (g.addEntry e).entry svc = if svc = e.service then some e else g.entry svc :=
  find?_insertEntry h svc

theorem Guide.entry_replaceEntry {g : Guide} {e y : MapEntry} (h : g.entry e.service = some y) (svc : Nat) :
    (g.replaceEntry e).entry svc = if svc = e.service then some { e with version := y.version } else g.entry svc := by
  unfold Guide.replaceEntry
  rw [Guide.entry_map g (fun x => by split <;> simp_all)]
  by_cases hs : svc = e.service
  · simp [hs, h, Guide.entry_service h]
  · cases hx : g.entry svc with
    | none => simp [hs]
    | some x => simp [hs, Guide.entry_service hx]

theorem Guide.entry_removeEntry (g : Guide) (e : MapEntry) (retain : Bool) (svc : Nat) :
    (g.removeEntry e retain).entry svc = if svc = e.service then none else g.entry svc := by
  unfold Guide.removeEntry Guide.entry
  rw [List.find?_filter]
  by_cases hs : svc = e.service
  · rw [if_pos hs, List.find?_eq_none]
    intro x _
    simp [hs]
  · rw [if_neg hs]
    congr 1
    funext x
    by_cases hx : x.service = svc <;> simp [hx, hs]

/-! ### One item (R44, R45) -/

theorem State.serviceRunning_iff (s : State) (svc : Nat) : s.serviceRunning svc = true ↔
    ∃ (c : Fin 8) (u : Tuning), (s.ctxs[c]).tuning = some u ∧ u.service = svc := by
  simp only [State.serviceRunning, List.any_eq_true, mem_allContexts, true_and]
  refine exists_congr fun c => ?_
  cases hc : (s.ctxs[c]).tuning <;> simp

theorem Context.follow_tuning {c : Context} {e : MapEntry} {u : Tuning} (h : c.tuning = some u)
    (hs : u.service = e.service) :
    (c.follow e).tuning = some { u with streams := e.streams, scrambled := e.scrambled } := by
  unfold Context.tuning at h
  split at h
  · cases h
  · next hl =>
    cases h
    simp [Context.follow, hl, hs, Context.tuning]
  · next hl =>
    cases h
    simp [Context.follow, hl, hs, Context.tuning]

/-- Items change Guide Tables and contexts alone, and leave the clock. -/
def TablesOnly (s t : State) : Prop :=
  ∃ (g : Guide) (cs : Vector Context 8), t = { s with guide := g, ctxs := cs } ∧ g.clock = s.guide.clock

theorem TablesOnly.refl (s : State) : TablesOnly s s := ⟨s.guide, s.ctxs, rfl, rfl⟩

theorem TablesOnly.trans {s t u : State} (h : TablesOnly s t) (k : TablesOnly t u) : TablesOnly s u := by
  obtain ⟨g, cs, rfl, hg⟩ := h
  obtain ⟨g', cs', rfl, hg'⟩ := k
  exact ⟨g', cs', rfl, hg'.trans hg⟩

theorem TablesOnly.frame {s t : State} (h : TablesOnly s t) : Frame [.guide, .contexts] s t := by
  obtain ⟨g, cs, rfl, -⟩ := h
  exact ⟨by simp [onlyChanges, Area.forall_iff, Area.same], rfl⟩

/-- R44: what an ADD/REPLACE item leaves. -/
structure AddedService (s : State) (e : MapEntry) (t : State) : Prop where
  tables : TablesOnly s t
  entry : ∀ svc : Nat, t.guide.entry svc = if svc = e.service then
    some (((s.guide.entry e.service).map (fun y => { e with version := y.version })).getD e) else s.guide.entry svc
  pool : t.guide.pool = s.guide.pool
  retained : t.guide.retained = if (s.guide.entry e.service).isSome then s.guide.retained
    else s.guide.retained.filter (fun x => x.service ≠ e.service)
  ctxs : t.ctxs = s.ctxs.map (fun c => c.follow e)

theorem State.addService_added {s t : State} {e : MapEntry} (h : s.addService e = some t) : AddedService s e t := by
  unfold State.addService at h
  split at h
  · next y hy =>
    cases h
    exact ⟨⟨_, _, rfl, rfl⟩, fun svc => (Guide.entry_replaceEntry hy svc).trans (by simp [hy]), rfl,
      (if_pos (by simp [hy])).symm, rfl⟩
  · next hn =>
    split at h <;> cases h
    exact ⟨⟨_, _, rfl, rfl⟩, fun svc => (Guide.entry_addEntry hn svc).trans (by simp [hn]), rfl,
      (if_neg (by simp [hn])).symm, rfl⟩

theorem State.addService_eq_none_iff (s : State) (e : MapEntry) :
    s.addService e = none ↔ s.guide.entry e.service = none ∧ 512 ≤ s.guide.map.length := by
  unfold State.addService
  split
  · next y hy => simp [hy]
  · next hn =>
    split
    · next hlt => simp [hn, Nat.not_le.mpr hlt]
    · next hge => simp [hn, Nat.not_lt.mp hge]

/-- R45: what a REMOVE item of a service in the map leaves. -/
theorem State.applyItem_remove {s : State} {svc : Nat} {e : MapEntry} (h : s.guide.entry svc = some e) :
    s.applyItem (.remove svc) =
      some (s.modGuide (fun g => g.removeEntry e (s.serviceRunning svc)), some svc) := by
  simp only [State.applyItem, h]

theorem State.applyItem_remove_none {s : State} {svc : Nat} (h : s.guide.entry svc = none) :
    s.applyItem (.remove svc) = some (s, none) := by
  simp only [State.applyItem, h]

/-! ### The items of a record (R43, R46) -/

/-- R46: an item touches a service: it adds or replaces its entry, or removes the one there is. -/
def ServiceItem.touches (s : State) (it : ServiceItem) (svc : Nat) : Prop :=
  (∃ e : MapEntry, it = .add e ∧ e.service = svc) ∨ (it = .remove svc ∧ (s.guide.entry svc).isSome = true)

/-- R43, R46: what an applied item leaves: Guide Tables and contexts alone change, it names the service it touched, and
only of that one the entry comes or goes. -/
structure ItemEffect (s : State) (it : ServiceItem) (t : State) (named : Option Nat) : Prop where
  tables : TablesOnly s t
  touched : ∀ svc : Nat, named = some svc ↔ it.touches s svc
  entries : ∀ svc : Nat, named ≠ some svc → t.guide.entry svc = s.guide.entry svc

theorem State.applyItem_effect {s t : State} {it : ServiceItem} {named : Option Nat}
    (h : s.applyItem it = some (t, named)) : ItemEffect s it t named := by
  cases it with
  | add e =>
    obtain ⟨u, hu, hpair⟩ := Option.map_eq_some_iff.mp h
    cases hpair
    have hadd := State.addService_added hu
    refine ⟨hadd.tables, fun svc => by simp [ServiceItem.touches], fun svc hne => ?_⟩
    rw [hadd.entry, if_neg fun hs => hne (by rw [hs])]
  | remove x =>
    cases he : s.guide.entry x with
    | none =>
      rw [State.applyItem_remove_none he] at h
      cases h
      refine ⟨.refl s, fun svc => ?_, fun _ _ => rfl⟩
      simp only [ServiceItem.touches]
      constructor
      · intro hn
        cases hn
      · rintro (⟨e, hc, -⟩ | ⟨hc, hs⟩)
        · cases hc
        · cases hc
          simp [he] at hs
    | some e =>
      rw [State.applyItem_remove he] at h
      cases h
      refine ⟨⟨_, _, rfl, rfl⟩, fun svc => ?_, fun svc hne => ?_⟩
      · simp only [ServiceItem.touches, Option.some.injEq]
        constructor
        · rintro rfl
          exact .inr ⟨rfl, by simp [he]⟩
        · rintro (⟨e, hc, -⟩ | ⟨hc, -⟩) <;> cases hc
          rfl
      · have hsvc : e.service = x := Guide.entry_service he
        exact (s.guide.entry_removeEntry e _ svc).trans (if_neg fun hs => hne (by rw [hs, hsvc]))
  | unknown x =>
    cases h
    exact ⟨.refl s, fun svc => by simp [ServiceItem.touches], fun _ _ => rfl⟩

/-- R43: an item fails only as an ADD of a new service to a full map. -/
theorem State.applyItem_eq_none {s : State} {it : ServiceItem} (h : s.applyItem it = none) :
    ∃ e : MapEntry, it = .add e ∧ s.guide.entry e.service = none ∧ 512 ≤ s.guide.map.length := by
  cases it with
  | add e => exact ⟨e, rfl, (s.addService_eq_none_iff e).mp (Option.map_eq_none_iff.mp h)⟩
  | remove x =>
    cases he : s.guide.entry x
    · rw [State.applyItem_remove_none he] at h
      cases h
    · rw [State.applyItem_remove he] at h
      cases h
  | unknown x => cases h

/-- R46: the services touched by the items before place `n`, as the statement says it, one item at a time. -/
theorem serviceTouched_cons {s t : State} {it : ServiceItem} {named : Option Nat} (h : ItemEffect s it t named)
    (its : List ServiceItem) (n svc : Nat) :
    serviceTouched (it :: its) (n + 1) s svc ↔ named = some svc ∨ serviceTouched its n t svc := by
  by_cases hn : named = some svc
  · refine iff_of_true ?_ (.inl hn)
    rcases (h.touched svc).mp hn with ⟨e, rfl, hs⟩ | ⟨rfl, hs⟩
    · exact .inl ⟨e, List.mem_cons_self, hs⟩
    · exact .inr ⟨List.mem_cons_self, hs⟩
  · have hnot := mt (h.touched svc).mpr hn
    simp only [ServiceItem.touches, not_or, not_exists, not_and] at hnot
    simp only [serviceTouched, hn, h.entries svc hn, List.take_succ_cons, List.mem_cons, false_or]
    constructor
    · rintro (⟨e, rfl | he, hs⟩ | ⟨hr | hr, hs⟩)
      · exact absurd hs (hnot.1 e rfl)
      · exact .inl ⟨e, he, hs⟩
      · exact absurd hs (hnot.2 hr.symm)
      · exact .inr ⟨hr, hs⟩
    · rintro (⟨e, he, hs⟩ | ⟨hr, hs⟩)
      · exact .inl ⟨e, .inr he, hs⟩
      · exact .inr ⟨.inr hr, hs⟩

/-- R43, R46: what the application of a record's items leaves. -/
structure ItemsApplied (s : State) (its : List ServiceItem) (a : Applied) : Prop where
  tables : TablesOnly s a.state
  count : a.count ≤ its.length
  all : a.all = true ↔ a.count = its.length
  failed : a.all = false → ∃ e : MapEntry, its[a.count]? = some (.add e) ∧
    a.state.guide.entry e.service = none ∧ 512 ≤ a.state.guide.map.length
  touched : ∀ svc : Nat, svc ∈ a.touched ↔ serviceTouched its a.count s svc

theorem State.applyItems_applied (its : List ServiceItem) (s : State) : ItemsApplied s its (s.applyItems its) := by
  induction its generalizing s with
  | nil => exact ⟨.refl s, Nat.le_refl _, by simp [State.applyItems], by simp [State.applyItems],
      by simp [State.applyItems, serviceTouched]⟩
  | cons it its ih =>
    unfold State.applyItems
    split
    · next hnone =>
      obtain ⟨e, rfl, he⟩ := State.applyItem_eq_none hnone
      exact ⟨.refl s, Nat.zero_le _, by simp, fun _ => ⟨e, rfl, he⟩, by simp [serviceTouched]⟩
    · next t named hsome =>
      have heffect := State.applyItem_effect hsome
      obtain ⟨htables, hcount, hall, hfailed, htouched⟩ := ih t
      refine ⟨heffect.tables.trans htables, Nat.succ_le_succ hcount, hall.trans (by simp), hfailed, fun svc => ?_⟩
      rw [serviceTouched_cons heffect, ← htouched, List.mem_append, Option.mem_toList]

/-! ### Lone items -/

theorem State.applyItems_add {s : State} {e : MapEntry}
    (h : (s.guide.entry e.service).isSome = true ∨ s.guide.map.length < 512) :
    ∃ t : State, s.applyItems [.add e] = ⟨t, [e.service], 1, true⟩ ∧ AddedService s e t := by
  cases ht : s.addService e with
  | some t => exact ⟨t, by simp [State.applyItems, State.applyItem, ht], State.addService_added ht⟩
  | none =>
    obtain ⟨hnone, hfull⟩ := (s.addService_eq_none_iff e).mp ht
    rcases h with h | h
    · simp [hnone] at h
    · omega

/-- R45: what a lone REMOVE item leaves. -/
structure RemovedService (s : State) (svc : Nat) (t : State) : Prop where
  ctxs : t.ctxs = s.ctxs
  entry : ∀ x : Nat, t.guide.entry x = if x = svc then none else s.guide.entry x
  absent : s.guide.entry svc = none → t.guide = s.guide
  pool : ∀ e : MapEntry, s.guide.entry svc = some e →
    t.guide.pool = s.guide.pool.filter (fun x => x.service ≠ svc)
  retained : ∀ e : MapEntry, s.guide.entry svc = some e → t.guide.retained =
    if s.serviceRunning svc then s.guide.retained ++ [{ e with version := none }] else s.guide.retained

theorem State.applyItems_remove (s : State) (svc : Nat) :
    (s.applyItems [.remove svc]).all = true ∧ RemovedService s svc (s.applyItems [.remove svc]).state := by
  cases he : s.guide.entry svc with
  | none =>
    simp only [State.applyItems, State.applyItem_remove_none he]
    refine ⟨trivial, rfl, fun x => ?_, fun _ => rfl, fun e h => ?_, fun e h => ?_⟩
    · split
      · next hx => rw [hx, he]
      · rfl
    · rw [he] at h
      cases h
    · rw [he] at h
      cases h
  | some e =>
    have hsvc : e.service = svc := Guide.entry_service he
    simp only [State.applyItems, State.applyItem_remove he]
    refine ⟨trivial, rfl, fun x => ?_, fun h => ?_, fun y h => ?_, fun y h => ?_⟩
    · exact hsvc ▸ s.guide.entry_removeEntry e _ x
    · rw [he] at h
      cases h
    · simp [Guide.removeEntry, hsvc]
    · rw [he] at h
      cases h
      rfl

/-- R43, R193: an entry that a record carries has no section version. -/
theorem Record.serviceItemsFrom_version (r : Record) (n i : Nat) {e : MapEntry}
    (h : .add e ∈ r.serviceItemsFrom n i) : e.version = none := by
  induction n generalizing i with
  | zero => cases h
  | succ n ih =>
    rcases List.mem_cons.mp h with h | h
    · unfold Record.serviceItem at h
      split at h <;> cases h
      rfl
    · exact ih _ h

/-! ### SERVICES (R43 to R46) -/

/-- R43: the record's items are applied and its map version is stored; the gates are still to follow. -/
def State.mapUpdated (s : State) (version : Nat) (items : List ServiceItem) : State :=
  (s.applyItems items).state.modGuide (fun g => { g with lastVersion := some version })

theorem State.servicesRecord_eq (s : State) (version : Nat) {items : List ServiceItem}
    (h : items.all ServiceItem.ok = true) : s.servicesRecord version items =
      ((s.mapUpdated version items).evaluateAll .map false
          ((s.mapUpdated version items).membersOfServices (s.applyItems items).touched),
        ⟨if (s.applyItems items).all then .accepted else .tableFull,
          version * 65536 + (s.applyItems items).count * 256⟩) := by
  simp only [State.servicesRecord, h]
  rfl

theorem exec_services {s u : State} {f : Fetched} {out : Outcome} (h : atHand s .services f)
    (he : s.freePort.servicesRecord (f.bytes.b2 0) f.bytes.serviceItems = (u, out)) :
    exec .services s = .next (u.finishRecord f (u.scrubWrites f.slot .services) out).settle := by
  have hexec : exec .services s = execServices s := rfl
  rw [hexec, execServices]
  exact recordStep_atHand h rfl he

/-- Settles O23: the items are applied (`State.applyItems_applied`), the gates of the touched services follow, and the
record is answered. -/
theorem servicesRecordUpdatesMap : Obligations.ServicesRecordUpdatesMap := by
  unfold Obligations.ServicesRecordUpdatesMap
  intro s f h hok
  have ⟨hf, ha, _⟩ := h
  let items := f.bytes.serviceItems
  let a := s.freePort.applyItems items
  let v := s.freePort.mapUpdated (f.bytes.b2 0) items
  let os := v.membersOfServices a.touched
  let u := v.evaluateAll .map false os
  have happlied : ItemsApplied s.freePort items a := State.applyItems_applied items s.freePort
  have hwork : GateWork v u := State.evaluateAll_work v .map false os
  have htables : TablesOnly s.freePort v := happlied.tables.trans ⟨_, _, rfl, rfl⟩
  obtain ⟨g, cs, hv, hclock⟩ := htables
  let out : Outcome := ⟨if a.all then .accepted else .tableFull, f.bytes.b2 0 * 65536 + a.count * 256⟩
  have hend := u.finishRecord_end ha (u.scrubWrites f.slot .services) out
  have hguide := hend.guide.trans hwork.guide
  have hctxs := hend.ctxs.trans hwork.ctxs
  have hmember (x : Fin 6) : memberOfService (serviceTouched items a.count s)
      (u.finishRecord f (u.scrubWrites f.slot .services) out).settle x ↔ x ∈ os := by
    rw [State.mem_membersOfServices]
    exact ⟨fun hm => hm.mono hctxs.symm fun svc => (happlied.touched svc).mpr,
      fun hm => hm.mono hctxs fun svc => (happlied.touched svc).mp⟩
  refine ⟨_, a, exec_services h (State.servicesRecord_eq s.freePort _ hok), rfl, happlied.count, happlied.all,
    happlied.failed, ?answer, hguide, hctxs, ?clock, ?add, ?remove, ?gates, ?others, ?frame⟩
  case answer =>
    refine State.finishRecord_after ha ((Noticed.of_port ?_).trans hwork.noticed) ?_ ?_ .services out
    · rw [hv]
    · rw [hwork.cfg, hv]
      rfl
    · rw [hwork.intake, hv]
      rfl
  case clock =>
    rw [hguide, hv]
    exact hclock
  case add =>
    intro e he hroom
    obtain ⟨t, ht, hadd⟩ := State.applyItems_add (s := s.freePort) hroom
    have ha' : a = ⟨t, [e.service], 1, true⟩ := (congrArg _ he).trans ht
    have hvt : v = t.modGuide (fun g => { g with lastVersion := some (f.bytes.b2 0) }) :=
      congrArg (fun a : Applied => a.state.modGuide (fun g => { g with lastVersion := some (f.bytes.b2 0) })) ha'
    have hversion : e.version = none := f.bytes.serviceItemsFrom_version _ _ (he ▸ List.mem_singleton_self _)
    rw [hguide, hctxs, hvt]
    refine ⟨by rw [ha'], (hadd.entry _).trans ?_, fun x hx => (hadd.entry x).trans (if_neg hx), hadd.pool, hadd.retained,
      fun c w hw hs => ?_⟩
    · have hnew : e = { e with version := none } := by rw [← hversion]
      rw [if_pos rfl]
      change some (((s.guide.entry e.service).map _).getD e) = _
      cases s.guide.entry e.service with
      | none => exact congrArg some hnew
      | some y => rfl
    · rw [State.modGuide_ctxs, hadd.ctxs]
      simpa using Context.follow_tuning (c := s.ctxs[c]) hw hs
  case remove =>
    intro svc hsvc
    obtain ⟨hall, hremoved⟩ := s.freePort.applyItems_remove svc
    rw [← hsvc] at hall hremoved
    rw [hguide, hctxs]
    refine ⟨hall, (hremoved.entry svc).trans (if_pos rfl), fun x hx => (hremoved.entry x).trans (if_neg hx),
      hremoved.ctxs, fun hn => ?_, fun e he => ⟨hremoved.pool e he, fun hr => ?_, fun hr => ?_⟩⟩
    · have hsame := hremoved.absent hn
      exact ⟨(congrArg Guide.pool hsame :), (congrArg Guide.retained hsame :)⟩
    · exact (hremoved.retained e he).trans (if_pos ((s.freePort.serviceRunning_iff svc).mpr hr))
    · refine (hremoved.retained e he).trans (if_neg fun hrun => ?_)
      obtain ⟨c, w, hw, hs⟩ := (s.freePort.serviceRunning_iff svc).mp hrun
      exact hr c w hw hs
  case gates =>
    intro x y hx hy
    exact hend.gateFollows (State.evaluateAll_follows v .map false ((hmember x).mp hx)) y hy
  case others =>
    intro x hx
    rw [hend.outs]
    refine (State.evaluateAll_others v .map false (mt (hmember x).mpr hx)).trans ?_
    rw [hv]
    rfl
  case frame =>
    have hupdate := (State.fetched_freePort_frame hf ha).trans (TablesOnly.frame ⟨g, cs, hv, hclock⟩)
      (cs := [.own, .guide, .contexts]) (by decide) (by decide)
    have hgates := hupdate.trans hwork.toFrame (cs := [.own, .guide, .contexts, .outputs, .writer]) (by decide)
      (by decide)
    exact (hgates.trans (State.finishRecord_attached_frame u ha _ _)
      (cs := [.own, .intake, .guide, .contexts, .outputs, .writer]) (by decide) (by decide)).settle

end Sys2Proof.Machine
end

section
/-! PROOFS. Recomputed verdicts (R118 to R120): judging criteria on the tables it leaves gives the same verdict again,
and a recomputation of every half leaves every half so judged. -/

namespace Sys2Proof.Machine

/-! ### The preview table (R119) -/

/-- R119 step 1: no preview is to be had of the event: no preview minutes, or it has ended. -/
def EventCriteria.barred (e : EventCriteria) (t : Option Nat) : Prop := e.preview = 0 ∨ e.endedAt t = true

/-- R119: the entry that an event gets. -/
def EventCriteria.fresh (e : EventCriteria) : PreviewEntry := ⟨e.event, 0, e.start + e.duration⟩

/-- R119 step 4: the table with the entries of event `old` replaced. -/
def AccessUnit.replacing (a : AccessUnit) (old : Nat) (e : EventCriteria) : AccessUnit :=
  { a with previews := a.previews.map (fun x => if x.event = old then e.fresh else x) }

/-- R119 step 3: the table with one entry more. -/
def AccessUnit.entering (a : AccessUnit) (e : EventCriteria) : AccessUnit :=
  { a with previews := a.previews ++ [e.fresh] }

/-- The entry of an event. -/
def AccessUnit.entryOf (a : AccessUnit) (event : Nat) : Option PreviewEntry :=
  a.previews.find? (fun x => x.event = event)

/-- R119: judging the event on this table gives verdict `v` and leaves the table as it is. -/
inductive PreviewSettled (a : AccessUnit) (e : EventCriteria) (t : Option Nat) : Verdict → Prop
  | barred (h : e.barred t) : PreviewSettled a e t .purchaseNeeded
  | listed (h : ¬ e.barred t) (x : PreviewEntry) (hx : a.entryOf e.event = some x) :
      PreviewSettled a e t (if x.seconds < e.preview * 60 then .preview else .purchaseNeeded)
  | refused (h : ¬ e.barred t) (absent : a.entryOf e.event = none) (full : 16 ≤ a.previews.length)
      (kept : a.replaceable t = none) : PreviewSettled a e t .purchaseNeeded

/-- R119: what judging an event on a table can give. -/
inductive PreviewEffect (a : AccessUnit) (e : EventCriteria) (t : Option Nat) : Judged → Prop
  | settled {v : Verdict} (h : PreviewSettled a e t v) : PreviewEffect a e t ⟨a, v, none⟩
  | entered (h : ¬ e.barred t) (absent : a.entryOf e.event = none) (room : a.previews.length < 16) :
      PreviewEffect a e t ⟨a.entering e, .preview, none⟩
  | replaced (h : ¬ e.barred t) (absent : a.entryOf e.event = none) (full : 16 ≤ a.previews.length)
      (old : PreviewEntry) (hold : a.replaceable t = some old) :
      PreviewEffect a e t ⟨a.replacing old.event e, .preview, some old.event⟩

theorem AccessUnit.judgePreview_effect (a : AccessUnit) (e : EventCriteria) (t : Option Nat) :
    PreviewEffect a e t (a.judgePreview e t) := by
  unfold AccessUnit.judgePreview
  dsimp only
  split
  · next hb => exact .settled (.barred hb)
  · next hb =>
    split
    · next x hx => exact .settled (.listed hb x hx)
    · next hx =>
      split
      · next hroom => exact .entered hb hx hroom
      · next hfull =>
        split
        · next old hold => exact .replaced hb hx (Nat.not_lt.mp hfull) old hold
        · next hold => exact .settled (.refused hb hx (Nat.not_lt.mp hfull) hold)

theorem firstReplaceable_mem {es : List PreviewEntry} {x : PreviewEntry} (h : firstReplaceable es = some x) :
    x ∈ es := by
  induction es generalizing x with
  | nil => cases h
  | cons e es ih =>
    unfold firstReplaceable at h
    split at h
    · cases h
      exact List.mem_cons_self
    · next b hb =>
      split at h <;> cases h
      · exact List.mem_cons_self
      · exact List.mem_cons_of_mem _ (ih hb)

theorem firstReplaceable_eq_none {es : List PreviewEntry} (h : firstReplaceable es = none) : es = [] := by
  cases es with
  | nil => rfl
  | cons e es =>
    unfold firstReplaceable at h
    split at h
    · cases h
    · split at h <;> cases h

/-- R119 step 4: the entry to replace is one whose event has ended. -/
theorem AccessUnit.replaceable_some {a : AccessUnit} {t : Option Nat} {x : PreviewEntry}
    (h : a.replaceable t = some x) : x ∈ a.previews ∧ ∃ m : Nat, t = some m ∧ x.endMinute ≤ m := by
  cases t with
  | none => cases h
  | some m =>
    obtain ⟨hx, hend⟩ := List.mem_filter.mp (firstReplaceable_mem h)
    exact ⟨hx, m, rfl, of_decide_eq_true hend⟩

/-- R119 step 4: with no entry to replace, no entry's event has ended. -/
theorem AccessUnit.replaceable_none {a : AccessUnit} {t : Option Nat} (h : a.replaceable t = none) {x : PreviewEntry}
    (hx : x ∈ a.previews) {m : Nat} (ht : t = some m) : m < x.endMinute := by
  subst ht
  have hnil := firstReplaceable_eq_none h
  by_contra hle
  have hmem : x ∈ a.previews.filter (fun e => e.endMinute ≤ m) :=
    List.mem_filter.mpr ⟨hx, decide_eq_true (Nat.not_lt.mp hle)⟩
  rw [hnil] at hmem
  cases hmem

/-- R119: a fresh entry is that of an event that has not ended. -/
theorem EventCriteria.fresh_live {e : EventCriteria} {t : Option Nat} (h : ¬ e.barred t) {m : Nat} (ht : t = some m) :
    m < e.fresh.endMinute := by
  subst ht
  by_contra hle
  exact h (.inr (decide_eq_true (Nat.not_lt.mp hle)))

theorem AccessUnit.entryOf_some {a : AccessUnit} {event : Nat} {x : PreviewEntry} (h : a.entryOf event = some x) :
    x ∈ a.previews ∧ x.event = event :=
  ⟨List.mem_of_find?_eq_some h, by simpa using List.find?_some h⟩

theorem AccessUnit.entryOf_none {a : AccessUnit} {event : Nat} (h : a.entryOf event = none) {x : PreviewEntry}
    (hx : x ∈ a.previews) : x.event ≠ event := by
  simpa using List.find?_eq_none.mp h x hx

theorem AccessUnit.entryOf_entering_same {a : AccessUnit} {e : EventCriteria} (h : a.entryOf e.event = none) :
    (a.entering e).entryOf e.event = some e.fresh := by
  unfold AccessUnit.entryOf AccessUnit.entering at *
  rw [List.find?_append, h]
  simp [EventCriteria.fresh]

theorem AccessUnit.entryOf_entering_listed {a : AccessUnit} (e : EventCriteria) {event : Nat} {x : PreviewEntry}
    (h : a.entryOf event = some x) : (a.entering e).entryOf event = some x := by
  unfold AccessUnit.entryOf AccessUnit.entering at *
  rw [List.find?_append, h]
  rfl

/-- R119 step 4: the replaced entries are the new event's. -/
theorem AccessUnit.entryOf_replacing_same {a : AccessUnit} {e : EventCriteria} {old : PreviewEntry}
    (h : a.entryOf e.event = none) (hold : old ∈ a.previews) :
    (a.replacing old.event e).entryOf e.event = some e.fresh := by
  have hisSome : ((a.replacing old.event e).entryOf e.event).isSome = true := by
    refine List.find?_isSome.mpr ⟨e.fresh, List.mem_map.mpr ⟨old, hold, if_pos rfl⟩, by simp [EventCriteria.fresh]⟩
  obtain ⟨x, hx⟩ := Option.isSome_iff_exists.mp hisSome
  obtain ⟨hmem, hevent⟩ := AccessUnit.entryOf_some hx
  obtain ⟨y, hy, rfl⟩ := List.mem_map.mp hmem
  rw [hx]
  by_cases hyo : y.event = old.event
  · rw [if_pos hyo]
  · rw [if_neg hyo] at hevent
    exact absurd hevent (AccessUnit.entryOf_none h hy)

/-- R119 step 4: the entry of another event stays. -/
theorem AccessUnit.entryOf_replacing_other {a : AccessUnit} {e : EventCriteria} {old event : Nat} (ho : event ≠ old)
    (he : event ≠ e.event) : (a.replacing old e).entryOf event = a.entryOf event := by
  have hp : (fun x : PreviewEntry => decide (x.event = event)) ∘ (fun x => if x.event = old then e.fresh else x) =
      fun x => decide (x.event = event) := by
    funext x
    by_cases hx : x.event = old
    · simp [hx, EventCriteria.fresh, Ne.symm he, Ne.symm ho]
    · simp [hx]
  unfold AccessUnit.entryOf AccessUnit.replacing
  rw [List.find?_map, hp]
  cases hx : a.previews.find? (fun x => decide (x.event = event)) with
  | none => rfl
  | some x =>
    have hevent : x.event = event := by simpa using List.find?_some hx
    simp [hevent, ho]

/-! ### Judging again (R118, R119) -/

/-- An event with minutes to preview that got a fresh entry is in PREVIEW, and stays so when it is judged again. -/
theorem PreviewSettled.of_fresh {a : AccessUnit} {e : EventCriteria} {t : Option Nat} (h : ¬ e.barred t)
    (hx : a.entryOf e.event = some e.fresh) : PreviewSettled a e t .preview := by
  have hpos : e.fresh.seconds < e.preview * 60 := by
    have hne : e.preview ≠ 0 := fun h0 => h (.inl h0)
    show 0 < e.preview * 60
    omega
  have hlisted := PreviewSettled.listed h _ hx
  rwa [if_pos hpos] at hlisted

/-- R119: judged again on the table it left, an event has the same verdict. -/
theorem PreviewEffect.again {a : AccessUnit} {e : EventCriteria} {t : Option Nat} {j : Judged}
    (h : PreviewEffect a e t j) : PreviewSettled j.access e t j.verdict := by
  cases h with
  | settled h => exact h
  | entered h absent => exact .of_fresh h (AccessUnit.entryOf_entering_same absent)
  | replaced h absent _ old hold =>
    exact .of_fresh h (AccessUnit.entryOf_replacing_same absent (AccessUnit.replaceable_some hold).1)

/-- R119, R120: judging one event leaves another's verdict as it is, unless that one's entry was replaced. -/
theorem PreviewEffect.keeps {a : AccessUnit} {e d : EventCriteria} {t : Option Nat} {j : Judged} {v : Verdict}
    (h : PreviewEffect a e t j) (hd : PreviewSettled a d t v) (hr : j.replaced ≠ some d.event) :
    PreviewSettled j.access d t v := by
  cases hd with
  | barred hb => exact .barred hb
  | listed hb x hx =>
    refine .listed hb x ?_
    cases h with
    | settled => exact hx
    | entered => exact AccessUnit.entryOf_entering_listed e hx
    | replaced _ absent _ old =>
      have hne : d.event ≠ e.event := fun heq => by
        rw [heq, absent] at hx
        cases hx
      exact (AccessUnit.entryOf_replacing_other (fun ho => hr (by rw [ho])) hne).trans hx
  | refused hb absent full kept =>
    cases h with
    | settled => exact .refused hb absent full kept
    | entered _ _ room => omega
    | replaced _ _ _ old hold =>
      rw [kept] at hold
      cases hold

/-! ### Criteria (R118) -/

/-- R118: judging the criteria on the tables of `s` gives verdict `v` and leaves the tables as they are. -/
def State.settledAs (s : State) (c : Criteria) (v : Verdict) : Prop :=
  match c with
  | .freeToAir => v = .entitled
  | .package p => v = if s.packageValid p then .entitled else .notEntitled
  | .event e =>
    if s.includedBy e || s.access.owns e.event then v = .entitled else PreviewSettled s.access e s.guide.nowMinute v

/-- R118: what judging criteria can give. -/
inductive JudgeEffect (s : State) (c : Criteria) : Judged → Prop
  | settled {v : Verdict} (h : s.settledAs c v) : JudgeEffect s c ⟨s.access, v, none⟩
  | previewed (e : EventCriteria) (hc : c = .event e) (hn : ¬ (s.includedBy e || s.access.owns e.event) = true)
      {j : Judged} (h : PreviewEffect s.access e s.guide.nowMinute j) : JudgeEffect s c j

theorem State.judge_effect (s : State) (c : Criteria) : JudgeEffect s c (s.judge c) := by
  unfold State.judge
  split
  · exact .settled rfl
  · exact .settled rfl
  · next e =>
    split
    · next h =>
      refine .settled ?_
      simp only [State.settledAs, h, if_true]
    · next h => exact .previewed e rfl h (s.access.judgePreview_effect e s.guide.nowMinute)

/-- What judging reads is the same in two states, but for the preview table. -/
structure JudgeInputs (s t : State) : Prop where
  rights : t.rights = s.rights
  nowMinute : t.guide.nowMinute = s.guide.nowMinute
  owned : t.access.owned = s.access.owned

theorem JudgeInputs.packageValid {s t : State} (h : JudgeInputs s t) (p : Nat) :
    t.packageValid p = s.packageValid p := by
  unfold State.packageValid
  rw [h.rights, h.nowMinute]

theorem JudgeInputs.entitled {s t : State} (h : JudgeInputs s t) (e : EventCriteria) :
    (t.includedBy e || t.access.owns e.event) = (s.includedBy e || s.access.owns e.event) := by
  unfold State.includedBy AccessUnit.owns
  rw [h.owned]
  simp only [h.packageValid]

theorem State.settledAs.congr {s t : State} {c : Criteria} {v : Verdict} (h : s.settledAs c v) (hi : JudgeInputs s t)
    (hp : ∀ e : EventCriteria, c = .event e → PreviewSettled s.access e s.guide.nowMinute v →
      PreviewSettled t.access e s.guide.nowMinute v) : t.settledAs c v := by
  cases c with
  | freeToAir => exact h
  | package p => exact h.trans (by rw [hi.packageValid])
  | event e =>
    simp only [State.settledAs, hi.entitled, hi.nowMinute] at h ⊢
    split
    · next he => rwa [if_pos he] at h
    · next he =>
      rw [if_neg he] at h
      exact hp e rfl h

end Sys2Proof.Machine
end

section
/-! PROOFS. The recomputation of halves (R120): a half recomputed is settled on the tables as they then stand, a half
settled before stays so, and the depth of the recursion suffices, since each replaced preview entry is one of an ended
event. -/

namespace Sys2Proof.Machine

/-! ### Halves at their places -/

theorem State.halfAt_setHalf (s : State) (l k : HalfPlace) (x : Option Half) :
    (s.setHalf l x).halfAt k = if l = k then x else s.halfAt k := by
  obtain ⟨c, p⟩ := l
  obtain ⟨d, q⟩ := k
  unfold State.halfAt State.setHalf
  rw [State.modCtx_get]
  by_cases hc : c = d
  · subst hc
    rw [if_pos rfl]
    by_cases hp : p = q
    · subst hp
      simp [Context.setHalf_same]
    · rw [Context.setHalf_other _ _ (Ne.symm hp), if_neg (by simp [hp])]
  · rw [if_neg hc, if_neg (by simp [hc])]

/-- The EVENT criteria at a place. -/
def State.eventAt (s : State) (l : HalfPlace) : Option EventCriteria := (s.halfAt l).bind Half.eventCriteria

theorem State.mem_halvesOf {s : State} {event : Nat} {l : HalfPlace} :
    l ∈ s.halvesOf event ↔ ∃ e : EventCriteria, s.eventAt l = some e ∧ e.event = event := by
  simp only [State.halvesOf, List.mem_filter, mem_allHalves, true_and, State.eventAt]
  cases (s.halfAt l).bind Half.eventCriteria <;> simp

theorem VerdictOnly.isSome {x y : Option Half} (h : VerdictOnly x y) : y.isSome = x.isSome := by
  simpa using congrArg Option.isSome h.same.symm

theorem VerdictOnly.eq {x y : Half} (h : VerdictOnly (some x) (some y)) : y = { x with verdict := y.verdict } := by
  have hsame := Option.some.inj h.same
  obtain ⟨_, _, _, _, _, _, _⟩ := x
  obtain ⟨_, _, _, _, _, _, _⟩ := y
  simp_all

theorem VerdictFields.half {x y : Context} (h : VerdictFields x y) (p : HalfParity) :
    VerdictOnly (x.half p) (y.half p) := by
  cases p
  · exact h.even
  · exact h.odd

/-! ### Settled halves -/

/-- R120: the half at a place, if there is one, has the verdict that its criteria give on the tables as they stand. -/
def State.settledAt (s : State) (l : HalfPlace) : Prop :=
  ∀ h : Half, s.halfAt l = some h → s.settledAs h.criteria h.verdict

/-- R120: the half `h` at place `l` is given its verdict. -/
def State.withVerdict (s : State) (l : HalfPlace) (h : Half) (j : Judged) : State :=
  ({ s with access := j.access } : State).setHalf l (some { h with verdict := j.verdict })

theorem JudgeEffect.owned {s : State} {c : Criteria} {j : Judged} (h : JudgeEffect s c j) :
    j.access.owned = s.access.owned := by
  cases h with
  | settled => rfl
  | previewed e hc hn h => cases h <;> rfl

theorem JudgeEffect.again {s t : State} {c : Criteria} {j : Judged} (h : JudgeEffect s c j) (hi : JudgeInputs s t)
    (ha : t.access = j.access) : t.settledAs c j.verdict := by
  cases h with
  | settled h =>
    refine h.congr hi fun e _ he => ?_
    rwa [ha]
  | previewed e hc hn h =>
    subst hc
    simp only [State.settledAs, hi.entitled, hi.nowMinute]
    rw [if_neg hn, ha]
    exact h.again

theorem JudgeEffect.keeps {s t : State} {c d : Criteria} {j : Judged} {v : Verdict} (h : JudgeEffect s c j)
    (hi : JudgeInputs s t) (ha : t.access = j.access) (hd : s.settledAs d v)
    (hr : ∀ e : EventCriteria, d = .event e → j.replaced ≠ some e.event) : t.settledAs d v := by
  refine hd.congr hi fun e he hs => ?_
  rw [ha]
  cases h with
  | settled => exact hs
  | previewed _ _ _ h => exact h.keeps hs (hr e he)

section OneHalf

variable {s : State} {l : HalfPlace} {h : Half} {j : Judged}

theorem State.withVerdict_inputs (hj : JudgeEffect s h.criteria j) : JudgeInputs s (s.withVerdict l h j) :=
  ⟨rfl, rfl, hj.owned⟩

theorem State.withVerdict_halfAt (k : HalfPlace) : (s.withVerdict l h j).halfAt k =
    if l = k then some { h with verdict := j.verdict } else s.halfAt k :=
  State.halfAt_setHalf _ l k _

theorem State.withVerdict_eventAt (hl : s.halfAt l = some h) (k : HalfPlace) :
    (s.withVerdict l h j).eventAt k = s.eventAt k := by
  unfold State.eventAt
  rw [State.withVerdict_halfAt]
  split
  · next hk =>
    subst hk
    rw [hl]
    rfl
  · rfl

/-- R120: the recomputed half is settled. -/
theorem State.withVerdict_settles (hj : JudgeEffect s h.criteria j) : (s.withVerdict l h j).settledAt l := by
  intro g hg
  rw [State.withVerdict_halfAt, if_pos rfl] at hg
  cases hg
  exact hj.again (State.withVerdict_inputs hj) rfl

/-- R120: the other halves stay settled, but for those of the event whose preview entry was replaced. -/
theorem State.withVerdict_keeps (hj : JudgeEffect s h.criteria j) {k : HalfPlace} (hk : s.settledAt k)
    (hr : ∀ e : EventCriteria, s.eventAt k = some e → j.replaced ≠ some e.event) :
    (s.withVerdict l h j).settledAt k := by
  by_cases hlk : l = k
  · exact hlk ▸ State.withVerdict_settles hj
  · intro g hg
    rw [State.withVerdict_halfAt, if_neg hlk] at hg
    refine hj.keeps (State.withVerdict_inputs hj) rfl (hk g hg) fun e he => hr e ?_
    rw [State.eventAt, hg]
    exact Half.eventCriteria_eq_some.mpr he

end OneHalf

/-! ### How deep a recomputation goes -/

/-- A preview entry's event has ended. -/
def PreviewEntry.ended (x : PreviewEntry) (t : Option Nat) : Bool := t.any (fun m => x.endMinute ≤ m)

/-- The event of the half at a place has a preview entry that may be replaced. -/
def State.staleAt (s : State) (l : HalfPlace) : Bool :=
  (s.eventAt l).any (fun e => s.access.previews.any (fun x => x.event = e.event && x.ended s.guide.nowMinute))

/-- How many places have such a half. -/
def State.staleHalves (s : State) : Nat := (allHalves.toFinset.filter (fun l => s.staleAt l = true)).card

theorem State.staleHalves_le (s : State) : s.staleHalves ≤ 16 :=
  (Finset.card_filter_le _ _).trans (List.toFinset_card_le allHalves)

theorem State.staleAt_iff {s : State} {l : HalfPlace} : s.staleAt l = true ↔ ∃ e : EventCriteria, s.eventAt l = some e ∧
    ∃ x ∈ s.access.previews, x.event = e.event ∧ x.ended s.guide.nowMinute = true := by
  simp only [State.staleAt, Option.any_eq_true, List.any_eq_true, Bool.and_eq_true, decide_eq_true_eq]

/-- R119: judging adds no entry of an ended event. -/
theorem PreviewEffect.ended_mem {a : AccessUnit} {e : EventCriteria} {t : Option Nat} {j : Judged}
    (h : PreviewEffect a e t j) {x : PreviewEntry} (hx : x ∈ j.access.previews) (he : x.ended t = true) :
    x ∈ a.previews := by
  have hfresh (hb : ¬ e.barred t) : ¬ e.fresh.ended t = true := by
    intro hend
    obtain ⟨m, ht, hle⟩ := (Option.any_eq_true _ _).mp hend
    exact absurd (of_decide_eq_true hle) (Nat.not_le.mpr (EventCriteria.fresh_live hb ht))
  cases h with
  | settled => exact hx
  | entered hb =>
    rcases List.mem_append.mp hx with hx | hx
    · exact hx
    · rw [List.mem_singleton.mp hx] at he
      exact absurd he (hfresh hb)
  | replaced hb =>
    obtain ⟨y, hy, rfl⟩ := List.mem_map.mp hx
    split at he
    · exact absurd he (hfresh hb)
    · next hne => rwa [if_neg hne]

/-- R119 step 4: the event whose entry is replaced had one of an ended event, and has none afterwards. -/
theorem PreviewEffect.replaced_entry {a : AccessUnit} {e : EventCriteria} {t : Option Nat} {j : Judged} {event : Nat}
    (h : PreviewEffect a e t j) (hr : j.replaced = some event) :
    (∃ x ∈ a.previews, x.event = event ∧ x.ended t = true) ∧ ∀ x ∈ j.access.previews, x.event ≠ event := by
  cases h with
  | settled => cases hr
  | entered => cases hr
  | replaced _ absent _ old hold =>
    cases hr
    obtain ⟨hmem, m, ht, hle⟩ := AccessUnit.replaceable_some hold
    refine ⟨⟨old, hmem, rfl, (Option.any_eq_true _ _).mpr ⟨m, ht, decide_eq_true hle⟩⟩, fun x hx => ?_⟩
    obtain ⟨y, -, rfl⟩ := List.mem_map.mp hx
    split
    · exact (AccessUnit.entryOf_none absent hmem).symm
    · assumption

theorem JudgeEffect.ended_mem {s : State} {c : Criteria} {j : Judged} (h : JudgeEffect s c j) {x : PreviewEntry}
    (hx : x ∈ j.access.previews) (he : x.ended s.guide.nowMinute = true) : x ∈ s.access.previews := by
  cases h with
  | settled => exact hx
  | previewed _ _ _ h => exact h.ended_mem hx he

theorem JudgeEffect.replaced_entry {s : State} {c : Criteria} {j : Judged} {event : Nat} (h : JudgeEffect s c j)
    (hr : j.replaced = some event) :
    (∃ x ∈ s.access.previews, x.event = event ∧ x.ended s.guide.nowMinute = true) ∧
      ∀ x ∈ j.access.previews, x.event ≠ event := by
  cases h with
  | settled => cases hr
  | previewed _ _ _ h => exact h.replaced_entry hr

theorem State.withVerdict_staleAt {s : State} {l k : HalfPlace} {h : Half} {j : Judged} (hl : s.halfAt l = some h)
    (hj : JudgeEffect s h.criteria j) (hk : (s.withVerdict l h j).staleAt k = true) : s.staleAt k = true := by
  obtain ⟨e, he, x, hx, hevent, hend⟩ := State.staleAt_iff.mp hk
  rw [State.withVerdict_eventAt hl] at he
  exact State.staleAt_iff.mpr ⟨e, he, x, hj.ended_mem hx hend, hevent, hend⟩

theorem State.withVerdict_staleHalves {s : State} {l : HalfPlace} {h : Half} {j : Judged} (hl : s.halfAt l = some h)
    (hj : JudgeEffect s h.criteria j) : (s.withVerdict l h j).staleHalves ≤ s.staleHalves :=
  Finset.card_le_card (Finset.monotone_filter_right _ fun _ _ hk => State.withVerdict_staleAt hl hj hk)

/-- R119 step 4: a replacement that makes halves to recompute leaves fewer that can replace an entry in turn. -/
theorem State.withVerdict_staleHalves_lt {s : State} {l k : HalfPlace} {h : Half} {j : Judged} {event : Nat}
    (hl : s.halfAt l = some h) (hj : JudgeEffect s h.criteria j) (hr : j.replaced = some event)
    (hk : k ∈ (s.withVerdict l h j).halvesOf event) : (s.withVerdict l h j).staleHalves < s.staleHalves := by
  obtain ⟨⟨x, hx, hxe, hend⟩, hgone⟩ := hj.replaced_entry hr
  obtain ⟨e, he, hee⟩ := State.mem_halvesOf.mp hk
  have hbefore : s.staleAt k = true := State.staleAt_iff.mpr
    ⟨e, (State.withVerdict_eventAt hl k).symm.trans he, x, hx, hxe.trans hee.symm, hend⟩
  have hafter : ¬ (s.withVerdict l h j).staleAt k = true := by
    intro hs
    obtain ⟨e', he', y, hy, hye, -⟩ := State.staleAt_iff.mp hs
    rw [he] at he'
    cases he'
    exact hgone y hy (hye.trans hee)
  refine Finset.card_lt_card (Finset.ssubset_iff_of_subset ?_ |>.mpr ⟨k, ?_, ?_⟩)
  · exact Finset.monotone_filter_right _ fun _ _ hk => State.withVerdict_staleAt hl hj hk
  · exact Finset.mem_filter.mpr ⟨List.mem_toFinset.mpr (mem_allHalves k), hbefore⟩
  · exact fun hm => hafter (Finset.mem_filter.mp hm).2

/-! ### A recomputation settles halves (R120) -/

/-- Halves settled before stay settled, those of the listed places are settled, and no further half can replace an
entry. -/
structure Settles (ls : List HalfPlace) (s t : State) : Prop where
  kept : ∀ k : HalfPlace, s.settledAt k → t.settledAt k
  done : ∀ k ∈ ls, t.settledAt k
  stale : t.staleHalves ≤ s.staleHalves

theorem Settles.foldl {f : State → HalfPlace → State} {d : Nat}
    (hf : ∀ (s : State) (l : HalfPlace), s.staleHalves < d → Settles [l] s (f s l)) (ls : List HalfPlace) {s : State}
    (hs : ls ≠ [] → s.staleHalves < d) : Settles ls s (ls.foldl f s) := by
  induction ls generalizing s with
  | nil => exact ⟨fun _ h => h, by simp, Nat.le_refl _⟩
  | cons l ls ih =>
    have hlt := hs (List.cons_ne_nil l ls)
    have hone := hf s l hlt
    have hrest := ih (s := f s l) fun _ => hone.stale.trans_lt hlt
    refine ⟨fun k hk => hrest.kept k (hone.kept k hk), fun k hk => ?_, hrest.stale.trans hone.stale⟩
    rcases List.mem_cons.mp hk with rfl | hk
    · exact hrest.kept k (hone.done k (List.mem_singleton_self k))
    · exact hrest.done k hk

theorem State.recomputeHalf_absent {s : State} {l : HalfPlace} (hl : s.halfAt l = none) (d : Nat) :
    State.recomputeHalf (d + 1) s l = s := by
  simp only [State.recomputeHalf, hl]

theorem State.recomputeHalf_present {s : State} {l : HalfPlace} {h : Half} (hl : s.halfAt l = some h) (d : Nat) :
    State.recomputeHalf (d + 1) s l = match (s.judge h.criteria).replaced with
      | none => s.withVerdict l h (s.judge h.criteria)
      | some e => ((s.withVerdict l h (s.judge h.criteria)).halvesOf e).foldl (State.recomputeHalf d)
          (s.withVerdict l h (s.judge h.criteria)) := by
  simp only [State.recomputeHalf, hl]
  rfl

/-- R120: with a depth above the number of halves that can replace an entry, the recomputation of a half settles it,
and the halves it unsettles by a replacement it settles again at once. -/
theorem State.recomputeHalf_settles (d : Nat) (s : State) (l : HalfPlace) (hd : s.staleHalves < d) :
    Settles [l] s (State.recomputeHalf d s l) := by
  induction d generalizing s l with
  | zero => exact absurd hd (Nat.not_lt_zero _)
  | succ d ih =>
    cases hl : s.halfAt l with
    | none =>
      rw [State.recomputeHalf_absent hl]
      refine ⟨fun _ h => h, fun k hk h hh => ?_, Nat.le_refl _⟩
      rw [List.mem_singleton.mp hk, hl] at hh
      cases hh
    | some h =>
      rw [State.recomputeHalf_present hl]
      have hj := s.judge_effect h.criteria
      have hsettled := State.withVerdict_settles (l := l) hj
      have hstale := State.withVerdict_staleHalves hl hj
      cases hr : (s.judge h.criteria).replaced with
      | none =>
        refine ⟨fun k hk => State.withVerdict_keeps hj hk fun e _ => by simp [hr], fun k hk => ?_, hstale⟩
        rwa [List.mem_singleton.mp hk]
      | some event =>
        have hfold := Settles.foldl (fun s l => ih s l) (s := s.withVerdict l h (s.judge h.criteria))
          ((s.withVerdict l h (s.judge h.criteria)).halvesOf event) fun hne => by
            obtain ⟨k, hk⟩ := List.exists_mem_of_ne_nil _ hne
            have hlt := State.withVerdict_staleHalves_lt hl hj hr hk
            omega
        refine ⟨fun k hk => ?_, fun k hk => ?_, hfold.stale.trans hstale⟩
        · by_cases hevent : k ∈ (s.withVerdict l h (s.judge h.criteria)).halvesOf event
          · exact hfold.done k hevent
          · refine hfold.kept k (State.withVerdict_keeps hj hk fun e he hre => hevent ?_)
            rw [hr] at hre
            exact State.mem_halvesOf.mpr ⟨e, (State.withVerdict_eventAt hl k).trans he, (Option.some.inj hre).symm⟩
        · rw [List.mem_singleton.mp hk]
          exact hfold.kept l hsettled

/-- R120: after a recomputation of every half, every half is settled. -/
theorem State.recompute_settles (s : State) (l : HalfPlace) : (s.recompute allHalves).settledAt l :=
  (Settles.foldl (State.recomputeHalf_settles recomputeDepth) allHalves
    fun _ => s.staleHalves_le.trans_lt (by decide)).done l (mem_allHalves l)

end Sys2Proof.Machine
end

section
/-! PROOFS. What a settled half says (R118, R119), and what a recomputation leaves of the preview table (R119, R122). -/

namespace Sys2Proof.Machine

/-! ### A settled half is judged (R118, R119) -/

theorem State.includedBy_iff (s : State) (e : EventCriteria) : s.includedBy e = true ↔
    ∃ k : Nat, e.including = some k ∧ s.packageValid k = true := by
  unfold State.includedBy
  cases e.including <;> simp

theorem AccessUnit.owns_iff (a : AccessUnit) (event : Nat) : a.owns event = true ↔ ∃ x ∈ a.owned, x.event = event := by
  simp [AccessUnit.owns]

theorem EventCriteria.barred_iff (e : EventCriteria) (t : Option Nat) : e.barred t ↔
    e.preview = 0 ∨ ∃ m : Nat, t = some m ∧ e.start + e.duration ≤ m := by
  unfold EventCriteria.barred EventCriteria.endedAt
  cases t <;> simp

theorem PreviewSettled.verdict {a : AccessUnit} {e : EventCriteria} {t : Option Nat} {v : Verdict}
    (h : PreviewSettled a e t v) : v = .preview ∨ v = .purchaseNeeded := by
  cases h with
  | barred => exact .inr rfl
  | listed _ x _ =>
    by_cases hx : x.seconds < e.preview * 60 <;> simp [hx]
  | refused => exact .inr rfl

theorem PreviewSettled.of_barred {a : AccessUnit} {e : EventCriteria} {t : Option Nat} {v : Verdict}
    (h : PreviewSettled a e t v) (hb : e.barred t) : v = .purchaseNeeded := by
  cases h with
  | barred => rfl
  | listed hn => exact absurd hb hn
  | refused hn => exact absurd hb hn

/-- R119: in a table without repeated events the seconds are those of the event's one entry. -/
theorem AccessUnit.entryOf_unique {a : AccessUnit} (hn : (a.previews.map (·.event)).Nodup) {event : Nat}
    {x y : PreviewEntry} (hx : a.entryOf event = some x) (hy : y ∈ a.previews) (he : y.event = event) : y = x := by
  obtain ⟨hmem, hevent⟩ := AccessUnit.entryOf_some hx
  exact List.inj_on_of_nodup_map hn hy hmem (he.trans hevent.symm)

theorem PreviewSettled.allowed {a : AccessUnit} {e : EventCriteria} {t : Option Nat} {v : Verdict}
    (h : PreviewSettled a e t v) (hb : ¬ e.barred t) (hn : (a.previews.map (·.event)).Nodup) :
    (v = .preview ↔ ∃ x ∈ a.previews, x.event = e.event ∧ x.seconds < e.preview * 60) ∧
      ((∃ x ∈ a.previews, x.event = e.event) ∨ 16 ≤ a.previews.length ∧
        ∀ (x : PreviewEntry) (m : Nat), x ∈ a.previews → t = some m → m < x.endMinute) := by
  cases h with
  | barred hbarred => exact absurd hbarred hb
  | listed _ x hx =>
    obtain ⟨hmem, hevent⟩ := AccessUnit.entryOf_some hx
    refine ⟨?_, .inl ⟨x, hmem, hevent⟩⟩
    have hseconds : (∃ y ∈ a.previews, y.event = e.event ∧ y.seconds < e.preview * 60) ↔ x.seconds < e.preview * 60 :=
      ⟨fun ⟨y, hy, he, hlt⟩ => AccessUnit.entryOf_unique hn hx hy he ▸ hlt, fun hlt => ⟨x, hmem, hevent, hlt⟩⟩
    rw [hseconds]
    by_cases hlt : x.seconds < e.preview * 60 <;> simp [hlt]
  | refused _ absent full kept =>
    refine ⟨iff_of_false (by simp) ?_, .inr ⟨full, fun x m hx ht => AccessUnit.replaceable_none kept hx ht⟩⟩
    rintro ⟨x, hx, he, -⟩
    exact AccessUnit.entryOf_none absent hx he

theorem State.settledAs.judged {s : State} {h : Half} (hs : s.settledAs h.criteria h.verdict) : halfJudged h s := by
  refine ⟨fun hc => ?_, fun k hc => ?_, fun e hc => ⟨fun hent => ?_, fun hpackage howned => ?_⟩⟩
  · rw [hc] at hs
    exact hs
  · rw [hc] at hs
    exact hs
  · rw [hc] at hs
    simp only [State.settledAs] at hs
    rwa [if_pos (Bool.or_eq_true_iff.mpr (hent.imp (s.includedBy_iff e).mpr (s.access.owns_iff e.event).mpr))] at hs
  · rw [hc] at hs
    have hnot : ¬ (s.includedBy e || s.access.owns e.event) = true := by
      rw [Bool.or_eq_true, s.includedBy_iff, s.access.owns_iff]
      rintro (hi | ⟨x, hx, he⟩)
      · exact hpackage hi
      · exact howned x hx he
    simp only [State.settledAs] at hs
    rw [if_neg hnot] at hs
    refine ⟨hs.verdict, fun hb => hs.of_barred ((e.barred_iff _).mpr hb), fun hpos hlive hn => hs.allowed ?_ hn⟩
    rw [e.barred_iff]
    rintro (h0 | ⟨m, hm, hle⟩)
    · omega
    · exact absurd hle (Nat.not_le.mpr (hlive m hm))

/-- R118, R120: where nothing but verdicts changed of the halves, and every half is settled, every verdict is what the
criteria give on the tables as they stand. -/
theorem halvesJudged_of_settled {s t : State} (h : ∀ c : Fin 8, VerdictFields s.ctxs[c] t.ctxs[c])
    (ht : ∀ l : HalfPlace, t.settledAt l) : halvesJudged s t := by
  intro c p
  have honly := (h c).half p
  refine ⟨honly.isSome, fun x y hx hy => ⟨?_, (ht (c, p) y hy).judged⟩⟩
  rw [hx, hy] at honly
  exact honly.eq

/-! ### What a recomputation leaves of the preview table (R119, R122) -/

/-- R119, R122: at now-minute `t`, the entries that judging adds are those of events that have not ended, and in a table
without repeated events those of events that have not ended stay. -/
structure PreviewWork (t : Option Nat) (a b : AccessUnit) : Prop where
  live : ∀ x ∈ b.previews, x ∈ a.previews ∨ ∀ m : Nat, t = some m → m < x.endMinute
  nodup : (a.previews.map (·.event)).Nodup → (b.previews.map (·.event)).Nodup
  kept : (a.previews.map (·.event)).Nodup → ∀ x ∈ a.previews, (∀ m : Nat, t = some m → m < x.endMinute) →
    x ∈ b.previews

theorem PreviewWork.refl (t : Option Nat) (a : AccessUnit) : PreviewWork t a a :=
  ⟨fun _ hx => .inl hx, fun h => h, fun _ _ hx _ => hx⟩

theorem PreviewWork.trans {t : Option Nat} {a b c : AccessUnit} (h : PreviewWork t a b) (k : PreviewWork t b c) :
    PreviewWork t a c :=
  ⟨fun x hx => (k.live x hx).elim (h.live x) .inr, fun hn => k.nodup (h.nodup hn),
    fun hn x hx hm => k.kept (h.nodup hn) x (h.kept hn x hx hm) hm⟩

theorem AccessUnit.entering_work {a : AccessUnit} {e : EventCriteria} {t : Option Nat} (hb : ¬ e.barred t)
    (absent : a.entryOf e.event = none) : PreviewWork t a (a.entering e) := by
  refine ⟨fun x hx => ?_, fun hn => ?_, fun _ x hx _ => List.mem_append_left _ hx⟩
  · rcases List.mem_append.mp hx with hx | hx
    · exact .inl hx
    · exact .inr fun m hm => List.mem_singleton.mp hx ▸ EventCriteria.fresh_live hb hm
  · have hnot : e.fresh.event ∉ a.previews.map (·.event) := by
      rintro hmem
      obtain ⟨x, hx, he⟩ := List.mem_map.mp hmem
      exact AccessUnit.entryOf_none absent hx he
    simpa [AccessUnit.entering, List.nodup_append, hn] using hnot

theorem AccessUnit.replacing_work {a : AccessUnit} {e : EventCriteria} {t : Option Nat} {old : PreviewEntry}
    (hb : ¬ e.barred t) (absent : a.entryOf e.event = none) (hold : a.replaceable t = some old) :
    PreviewWork t a (a.replacing old.event e) := by
  obtain ⟨hmem, m, ht, hle⟩ := AccessUnit.replaceable_some hold
  refine ⟨fun x hx => ?_, fun hn => ?_, fun hn x hx hlive => ?_⟩
  · obtain ⟨y, hy, rfl⟩ := List.mem_map.mp hx
    split
    · exact .inr fun m hm => EventCriteria.fresh_live hb hm
    · exact .inl hy
  · have hevents : (a.replacing old.event e).previews.map (·.event) =
        (a.previews.map (·.event)).map (fun n => if n = old.event then e.event else n) := by
      simp only [AccessUnit.replacing, List.map_map]
      refine List.map_congr_left fun x _ => ?_
      by_cases hx : x.event = old.event <;> simp [hx, EventCriteria.fresh]
    have hnew {n : Nat} (h : n ∈ a.previews.map (·.event)) : n ≠ e.event := by
      obtain ⟨x, hx, rfl⟩ := List.mem_map.mp h
      exact AccessUnit.entryOf_none absent hx
    rw [hevents]
    refine List.Nodup.map_on (fun n hn k hk heq => ?_) hn
    by_cases h1 : n = old.event <;> by_cases h2 : k = old.event
    · exact h1.trans h2.symm
    · rw [if_pos h1, if_neg h2] at heq
      exact absurd heq.symm (hnew hk)
    · rw [if_neg h1, if_pos h2] at heq
      exact absurd heq (hnew hn)
    · rwa [if_neg h1, if_neg h2] at heq
  · have hne : x.event ≠ old.event := fun he =>
      absurd (hlive m ht) (Nat.not_lt.mpr (List.inj_on_of_nodup_map hn hx hmem he ▸ hle))
    exact List.mem_map.mpr ⟨x, hx, if_neg hne⟩

theorem JudgeEffect.previews {s : State} {c : Criteria} {j : Judged} (h : JudgeEffect s c j) :
    PreviewWork s.guide.nowMinute s.access j.access := by
  cases h with
  | settled => exact .refl _ _
  | previewed e _ _ h =>
    cases h with
    | settled => exact .refl _ _
    | entered hb absent => exact AccessUnit.entering_work hb absent
    | replaced hb absent _ old hold => exact AccessUnit.replacing_work hb absent hold

theorem State.foldl_previews {f : State → HalfPlace → State} (hf : ∀ s l, VerdictWork s (f s l))
    (hp : ∀ s l, PreviewWork s.guide.nowMinute s.access (f s l).access) (ls : List HalfPlace) (s : State) :
    PreviewWork s.guide.nowMinute s.access (ls.foldl f s).access := by
  induction ls generalizing s with
  | nil => exact .refl _ _
  | cons l ls ih =>
    have hrest := ih (f s l)
    rw [(hf s l).guide] at hrest
    exact (hp s l).trans hrest

theorem State.recomputeHalf_previews (d : Nat) (s : State) (l : HalfPlace) :
    PreviewWork s.guide.nowMinute s.access (State.recomputeHalf d s l).access := by
  induction d generalizing s l with
  | zero => exact .refl _ _
  | succ d ih =>
    cases hl : s.halfAt l with
    | none =>
      rw [State.recomputeHalf_absent hl]
      exact .refl _ _
    | some h =>
      rw [State.recomputeHalf_present hl]
      have hone : PreviewWork s.guide.nowMinute s.access (s.withVerdict l h (s.judge h.criteria)).access :=
        (s.judge_effect h.criteria).previews
      split
      · exact hone
      · exact hone.trans (State.foldl_previews (State.recomputeHalf_work d) ih _
          (s.withVerdict l h (s.judge h.criteria)))

/-- R120, R122: what a recomputation leaves of the preview table. -/
theorem State.recompute_previews (s : State) (ls : List HalfPlace) :
    PreviewWork s.guide.nowMinute s.access (s.recompute ls).access :=
  State.foldl_previews (State.recomputeHalf_work _) (State.recomputeHalf_previews _) ls s

end Sys2Proof.Machine
end

section
/-! PROOFS. Offers that follow gates (R134, R135), the deferred GATE notices (R178), and what of a context's governing
half a recomputation leaves (R84, R120). -/

namespace Sys2Proof.Machine

/-! ### The governing half under a recomputation (R84, R120) -/

/-- A half without its verdict. -/
def Half.unjudged (h : Half) : Half := { h with verdict := .notEntitled }

theorem VerdictOnly.cases {x y : Option Half} (h : VerdictOnly x y) :
    (x = none ∧ y = none) ∨ ∃ a b : Half, x = some a ∧ y = some b ∧ a.unjudged = b.unjudged := by
  cases x <;> cases y
  · exact .inl ⟨rfl, rfl⟩
  · cases h.isSome
  · cases h.isSome
  · exact .inr ⟨_, _, rfl, rfl, Option.some.inj h.same⟩

theorem Half.order_of_unjudged {a b : Half} (h : a.unjudged = b.unjudged) : a.order = b.order :=
  (congrArg Half.order h :)

/-- R84: which half governs does not depend on verdicts. -/
theorem VerdictFields.latest {x y : Context} (h : VerdictFields x y) :
    y.latest.map (fun g => (g.1, g.2.unjudged)) = x.latest.map (fun g => (g.1, g.2.unjudged)) := by
  unfold Context.latest
  rcases h.even.cases with ⟨hx, hy⟩ | ⟨a, b, hx, hy, hab⟩ <;>
    rcases h.odd.cases with ⟨hx', hy'⟩ | ⟨a', b', hx', hy', hab'⟩ <;> rw [hx, hy, hx', hy']
  · simp [hab']
  · simp [hab]
  · simp only [Half.order_of_unjudged hab, Half.order_of_unjudged hab']
    split <;> simp [hab, hab']

theorem VerdictFields.governing {x y : Context} (h : VerdictFields x y) :
    y.governing.map (fun g => (g.1, g.2.unjudged)) = x.governing.map (fun g => (g.1, g.2.unjudged)) := by
  rw [Context.governing_eq, Context.governing_eq, h.parity]
  cases x.parity with
  | none => exact h.latest
  | some p =>
    rcases (h.half p).cases with ⟨hx, hy⟩ | ⟨a, b, hx, hy, hab⟩
    · simpa [hx, hy] using h.latest
    · simp [hx, hy, hab]

/-- R92: with the same governing verdict the governing half is the same. -/
theorem VerdictFields.governing_eq {x y : Context} (h : VerdictFields x y)
    (hv : y.governingVerdict = x.governingVerdict) : y.governing = x.governing := by
  have hg := h.governing
  unfold Context.governingVerdict at hv
  cases hx : x.governing with
  | none => simpa [hx] using hg
  | some g =>
    cases hy : y.governing with
    | none => simp [hx, hy] at hg
    | some k =>
      rw [hx, hy] at hg hv
      simp only [Option.map_some, Option.some.injEq, Prod.mk.injEq] at hg hv
      obtain ⟨p, a⟩ := g
      obtain ⟨q, b⟩ := k
      obtain ⟨rfl, hab⟩ := hg
      have heq : b = a := by
        obtain ⟨_, _, _, _, _, _, _⟩ := a
        obtain ⟨_, _, _, _, _, _, _⟩ := b
        simp_all [Half.unjudged]
      rw [heq]

/-! ### Offers (R134, R135) -/

/-- R134: the offer due to an output whose gate stands CLOSED with PURCHASE: its governing half's event at the price of
now. -/
def State.dueOffer (s : State) (x : Fin 6) : Option Offer :=
  (s.offeredEvent x).bind (fun e => (s.priceNow e).map (fun p => ⟨e.event, p⟩))

/-- R134: an offer is outstanding only where the gate stands CLOSED with PURCHASE. -/
def offerGuarded (s : State) (x : Fin 6) : Prop :=
  (s.outs[x]).offer ≠ none → (s.outs[x]).gate = .closed .purchase

/-- R134, R135: the offer of an output is the one due. -/
def offerStands (s : State) (x : Fin 6) : Prop :=
  (s.outs[x]).offer = if (s.outs[x]).gate = .closed .purchase then s.dueOffer x else none

/-- What the due offer reads is the same in two states: the tune record, the governing half's event, now-minute. -/
structure OfferInputs (x : Fin 6) (s t : State) : Prop where
  tune : (t.outs[x]).tune = (s.outs[x]).tune
  nowMinute : t.guide.nowMinute = s.guide.nowMinute
  event : ∀ c : Fin 8, ((t.ctxs[c]).governing.bind fun g => g.2.eventCriteria) =
    (s.ctxs[c]).governing.bind fun g => g.2.eventCriteria

theorem OfferInputs.offeredEvent {x : Fin 6} {s t : State} (h : OfferInputs x s t) :
    t.offeredEvent x = s.offeredEvent x := by
  unfold State.offeredEvent State.governingOf State.contextOf
  rw [h.tune]
  cases (s.outs[x]).tune with
  | none => rfl
  | some v => exact h.event v.context

theorem OfferInputs.priceNow {x : Fin 6} {s t : State} (h : OfferInputs x s t) (e : EventCriteria) :
    t.priceNow e = s.priceNow e := by
  unfold State.priceNow
  rw [h.nowMinute]

theorem OfferInputs.dueOffer {x : Fin 6} {s t : State} (h : OfferInputs x s t) : t.dueOffer x = s.dueOffer x := by
  unfold State.dueOffer
  rw [h.offeredEvent]
  simp only [h.priceNow]

theorem GateWork.offerInputs {s t : State} (h : GateWork s t) (x : Fin 6) : OfferInputs x s t :=
  ⟨(h.outs x).tune, by rw [h.guide], fun c => by rw [h.ctxs]⟩

theorem offerStands.congr {s t : State} {x : Fin 6} (h : offerStands s x) (hi : OfferInputs x s t)
    (ho : t.outs[x] = s.outs[x]) : offerStands t x := by
  unfold offerStands
  rw [ho, hi.dueOffer]
  exact h

theorem State.offerOrNone_offer (s : State) (o : Fin 6) : ((s.offerOrNone o).outs[o]).offer = s.dueOffer o := by
  unfold State.offerOrNone State.dueOffer
  split
  · next he => rw [State.dropOffer, State.modOut_same, he]; rfl
  · next e he =>
    rw [he]
    split
    · next hp => rw [State.dropOffer, State.modOut_same, Option.bind_some, hp]; rfl
    · next p hp => rw [State.makeOffer, State.modOut_same, Option.bind_some, hp]; rfl

/-- R134: the offer after a gate value has been handed over. -/
theorem State.handValue_offer (s : State) (o : Fin 6) (g : Gate) :
    (g ≠ .closed .purchase → ((s.handValue o g).outs[o]).offer = none) ∧
    (g = .closed .purchase → ((s.handValue o g).outs[o]).offer = s.dueOffer o ∨
      (s.outs[o]).offer ≠ none ∧ ((s.handValue o g).outs[o]).offer = (s.outs[o]).offer) := by
  unfold State.handValue
  constructor
  · intro hg
    rw [if_neg hg, State.dropOffer, State.modOut_same]
  · intro hg
    rw [if_pos hg]
    split
    · exact .inl (s.offerOrNone_offer o)
    · next old hold =>
      split
      · exact .inr ⟨by rw [hold]; exact Option.some_ne_none _, rfl⟩
      · exact .inl (s.offerOrNone_offer o)

/-- R177: the report of a gate leaves the offers alone. -/
theorem State.reportGate_offer (s : State) (o x : Fin 6) (c : GateCause) :
    ((s.reportGate o c).outs[x]).offer = (s.outs[x]).offer := by
  unfold State.reportGate
  split
  · rfl
  · split
    · rfl
    · rw [State.modOut_get]
      split
      · next h => rw [h, State.notify_outs]
      · rw [State.notify_outs]

/-- R176: the state at the end of an evaluation before the gate value is handed over: the gate stands, the offer is
still the one of before. -/
theorem State.evaluate_eq {s : State} {o : Fin 6} {v : Tuned} (h : (s.outs[o]).tune = some v) (c : GateCause)
    (d : Bool) :
    ∃ (u : State) (g : Gate), s.evaluate c d o = u.handValue o g ∧ GateWork s u ∧ (u.outs[o]).gate = g ∧
      (u.outs[o]).offer = (s.outs[o]).offer := by
  let s1 := s.clearStaleUnlock o
  let g := (s1.gateInputs o v).value
  have hstale : ((s.clearStaleUnlock o).outs[o]).offer = (s.outs[o]).offer := by
    unfold State.clearStaleUnlock
    split
    · rfl
    · rw [State.modOut_same]
  have hset : ((s1.setGate o g).outs[o]).gate = g ∧ ((s1.setGate o g).outs[o]).offer = (s.outs[o]).offer := by
    rw [State.setGate, State.modOut_same]
    exact ⟨rfl, hstale⟩
  have hwork := (State.clearStaleUnlock_work s o).trans (State.setGate_work s1 o g)
  cases d with
  | true =>
    refine ⟨s1.setGate o g, g, ?_, hwork, hset⟩
    simp only [State.evaluate, h]
    rfl
  | false =>
    refine ⟨(s1.setGate o g).reportGate o c, g, ?_, hwork.trans (State.reportGate_work _ o c), ?_, ?_⟩
    · simp only [State.evaluate, h]
      rfl
    · rw [(State.reportGate_keepsGate _ o o c).1]
      exact hset.1
    · rw [State.reportGate_offer]
      exact hset.2

/-- R134, R176: after an evaluation of its output an offer is outstanding only with the gate CLOSED with PURCHASE, and
an offer that was the due one is so again. -/
theorem State.evaluate_offer (s : State) (c : GateCause) (d : Bool) (o : Fin 6) :
    offerGuarded (s.evaluate c d o) o ∧ (offerStands s o → offerStands (s.evaluate c d o) o) := by
  cases hv : (s.outs[o]).tune with
  | none =>
    have hidle : ((s.evaluate c d o).outs[o]).offer = none ∧
        ((s.evaluate c d o).outs[o]).gate = .closed .idle := by
      have he : s.evaluate c d o = s.gateIdle o := by simp only [State.evaluate, hv]
      rw [he, State.gateIdle, State.modOut_same]
      exact ⟨rfl, rfl⟩
    refine ⟨fun h => absurd hidle.1 h, fun _ => ?_⟩
    rw [offerStands, hidle.1, hidle.2, if_neg (by decide)]
  | some v =>
    obtain ⟨u, g, he, hw, hgate, hoffer⟩ := State.evaluate_eq hv c d
    have hend : ((s.evaluate c d o).outs[o]).gate = g := by rw [he, (u.handValue_keepsGate o o g).1, hgate]
    have hdue : (s.evaluate c d o).dueOffer o = u.dueOffer o := by
      rw [he]
      exact ((State.handValue_work u o g).offerInputs o).dueOffer
    obtain ⟨hnot, hpurchase⟩ := u.handValue_offer o g
    rw [← he] at hnot hpurchase
    refine ⟨fun h => ?_, fun h => ?_⟩
    · rw [hend]
      by_contra hg
      exact h (hnot hg)
    · rw [offerStands, hend, hdue]
      split
      · next hg =>
        rcases hpurchase hg with hnew | ⟨hne, hold⟩
        · exact hnew
        · rw [hoffer, h] at hne hold
          split at hold
          · rw [hold]
            exact ((hw.offerInputs o).dueOffer).symm
          · next hc => exact absurd (if_neg hc) hne
      · next hg => exact hnot hg

theorem offerGuarded.evaluateAll {s : State} {x : Fin 6} (h : offerGuarded s x) (c : GateCause) (d : Bool)
    (os : List (Fin 6)) : offerGuarded (s.evaluateAll c d os) x := by
  induction os generalizing s with
  | nil => exact h
  | cons o os ih =>
    refine ih ?_
    by_cases e : o = x
    · exact e ▸ (s.evaluate_offer c d o).1
    · rwa [offerGuarded, s.evaluate_others c d e]

theorem offerStands.evaluateAll {s : State} {x : Fin 6} (h : offerStands s x) (c : GateCause) (d : Bool)
    (os : List (Fin 6)) : offerStands (s.evaluateAll c d os) x := by
  induction os generalizing s with
  | nil => exact h
  | cons o os ih =>
    refine ih ?_
    by_cases e : o = x
    · subst e
      exact (s.evaluate_offer c d o).2 h
    · exact h.congr ((State.evaluate_work s c d o).offerInputs x) (s.evaluate_others c d e)

/-! ### The refresh of offers (R135) -/

theorem State.reprice_work (s : State) (o : Fin 6) (old : Offer) : GateWork s (s.reprice o old) := by
  unfold State.reprice
  split
  · exact State.dropOffer_work s o
  · split
    · exact State.dropOffer_work s o
    · split
      · exact GateWork.refl s
      · exact State.makeOffer_work s o _ _

theorem State.refreshOffer_work (s : State) (o : Fin 6) : GateWork s (s.refreshOffer o) := by
  unfold State.refreshOffer
  split
  · split
    · exact State.offerOrNone_work s o
    · exact State.reprice_work s o _
  · exact GateWork.refl s

theorem State.reprice_others (s : State) {o x : Fin 6} (h : o ≠ x) (old : Offer) :
    (s.reprice o old).outs[x] = s.outs[x] := by
  unfold State.reprice State.dropOffer State.makeOffer
  split
  · rw [State.modOut_get, if_neg h]
  · split
    · rw [State.modOut_get, if_neg h]
    · split
      · rfl
      · rw [State.modOut_get, if_neg h, State.notify_outs]

theorem State.refreshOffer_others (s : State) {o x : Fin 6} (h : o ≠ x) :
    (s.refreshOffer o).outs[x] = s.outs[x] := by
  unfold State.refreshOffer
  split
  · split
    · exact s.offerOrNone_others h
    · exact s.reprice_others h _
  · rfl

theorem State.reprice_keepsGate (s : State) (o x : Fin 6) (old : Offer) : keepsGate x s (s.reprice o old) := by
  unfold State.reprice
  split
  · exact State.modOut_keepsGate s o x _ (fun _ => ⟨rfl, rfl⟩)
  · split
    · exact State.modOut_keepsGate s o x _ (fun _ => ⟨rfl, rfl⟩)
    · split
      · exact keepsGate.refl x s
      · exact (State.notify_keepsGate s _ x).trans (State.modOut_keepsGate _ o x _ (fun _ => ⟨rfl, rfl⟩))

theorem State.refreshOffer_keepsGate (s : State) (o x : Fin 6) : keepsGate x s (s.refreshOffer o) := by
  unfold State.refreshOffer
  split
  · split
    · exact State.offerOrNone_keepsGate s o x
    · exact State.reprice_keepsGate s o x _
  · exact keepsGate.refl x s

/-- R135: a repriced offer is the one due. -/
theorem State.reprice_offer {s : State} {o : Fin 6} {old : Offer} (h : (s.outs[o]).offer = some old) :
    ((s.reprice o old).outs[o]).offer = s.dueOffer o := by
  unfold State.reprice State.dueOffer
  split
  · next he => rw [State.dropOffer, State.modOut_same, he]; rfl
  · next e he =>
    rw [he]
    split
    · next hp => rw [State.dropOffer, State.modOut_same, Option.bind_some, hp]; rfl
    · next p hp =>
      rw [Option.bind_some, hp]
      split
      · next hold => rw [h, hold]; rfl
      · rw [State.makeOffer, State.modOut_same]; rfl

/-- R135: after the refresh of its output an offer is the one due. -/
theorem State.refreshOffer_stands {s : State} {o : Fin 6} (h : offerGuarded s o) :
    offerStands (s.refreshOffer o) o := by
  rw [offerStands, (s.refreshOffer_keepsGate o o).1, ((State.refreshOffer_work s o).offerInputs o).dueOffer]
  unfold State.refreshOffer
  split
  · split
    · exact s.offerOrNone_offer o
    · next hold => exact State.reprice_offer hold
  · next hg =>
    by_contra hne
    exact hg (h hne)

theorem offerStands.guarded {s : State} {x : Fin 6} (h : offerStands s x) : offerGuarded s x := by
  intro hne
  by_contra hg
  exact hne (h.trans (if_neg hg))

/-- R135: after the refresh of each output's offer, every offer is the one due. -/
theorem State.refreshOffers_stand {s : State} {x : Fin 6} {os : List (Fin 6)} (hx : x ∈ os) (h : offerGuarded s x) :
    offerStands (os.foldl State.refreshOffer s) x := by
  have hkeep (os : List (Fin 6)) {s : State} (h : offerStands s x) : offerStands (os.foldl State.refreshOffer s) x := by
    induction os generalizing s with
    | nil => exact h
    | cons o os ih =>
      refine ih ?_
      by_cases e : o = x
      · subst e
        exact State.refreshOffer_stands h.guarded
      · exact h.congr ((State.refreshOffer_work s o).offerInputs x) (s.refreshOffer_others e)
  induction os generalizing s with
  | nil => cases hx
  | cons o os ih =>
    by_cases e : o = x
    · subst e
      exact hkeep os (State.refreshOffer_stands h)
    · refine ih ((List.mem_cons.mp hx).resolve_left (Ne.symm e)) ?_
      rwa [offerGuarded, s.refreshOffer_others e]

/-! ### The deferred notices (R178) -/

/-- The reported value of an output that is not IDLE is its gate value. -/
def gateReported (s : State) (x : Fin 6) : Prop := (s.outs[x]).tune ≠ none → (s.outs[x]).reported = (s.outs[x]).gate

theorem State.reportGate_reported (s : State) (o : Fin 6) (c : GateCause) : gateReported (s.reportGate o c) o := by
  unfold State.reportGate
  split
  · next h => exact fun hne => absurd h hne
  · split
    · next h => exact fun _ => h.symm
    · intro _
      rw [State.modOut_same]

/-- R178: after the deferred notices the reported values are the gate values. -/
theorem State.deferredNotices_reported (s : State) (x : Fin 6) : gateReported s.deferredNotices x := by
  have hkeep {s : State} {o : Fin 6} (h : gateReported s x) : gateReported (s.reportGate o .minute) x := by
    by_cases e : o = x
    · exact e ▸ s.reportGate_reported o .minute
    · rwa [gateReported, s.reportGate_others e]
  have hfold (os : List (Fin 6)) (s : State) (h : x ∈ os ∨ gateReported s x) :
      gateReported (os.foldl (fun s o => s.reportGate o .minute) s) x := by
    induction os generalizing s with
    | nil => exact h.resolve_left List.not_mem_nil
    | cons o os ih =>
      refine ih _ ?_
      rcases h with h | h
      · rcases List.mem_cons.mp h with rfl | h
        · exact .inr (s.reportGate_reported x .minute)
        · exact .inl h
      · exact .inr (hkeep h)
  exact hfold allOutputs s (.inl (mem_allOutputs x))

/-- R178: they leave gates, unlocks and offers alone. -/
theorem State.deferredNotices_keeps (s : State) (x : Fin 6) :
    keepsGate x s s.deferredNotices ∧ ((s.deferredNotices).outs[x]).offer = (s.outs[x]).offer := by
  have hfold (os : List (Fin 6)) (s : State) :
      keepsGate x s (os.foldl (fun s o => s.reportGate o .minute) s) ∧
        ((os.foldl (fun s o => s.reportGate o .minute) s).outs[x]).offer = (s.outs[x]).offer := by
    induction os generalizing s with
    | nil => exact ⟨keepsGate.refl x s, rfl⟩
    | cons o os ih =>
      obtain ⟨hgate, hoffer⟩ := ih (s.reportGate o .minute)
      exact ⟨(s.reportGate_keepsGate o x .minute).trans hgate, hoffer.trans (s.reportGate_offer o x .minute)⟩
  exact hfold allOutputs s

end Sys2Proof.Machine
end

section
/-! PROOFS. What the work of a minute tick leaves alone (R40): all blocks, and each block for itself. -/

namespace Sys2Proof.Machine

/-- The kinds of state that the work of a minute tick changes. -/
def tickAreas : List Area := [.own, .guide, .contexts, .outputs, .access, .profiles, .writer, .flashWork]

/-- Guide Tables without what a minute tick changes (R41, R52). -/
def Guide.timeless (g : Guide) : Guide := { g with pool := [], budgetDate := none }

/-- A profile without what a minute tick changes (R167, R168). -/
def Profile.timeless (p : Profile) : Profile :=
  { p with minutesUsed := 0, accumulator := 0, warned := false, result := .pass }

/-- What a profile has of the budget day (R167). -/
def Profile.day (p : Profile) : Nat × Nat × Bool := (p.minutesUsed, p.accumulator, p.warned)

/-- R40: what the work of a minute tick leaves alone, whichever blocks have done theirs. -/
structure TickWork (s t : State) : Prop where
  frame : Frame tickAreas s t
  flashPort : t.flashPort = s.flashPort
  guide : t.guide.timeless = s.guide.timeless
  current : ∀ svc : Nat, t.guide.currentEvent svc = s.guide.currentEvent svc
  ctxs : ∀ c : Fin 8, VerdictFields s.ctxs[c] t.ctxs[c]
  outs : ∀ x : Fin 6, GateFields s.outs[x] t.outs[x]
  profiles : ∀ q : Fin 6, (t.profiles[q]).timeless = (s.profiles[q]).timeless
  noticed : Noticed s t

theorem TickWork.trans {s t u : State} (h : TickWork s t) (k : TickWork t u) : TickWork s u where
  frame := h.frame.trans k.frame (List.Subset.refl _) (List.Subset.refl _)
  flashPort := k.flashPort.trans h.flashPort
  guide := k.guide.trans h.guide
  current svc := (k.current svc).trans (h.current svc)
  ctxs c := (h.ctxs c).trans (k.ctxs c)
  outs x := (h.outs x).trans (k.outs x)
  profiles q := (k.profiles q).trans (h.profiles q)
  noticed := h.noticed.trans k.noticed

theorem GateWork.tick {s t : State} (h : GateWork s t) : TickWork s t where
  frame := h.toFrame.mono (by decide)
  flashPort := h.flashPort
  guide := by rw [h.guide]
  current svc := by rw [h.guide]
  ctxs c := by rw [h.ctxs]; exact .refl _
  outs := h.outs
  profiles q := by rw [h.profiles]
  noticed := h.noticed

theorem VerdictWork.toFrame {s t : State} (h : VerdictWork s t) : Frame [.contexts, .access] s t := by
  refine ⟨?_, by simp only [State.flashFree, h.powerGood, h.part, h.flashPort]⟩
  simp [onlyChanges, Area.forall_iff, Area.same, h.powerGood, h.part, h.ticks, h.cfg, h.path, h.port, h.intake, h.guide,
    h.outs, h.rights, h.purse, h.flashPort, h.settings, h.profiles, h.writer, h.dram, h.flash, h.pending]

theorem VerdictWork.tick {s t : State} (h : VerdictWork s t) : TickWork s t where
  frame := h.toFrame.mono (by decide)
  flashPort := h.flashPort
  guide := by rw [h.guide]
  current svc := by rw [h.guide]
  ctxs := h.ctxs
  outs x := by rw [h.outs]; exact .refl _
  profiles q := by rw [h.profiles]
  noticed := h.noticed

section Kept

variable {s t : State} (h : TickWork s t)
include h

theorem TickWork.part : t.part = s.part := (h.frame.only .power (by decide)).2

theorem TickWork.cfg : t.cfg = s.cfg := h.frame.only .config (by decide)

theorem TickWork.rights : t.rights = s.rights := h.frame.only .rights (by decide)

theorem TickWork.intake : t.intake = s.intake := h.frame.only .intake (by decide)

theorem TickWork.clock : t.guide.clock = s.guide.clock := (congrArg Guide.clock h.guide :)

theorem TickWork.offset : t.guide.offset = s.guide.offset := (congrArg Guide.offset h.guide :)

theorem TickWork.map : t.guide.map = s.guide.map := (congrArg Guide.map h.guide :)

theorem TickWork.nowMinute : t.guide.nowMinute = s.guide.nowMinute := by rw [Guide.nowMinute, h.clock]; rfl

theorem TickWork.localTime : t.guide.localTime = s.guide.localTime := by
  rw [Guide.localTime, h.clock, h.offset]
  rfl

theorem TickWork.localDate : t.guide.localDate = s.guide.localDate := by rw [Guide.localDate, h.localTime]; rfl

theorem TickWork.minuteOfDay : t.guide.minuteOfDay = s.guide.minuteOfDay := by rw [Guide.minuteOfDay, h.localTime]; rfl

theorem TickWork.attributes (svc : Nat) : t.guide.attributes svc = s.guide.attributes svc := by
  have hretained : t.guide.retained = s.guide.retained := (congrArg Guide.retained h.guide :)
  simp only [Guide.attributes, Guide.entry, h.map, hretained]

theorem TickWork.tune (x : Fin 6) : (t.outs[x]).tune = (s.outs[x]).tune := (h.outs x).tune

theorem TickWork.outCfg (x : Fin 6) : t.outCfg x = s.outCfg x := by rw [State.outCfg, h.cfg]; rfl

theorem TickWork.window (q : Fin 6) : (t.profiles[q]).window = (s.profiles[q]).window :=
  (congrArg Profile.window (h.profiles q) :)

theorem TickWork.budget (q : Fin 6) : (t.profiles[q]).budget = (s.profiles[q]).budget :=
  (congrArg Profile.budget (h.profiles q) :)

/-- R58 to R60: tune records and contexts agree as before. -/
theorem TickWork.poolOk (hp : PoolOk s) : PoolOk t := by
  obtain ⟨htuned, hmember, hactive⟩ := hp
  refine ⟨fun o v hv => ?_, fun c o ho => ?_, fun c hc => ?_⟩
  · rw [(h.ctxs v.context).members, (h.ctxs v.context).life]
    exact htuned o v ((h.tune o).symm.trans hv)
  · rw [(h.ctxs c).members] at ho
    rw [h.tune]
    exact hmember c o ho
  · rw [(h.ctxs c).members]
    refine hactive c ?_
    rwa [Context.isActive_iff, (h.ctxs c).life, ← Context.isActive_iff] at hc

/-- R144: the records of the purchase journal, and what the check of a target reads, are as before. -/
theorem TickWork.purse : t.purse = { s.purse with target := t.purse.target } := by
  have hp : t.purse.untargeted = s.purse.untargeted := h.frame.only .journal (by decide)
  generalize t.purse = p at hp ⊢
  obtain ⟨_⟩ := p
  simp_all [Purse.untargeted]

/-- R163, R172: the inputs of a gate are as before where its unlock, the governing half and its profile's results are.
-/
theorem TickWork.gateInputs {x : Fin 6} {v : Tuned} (hv : (s.outs[x]).tune = some v)
    (hu : (t.outs[x]).eventUnlock = (s.outs[x]).eventUnlock)
    (hg : (t.ctxs[v.context]).governing = (s.ctxs[v.context]).governing)
    (hr : (t.profiles[(s.outCfg x).profile]).result = (s.profiles[(s.outCfg x).profile]).result)
    (hb : (t.profiles[(s.outCfg x).profile]).budgetFails = (s.profiles[(s.outCfg x).profile]).budgetFails) :
    t.gateInputs x v = s.gateInputs x v := by
  have hpresent : t.presentEvent x = s.presentEvent x := by
    have hgoverning : t.governingOf x = s.governingOf x := by
      unfold State.governingOf State.contextOf
      rw [h.tune, hv]
      exact hg
    simp only [State.presentEvent, hgoverning, h.tune, h.current]
  have hunlock : t.eventUnlockInForce x = s.eventUnlockInForce x := by
    simp only [State.eventUnlockInForce, hu, hpresent]
  have hceiling : (t.profiles[(s.outCfg x).profile]).ceiling = (s.profiles[(s.outCfg x).profile]).ceiling :=
    (congrArg Profile.ceiling (h.profiles _) :)
  have hblock : (t.profiles[(s.outCfg x).profile]).blockUnknown = (s.profiles[(s.outCfg x).profile]).blockUnknown :=
    (congrArg Profile.blockUnknown (h.profiles _) :)
  simp only [State.gateInputs, h.outCfg, h.rights, h.attributes, h.current, hg, hceiling, hblock, hr, hb, hunlock,
    (h.outs x).periodUnlock]

/-- R176: a gate that follows still does where its inputs are as before. -/
theorem TickWork.gateFollows {x : Fin 6} (hx : gateFollows s x) (hk : keepsGate x s t)
    (hg : ∀ v : Tuned, (s.outs[x]).tune = some v → (t.ctxs[v.context]).governing = (s.ctxs[v.context]).governing)
    (hr : (t.profiles[(s.outCfg x).profile]).result = (s.profiles[(s.outCfg x).profile]).result)
    (hb : (t.profiles[(s.outCfg x).profile]).budgetFails = (s.profiles[(s.outCfg x).profile]).budgetFails) :
    gateFollows t x := by
  intro v hv
  rw [h.tune] at hv
  obtain ⟨hgate, hunlock⟩ := hk
  rw [hgate, h.gateInputs hv hunlock (hg v hv) hr hb]
  exact hx v hv

end Kept

/-! ### Each block for itself (R40) -/

/-- R40: what the work of one block leaves alone. -/
structure BlockWork (b : TickBlock) (s t : State) : Prop where
  tick : TickWork s t
  guide : b ≠ .guide → t.guide = s.guide ∧ t.settings = s.settings
  access : b ≠ .access → t.access = s.access ∧ t.ctxs = s.ctxs
  purse : b ≠ .purse → t.purse = s.purse
  day : b ≠ .guide → ∀ q : Fin 6, (t.profiles[q]).day = (s.profiles[q]).day
  result : b ≠ .profiles → ∀ q : Fin 6, (t.profiles[q]).result = (s.profiles[q]).result

theorem BlockWork.trans {b : TickBlock} {s t u : State} (h : BlockWork b s t) (k : BlockWork b t u) :
    BlockWork b s u where
  tick := h.tick.trans k.tick
  guide hb := ⟨(k.guide hb).1.trans (h.guide hb).1, (k.guide hb).2.trans (h.guide hb).2⟩
  access hb := ⟨(k.access hb).1.trans (h.access hb).1, (k.access hb).2.trans (h.access hb).2⟩
  purse hb := (k.purse hb).trans (h.purse hb)
  day hb q := (k.day hb q).trans (h.day hb q)
  result hb q := (k.result hb q).trans (h.result hb q)

theorem GateWork.block {s t : State} (h : GateWork s t) (b : TickBlock) : BlockWork b s t where
  tick := h.tick
  guide _ := ⟨h.guide, h.settings⟩
  access _ := ⟨h.access, h.ctxs⟩
  purse _ := h.purse
  day _ q := by rw [h.profiles]
  result _ q := by rw [h.profiles]

theorem VerdictWork.block {s t : State} (h : VerdictWork s t) : BlockWork .access s t where
  tick := h.tick
  guide _ := ⟨h.guide, h.settings⟩
  access hb := absurd rfl hb
  purse _ := h.purse
  day _ q := by rw [h.profiles]
  result _ q := by rw [h.profiles]

/-! #### Guide Tables (R41, R52, R53, R167) -/

/-- R48, R52: a current event has not ended, so ageing leaves it. -/
theorem Guide.age_currentEvent (g : Guide) (svc : Nat) : g.age.currentEvent svc = g.currentEvent svc := by
  unfold Guide.age
  split
  · rfl
  · next t ht =>
    have hnow : ({ g with pool := g.pool.filter (fun e => !aged e.finish t) } : Guide).nowMinute = some t := ht
    have hentry : ({ g with pool := g.pool.filter (fun e => !aged e.finish t) } : Guide).entry svc = g.entry svc := rfl
    unfold Guide.currentEvent
    rw [hnow, ht, hentry]
    cases g.entry svc with
    | none => rfl
    | some _ =>
      dsimp only
      rw [List.find?_filter]
      refine congrArg (fun p => g.pool.find? p) (funext fun e => ?_)
      by_cases hlt : t < e.finish
      · have : aged e.finish t = false := decide_eq_false (by omega)
        simp [this]
      · simp [hlt]

theorem Guide.age_pool_of_now {g : Guide} {m : Nat} (h : g.nowMinute = some m) :
    g.age.pool = g.pool.filter (fun e => decide (m < e.start + e.duration + 60)) := by
  simp only [Guide.age, h]
  refine List.filter_congr fun e _ => ?_
  rw [Bool.eq_iff_iff, Bool.not_eq_true', decide_eq_true_iff]
  exact decide_eq_false_iff_not.trans Nat.not_le

theorem Guide.age_of_unset {g : Guide} (h : g.nowMinute = none) : g.age = g := by
  simp only [Guide.age, h]

theorem Guide.age_timeless (g : Guide) : g.age.timeless = g.timeless := by
  unfold Guide.age
  split <;> rfl

theorem State.agePool_block (s : State) : BlockWork .guide s (s.modGuide Guide.age) where
  tick :=
    { frame := (s.modGuide_frame _).mono (by decide)
      flashPort := rfl
      guide := s.guide.age_timeless
      current := s.guide.age_currentEvent
      ctxs := fun _ => .refl _
      outs := fun _ => .refl _
      profiles := fun _ => rfl
      noticed := .of_port rfl }
  guide hb := absurd rfl hb
  access _ := ⟨rfl, rfl⟩
  purse _ := rfl
  day hb := absurd rfl hb
  result _ _ := rfl

/-- R167: every profile at the start of a budget day. -/
def State.atNewDay (s : State) : State := { s with profiles := s.profiles.map Profile.newDay }

theorem State.atNewDay_get (s : State) (q : Fin 6) : (s.atNewDay).profiles[q] = (s.profiles[q]).newDay := by
  simp [State.atNewDay]

theorem State.atNewDay_block (s : State) : BlockWork .guide s s.atNewDay where
  tick :=
    { frame := ⟨by simp [onlyChanges, Area.forall_iff, Area.same, State.atNewDay, tickAreas], rfl⟩
      flashPort := rfl
      guide := rfl
      current := fun _ => rfl
      ctxs := fun _ => .refl _
      outs := fun _ => .refl _
      profiles := fun q => by rw [s.atNewDay_get]; rfl
      noticed := .of_port rfl }
  guide hb := absurd rfl hb
  access _ := ⟨rfl, rfl⟩
  purse _ := rfl
  day hb := absurd rfl hb
  result _ q := by rw [s.atNewDay_get]; rfl

theorem State.newBudgetDay_eq (s : State) (d : Bool) : s.newBudgetDay d = s.atNewDay.evaluateAll .minute d
    (s.atNewDay.tunedOnAny (allProfiles.filter (fun q => (s.profiles[q]).budgetFails))) := rfl

theorem State.newBudgetDay_block (s : State) (d : Bool) : BlockWork .guide s (s.newBudgetDay d) :=
  s.atNewDay_block.trans ((State.evaluateAll_work _ _ _ _).block .guide)

theorem State.setBudgetDate_block (s : State) (d : Int) : BlockWork .guide s (s.setBudgetDate d) where
  tick :=
    { frame := ⟨by simp [onlyChanges, Area.forall_iff, Area.same, State.setBudgetDate, State.markChange, tickAreas], rfl⟩
      flashPort := rfl
      guide := rfl
      current := fun _ => rfl
      ctxs := fun _ => .refl _
      outs := fun _ => .refl _
      profiles := fun _ => rfl
      noticed := .of_port rfl }
  guide hb := absurd rfl hb
  access _ := ⟨rfl, rfl⟩
  purse _ := rfl
  day hb := absurd rfl hb
  result _ _ := rfl

theorem State.budgetDateCheck_block (s : State) : BlockWork .guide s (s.budgetDateCheck true) := by
  unfold State.budgetDateCheck
  split
  · exact (GateWork.refl s).block .guide
  · exact s.setBudgetDate_block _
  · split
    · exact (s.newBudgetDay_block true).trans (State.setBudgetDate_block _ _)
    · exact (GateWork.refl s).block .guide

theorem State.followCurrent_work (s : State) (before : List CurrentOf) (c : GateCause) (d : Bool) :
    GateWork s (s.followCurrent before c d) := State.evaluateAll_work _ _ _ _

theorem State.guideTick_block (s : State) (before : List CurrentOf) : BlockWork .guide s (s.guideTick before) := by
  have hfollow := s.agePool_block.trans ((State.followCurrent_work _ before .minute true).block .guide)
  unfold State.guideTick
  dsimp only
  split
  · exact hfollow.trans (State.budgetDateCheck_block _)
  · exact hfollow

/-! #### The Access Unit (R120, R121, R135) -/

/-- R121: the tables of the Access Unit aged. -/
def State.ageAccess (s : State) : State := { s with access := s.access.age s.guide.nowMinute }

theorem State.ageAccess_block (s : State) : BlockWork .access s s.ageAccess where
  tick :=
    { frame := ⟨by simp [onlyChanges, Area.forall_iff, Area.same, State.ageAccess, tickAreas], rfl⟩
      flashPort := rfl
      guide := rfl
      current := fun _ => rfl
      ctxs := fun _ => .refl _
      outs := fun _ => .refl _
      profiles := fun _ => rfl
      noticed := .of_port rfl }
  guide _ := ⟨rfl, rfl⟩
  access hb := absurd rfl hb
  purse _ := rfl
  day _ _ := rfl
  result _ _ := rfl

theorem State.accessTick_eq (s : State) : s.accessTick = allOutputs.foldl State.refreshOffer
    ((s.ageAccess.recompute allHalves).evaluateChanged s.ageAccess true (fun _ => true)) := rfl

theorem State.refreshOffers_work (s : State) (os : List (Fin 6)) : GateWork s (os.foldl State.refreshOffer s) :=
  GateWork.foldl _ State.refreshOffer_work os s

theorem State.accessTick_block (s : State) : BlockWork .access s s.accessTick := by
  rw [State.accessTick_eq]
  exact ((s.ageAccess_block.trans (State.recompute_work _ _).block).trans
    ((State.evaluateChanged_work _ _ _ _).block .access)).trans ((State.refreshOffers_work _ _).block .access)

/-! #### The Purse and Journal (R144) -/

theorem State.recheckTarget_eq (s : State) : ∃ x : Option Target,
    s.recheckTarget = { s with purse := { s.purse with target := x } } := by
  unfold State.recheckTarget
  split
  · exact ⟨_, rfl⟩
  · exact ⟨_, rfl⟩

theorem State.recheckTarget_block (s : State) : BlockWork .purse s s.recheckTarget := by
  obtain ⟨x, he⟩ := s.recheckTarget_eq
  rw [he]
  exact {
    tick :=
      { frame := ⟨by simp [onlyChanges, Area.forall_iff, Area.same, Purse.untargeted, tickAreas], rfl⟩
        flashPort := rfl
        guide := rfl
        current := fun _ => rfl
        ctxs := fun _ => .refl _
        outs := fun _ => .refl _
        profiles := fun _ => rfl
        noticed := .of_port rfl }
    guide := fun _ => ⟨rfl, rfl⟩
    access := fun _ => ⟨rfl, rfl⟩
    purse := fun hb => absurd rfl hb
    day := fun _ _ => rfl
    result := fun _ _ => rfl }

/-! #### The profiles (R168) -/

theorem State.judgeWindows_get (s : State) (q : Fin 6) :
    (s.judgeWindows).profiles[q] = (s.profiles[q]).judgeWindow s.guide.minuteOfDay := by
  simp [State.judgeWindows]

theorem State.judgeWindows_block (s : State) : BlockWork .profiles s s.judgeWindows where
  tick :=
    { frame := ⟨by simp [onlyChanges, Area.forall_iff, Area.same, State.judgeWindows, tickAreas], rfl⟩
      flashPort := rfl
      guide := rfl
      current := fun _ => rfl
      ctxs := fun _ => .refl _
      outs := fun _ => .refl _
      profiles := fun q => by rw [s.judgeWindows_get]; rfl
      noticed := .of_port rfl }
  guide _ := ⟨rfl, rfl⟩
  access _ := ⟨rfl, rfl⟩
  purse _ := rfl
  day _ q := by rw [s.judgeWindows_get]; rfl
  result hb := absurd rfl hb

theorem State.windowTick_eq (s : State) : s.windowTick = s.judgeWindows.evaluateAll .minute true
    (s.judgeWindows.tunedOnAny (allProfiles.filter (fun q =>
      decide ((s.profiles[q]).result ≠ windowResult (s.profiles[q]).window s.guide.minuteOfDay)))) := rfl

theorem State.windowTick_block (s : State) : BlockWork .profiles s s.windowTick :=
  s.judgeWindows_block.trans ((State.evaluateAll_work _ _ _ _).block .profiles)

/-- R40: what the work of each block leaves alone. -/
theorem State.tickBlock_work (before : List CurrentOf) (s : State) (b : TickBlock) :
    BlockWork b s (s.tickBlock before b) := by
  cases b
  case guide => exact s.guideTick_block before
  case access => exact s.accessTick_block
  case purse => exact s.recheckTarget_block
  case profiles => exact s.windowTick_block

end Sys2Proof.Machine
end

section
/-! PROOFS. What the blocks do for a minute tick (R40): the budget date (R41, R167), gates that follow their inputs
(R53, R120, R167, R168), and offers (R134, R135). -/

namespace Sys2Proof.Machine

/-! ### The budget date (R41, R167) -/

/-- R41: what the check leaves of the budget date `old` with local date `today`, and whether a new budget day begins. -/
inductive DateEffect (mounted : Bool) (today old : Option Int) : Option Int → Bool → Prop
  | none (h : mounted = false ∨ today = none) : DateEffect mounted today old old false
  | first {d : Int} (hm : mounted = true) (ht : today = some d) (ho : old = none) :
      DateEffect mounted today old (some d) false
  | same {d b : Int} (hm : mounted = true) (ht : today = some d) (ho : old = some b) (h : ¬ b < d) :
      DateEffect mounted today old old false
  | later {d b : Int} (hm : mounted = true) (ht : today = some d) (ho : old = some b) (h : b < d) :
      DateEffect mounted today old (some d) true

/-- R41, R147, R167: the budget date, the settings and what the profiles have of the day are as the check leaves them.
-/
def dateWorked (s t : State) : Prop :=
  ∃ day : Bool, DateEffect s.part.mounted s.guide.localDate s.guide.budgetDate t.guide.budgetDate day ∧
    t.settings = (if t.guide.budgetDate = s.guide.budgetDate then s.settings else s.settings.marked) ∧
    ∀ q : Fin 6, (t.profiles[q]).day = if day then (0, 0, false) else (s.profiles[q]).day

theorem DateEffect.moved {s t : State} {day : Bool}
    (h : DateEffect s.part.mounted s.guide.localDate s.guide.budgetDate t.guide.budgetDate day) :
    budgetDateMoved s t := by
  unfold budgetDateMoved
  generalize t.guide.budgetDate = date at h ⊢
  refine ⟨fun d hm hd => ?_, fun hnone => ?_⟩
  · cases h with
    | none h => simp_all
    | first _ ht ho =>
      rw [hd] at ht
      cases ht
      exact ⟨fun _ => rfl, fun b hb => (by rw [ho] at hb; cases hb)⟩
    | same _ ht ho h =>
      rw [hd] at ht
      cases ht
      refine ⟨fun hn => (by rw [ho] at hn; cases hn), fun b hb => ?_⟩
      rw [ho] at hb
      cases hb
      rw [if_neg h, ho]
    | later _ ht ho h =>
      rw [hd] at ht
      cases ht
      refine ⟨fun _ => rfl, fun b hb => ?_⟩
      rw [ho] at hb
      cases hb
      rw [if_pos h]
  · cases h with
    | none => rfl
    | first hm ht => simp_all
    | same => rfl
    | later hm ht => simp_all

theorem DateEffect.begins {s : State} {date : Option Int} {day : Bool}
    (h : DateEffect s.part.mounted s.guide.localDate s.guide.budgetDate date day) :
    day = true ↔ budgetDayBegins s := by
  unfold budgetDayBegins
  cases h with
  | none h =>
    refine iff_of_false Bool.false_ne_true ?_
    rintro ⟨hm, _, d, _, hd, _⟩
    rcases h with h | h
    · rw [h] at hm
      cases hm
    · rw [h] at hd
      cases hd
  | first _ _ ho =>
    refine iff_of_false Bool.false_ne_true ?_
    rintro ⟨_, b, _, hb, _⟩
    rw [ho] at hb
    cases hb
  | same _ ht ho h =>
    refine iff_of_false Bool.false_ne_true ?_
    rintro ⟨_, b, d, hb, hd, hlt⟩
    rw [ho] at hb
    rw [ht] at hd
    cases hb
    cases hd
    exact h hlt
  | later hm ht ho h => exact iff_of_true rfl ⟨hm, _, _, ho, ht, h⟩

theorem dateWorked.refl_of {s : State} (h : DateEffect s.part.mounted s.guide.localDate s.guide.budgetDate
    s.guide.budgetDate false) : dateWorked s s := ⟨false, h, (if_pos rfl).symm, fun _ => rfl⟩

/-- The check works alike on a state that the tick has not yet changed in what it reads. -/
theorem dateWorked.congr {s u t : State} (w : TickWork s u) (hdate : u.guide.budgetDate = s.guide.budgetDate)
    (hset : u.settings = s.settings) (hday : ∀ q : Fin 6, (u.profiles[q]).day = (s.profiles[q]).day)
    (h : dateWorked u t) : dateWorked s t := by
  obtain ⟨day, heff, hmark, hcount⟩ := h
  rw [w.part, w.localDate, hdate] at heff
  rw [hdate, hset] at hmark
  exact ⟨day, heff, hmark, fun q => by rw [hcount q, hday q]⟩

/-- And what it left stays through work that leaves it alone. -/
theorem dateWorked.keep {s u t : State} (h : dateWorked s u) (hdate : t.guide.budgetDate = u.guide.budgetDate)
    (hset : t.settings = u.settings) (hday : ∀ q : Fin 6, (t.profiles[q]).day = (u.profiles[q]).day) :
    dateWorked s t := by
  obtain ⟨day, heff, hmark, hcount⟩ := h
  exact ⟨day, hdate ▸ heff, by rw [hset, hdate, hmark], fun q => by rw [hday q, hcount q]⟩

theorem State.newBudgetDay_day (s : State) (d : Bool) (q : Fin 6) :
    ((s.newBudgetDay d).profiles[q]).day = (0, 0, false) := by
  rw [s.newBudgetDay_eq, (State.evaluateAll_work _ _ _ _).profiles, s.atNewDay_get]
  rfl

theorem State.newBudgetDay_settings (s : State) (d : Bool) : (s.newBudgetDay d).settings = s.settings := by
  rw [s.newBudgetDay_eq, (State.evaluateAll_work _ _ _ _).settings]
  rfl

theorem State.newBudgetDay_guide (s : State) (d : Bool) : (s.newBudgetDay d).guide = s.guide := by
  rw [s.newBudgetDay_eq, (State.evaluateAll_work _ _ _ _).guide]
  rfl

/-- R41: the check of a mounted unit. -/
theorem State.budgetDateCheck_worked {s : State} (hm : s.part.mounted = true) :
    dateWorked s (s.budgetDateCheck true) := by
  unfold State.budgetDateCheck
  split
  · next ht => exact .refl_of (.none (.inr ht))
  · next d ht ho =>
    refine ⟨false, .first hm ht ho, ?_, fun _ => rfl⟩
    rw [ho]
    exact (if_neg (Option.some_ne_none d)).symm
  · next d b ht ho =>
    split
    · next h =>
      refine ⟨true, .later hm ht ho h, ?_, fun q => s.newBudgetDay_day true q⟩
      have hne : (((s.newBudgetDay true).setBudgetDate d).guide.budgetDate) ≠ s.guide.budgetDate := by
        rw [ho]
        exact fun he => absurd (Option.some.inj he) (ne_of_gt h)
      rw [if_neg hne, ← s.newBudgetDay_settings true]
      rfl
    · next h => exact .refl_of (.same hm ht ho h)

theorem State.budgetDateCheck_pool (s : State) : (s.budgetDateCheck true).guide.pool = s.guide.pool := by
  unfold State.budgetDateCheck
  split
  · rfl
  · rfl
  · split
    · exact (congrArg Guide.pool (s.newBudgetDay_guide true) :)
    · rfl

/-- R52, R53: Guide Tables' own work without the budget date. -/
def State.guideFollowed (s : State) (before : List CurrentOf) : State :=
  (s.modGuide Guide.age).followCurrent before .minute true

theorem State.guideFollowed_work (s : State) (before : List CurrentOf) :
    GateWork (s.modGuide Guide.age) (s.guideFollowed before) := State.followCurrent_work _ _ _ _

theorem State.guideTick_eq (s : State) (before : List CurrentOf) : s.guideTick before =
    if (s.guideFollowed before).part.mounted then (s.guideFollowed before).budgetDateCheck true
    else s.guideFollowed before := rfl

/-- R52: aged events leave the pool. -/
theorem State.guideTick_pool (s : State) (before : List CurrentOf) :
    (s.guideTick before).guide.pool = s.guide.age.pool := by
  rw [s.guideTick_eq]
  split
  · rw [State.budgetDateCheck_pool, (s.guideFollowed_work before).guide]
    rfl
  · rw [(s.guideFollowed_work before).guide]
    rfl

theorem Guide.age_budgetDate (g : Guide) : g.age.budgetDate = g.budgetDate := by
  unfold Guide.age
  split <;> rfl

/-- R41, R167: the budget date is checked. -/
theorem State.guideTick_date (s : State) (before : List CurrentOf) : dateWorked s (s.guideTick before) := by
  have hw := s.guideFollowed_work before
  have htick := s.agePool_block.tick.trans hw.tick
  have hdate : (s.guideFollowed before).guide.budgetDate = s.guide.budgetDate := by
    rw [hw.guide]
    exact s.guide.age_budgetDate
  have hset : (s.guideFollowed before).settings = s.settings := hw.settings
  have hday (q : Fin 6) : ((s.guideFollowed before).profiles[q]).day = (s.profiles[q]).day := by
    rw [hw.profiles]
    rfl
  refine dateWorked.congr htick hdate hset hday ?_
  rw [s.guideTick_eq]
  split
  · next hm => exact State.budgetDateCheck_worked hm
  · next hm => exact .refl_of (.none (.inl (Bool.eq_false_iff.mpr hm)))

/-! ### Gates that follow (R53, R120, R167, R168) -/

theorem State.tunedOnAny_mem {s : State} {qs : List (Fin 6)} {x : Fin 6} {v : Tuned} (hv : (s.outs[x]).tune = some v)
    (hq : (s.outCfg x).profile ∈ qs) : x ∈ s.tunedOnAny qs := by
  refine List.mem_filter.mpr ⟨mem_allOutputs x, ?_⟩
  rw [hv, List.contains_iff_mem.mpr hq]
  rfl

/-- A gate of an IDLE output follows. -/
theorem gateFollows.of_idle {s : State} {x : Fin 6} (h : (s.outs[x]).tune = none) : gateFollows s x :=
  fun v hv => by rw [h] at hv; cases hv

theorem Profile.newDay_budgetFails {p : Profile} (h : p.budgetFails = false) : p.newDay.budgetFails = false := by
  unfold Profile.budgetFails Profile.newDay at *
  cases hb : p.budget with
  | none => rfl
  | some b =>
    rw [hb] at h
    have hlt : ¬ b ≤ p.minutesUsed := of_decide_eq_false h
    exact decide_eq_false (Nat.not_le.mpr (Nat.lt_of_le_of_lt (Nat.zero_le _) (Nat.not_le.mp hlt)))

/-- R167: at a new budget day a gate that followed, or whose budget was reached, follows. -/
theorem State.newBudgetDay_follows {s : State} {x : Fin 6}
    (h : gateFollows s x ∨ (s.profiles[(s.outCfg x).profile]).budgetFails = true) :
    gateFollows (s.newBudgetDay true) x := by
  rw [s.newBudgetDay_eq]
  cases hb : (s.profiles[(s.outCfg x).profile]).budgetFails with
  | true =>
    cases hv : (s.outs[x]).tune with
    | none => exact (gateFollows.of_idle (s := s.atNewDay) hv).evaluateAll _ _ _
    | some v =>
      refine State.evaluateAll_follows _ _ _ (State.tunedOnAny_mem (s := s.atNewDay) hv ?_)
      exact List.mem_filter.mpr ⟨mem_allProfiles _, hb⟩
  | false =>
    have hx := h.resolve_right (by rw [hb]; exact Bool.false_ne_true)
    refine gateFollows.evaluateAll ?_ _ _ _
    refine s.atNewDay_block.tick.gateFollows hx (keepsGate.refl x s) (fun _ _ => rfl) ?_ ?_
    · rw [s.atNewDay_get]
      rfl
    · rw [s.atNewDay_get, hb]
      exact Profile.newDay_budgetFails hb

theorem gateFollows.setBudgetDate {s : State} {x : Fin 6} (h : gateFollows s x) (d : Int) :
    gateFollows (s.setBudgetDate d) x :=
  (s.setBudgetDate_block d).tick.gateFollows h (keepsGate.refl x s) (fun _ _ => rfl) rfl rfl

theorem gateFollows.budgetDateCheck {s : State} {x : Fin 6} (h : gateFollows s x) :
    gateFollows (s.budgetDateCheck true) x := by
  unfold State.budgetDateCheck
  split
  · exact h
  · exact h.setBudgetDate _
  · split
    · exact (State.newBudgetDay_follows (.inl h)).setBudgetDate _
    · exact h

/-- R167: where a new budget day begins, a gate whose budget was reached follows. -/
theorem State.budgetDateCheck_follows {s : State} {x : Fin 6} (hday : budgetDayBegins s)
    (hb : (s.profiles[(s.outCfg x).profile]).budgetFails = true) : gateFollows (s.budgetDateCheck true) x := by
  obtain ⟨-, b, d, ho, ht, hlt⟩ := hday
  have he : s.budgetDateCheck true = (s.newBudgetDay true).setBudgetDate d := by
    unfold State.budgetDateCheck
    rw [ht, ho]
    exact if_pos hlt
  rw [he]
  exact (State.newBudgetDay_follows (.inr hb)).setBudgetDate d

theorem gateFollows.agePool {s : State} {x : Fin 6} (h : gateFollows s x) : gateFollows (s.modGuide Guide.age) x :=
  s.agePool_block.tick.gateFollows h (keepsGate.refl x s) (fun _ _ => rfl) rfl rfl

theorem State.guideTick_of_followed {s : State} {before : List CurrentOf} {x : Fin 6}
    (h : gateFollows (s.guideFollowed before) x) : gateFollows (s.guideTick before) x := by
  rw [s.guideTick_eq]
  split
  · exact h.budgetDateCheck
  · exact h

/-- R40: Guide Tables' work leaves gates that follow following. -/
theorem gateFollows.guideTick {s : State} {x : Fin 6} (h : gateFollows s x) (before : List CurrentOf) :
    gateFollows (s.guideTick before) x :=
  State.guideTick_of_followed (h.agePool.evaluateAll _ _ _)

/-- R53: the gate of an output whose service has another current event than before follows. -/
theorem State.guideTick_follows_current {s : State} (hp : PoolOk s) {before : List CurrentOf} {x : Fin 6} {v : Tuned}
    (hv : (s.outs[x]).tune = some v) {b : CurrentOf} (hb : b ∈ before) (hs : b.service = v.service)
    (hne : b.event ≠ (s.guide.currentEvent v.service).map (fun e => (e.id, e.rating))) :
    gateFollows (s.guideTick before) x := by
  obtain ⟨hmem, u, hu, husvc, -⟩ := hp.1 x v hv
  refine State.guideTick_of_followed (State.evaluateAll_follows _ _ _ (State.mem_membersOfServices.mpr ?_))
  refine ⟨v.context, u, hu, hmem, State.mem_changedCurrent.mpr ⟨b, hb, hs.trans husvc.symm, ?_⟩⟩
  rw [husvc]
  have hcur := s.guide.age_currentEvent v.service
  rw [← hcur] at hne
  exact hne

/-- R167: the gate of an output whose budget was reached follows at a new budget day. -/
theorem State.guideTick_follows_day {s : State} {x : Fin 6} (hday : budgetDayBegins s)
    (hb : (s.profiles[(s.outCfg x).profile]).budgetFails = true) (before : List CurrentOf) :
    gateFollows (s.guideTick before) x := by
  have hw := s.guideFollowed_work before
  have htick := s.agePool_block.tick.trans hw.tick
  have hdate : (s.guideFollowed before).guide.budgetDate = s.guide.budgetDate := by
    rw [hw.guide]
    exact s.guide.age_budgetDate
  have hday' : budgetDayBegins (s.guideFollowed before) := by
    unfold budgetDayBegins
    rw [htick.part, hdate, htick.localDate]
    exact hday
  rw [s.guideTick_eq, if_pos hday'.1]
  refine State.budgetDateCheck_follows hday' ?_
  simp only [htick.outCfg, hw.profiles]
  exact hb

/-- R168: the windows' work leaves gates that follow following, and those of moved results follow. -/
theorem State.windowTick_follows {s : State} {x : Fin 6}
    (h : gateFollows s x ∨ (s.profiles[(s.outCfg x).profile]).result ≠
      windowResult (s.profiles[(s.outCfg x).profile]).window s.guide.minuteOfDay) :
    gateFollows s.windowTick x := by
  rw [s.windowTick_eq]
  by_cases hr : (s.profiles[(s.outCfg x).profile]).result =
      windowResult (s.profiles[(s.outCfg x).profile]).window s.guide.minuteOfDay
  · refine gateFollows.evaluateAll ?_ _ _ _
    refine s.judgeWindows_block.tick.gateFollows (h.resolve_right (not_not_intro hr)) (keepsGate.refl x s)
      (fun _ _ => rfl) ?_ ?_
    · rw [s.judgeWindows_get]
      exact hr.symm
    · rw [s.judgeWindows_get]
      rfl
  · cases hv : (s.outs[x]).tune with
    | none => exact (gateFollows.of_idle (s := s.judgeWindows) hv).evaluateAll _ _ _
    | some v =>
      refine State.evaluateAll_follows _ _ _ (State.tunedOnAny_mem (s := s.judgeWindows) hv ?_)
      exact List.mem_filter.mpr ⟨mem_allProfiles _, decide_eq_true hr⟩

theorem State.recheckTarget_follows {s : State} {x : Fin 6} (h : gateFollows s x) : gateFollows s.recheckTarget x := by
  have w := s.recheckTarget_block.tick
  obtain ⟨y, he⟩ := s.recheckTarget_eq
  rw [he] at w ⊢
  exact w.gateFollows h (keepsGate.refl x s) (fun _ _ => rfl) rfl rfl

/-- R121: the Access Unit's work before the offers. -/
def State.accessJudged (s : State) : State := s.ageAccess.recompute allHalves

theorem State.accessJudged_work (s : State) : VerdictWork s.ageAccess s.accessJudged := State.recompute_work _ _

theorem State.accessJudged_tick (s : State) : TickWork s s.accessJudged :=
  s.ageAccess_block.tick.trans s.accessJudged_work.tick

/-- R120: the Access Unit's work before the offers are refreshed. -/
def State.accessFollowed (s : State) : State := s.accessJudged.evaluateChanged s.ageAccess true (fun _ => true)

theorem State.accessFollowed_work (s : State) : GateWork s.accessJudged s.accessFollowed :=
  State.evaluateChanged_work _ _ _ _

theorem State.accessTick_offers (s : State) : s.accessTick = allOutputs.foldl State.refreshOffer s.accessFollowed := rfl

theorem State.refreshOffers_keepsGate (x : Fin 6) (os : List (Fin 6)) (s : State) :
    keepsGate x s (os.foldl State.refreshOffer s) := by
  induction os generalizing s with
  | nil => exact keepsGate.refl x s
  | cons o os ih => exact (s.refreshOffer_keepsGate o x).trans (ih _)

/-- R120: the Access Unit's work leaves gates that follow following, and those of moved verdicts follow. -/
theorem State.accessTick_follows {s : State} (hp : PoolOk s) {x : Fin 6}
    (h : gateFollows s x ∨ ∀ v : Tuned, (s.outs[x]).tune = some v →
      (s.accessTick.ctxs[v.context]).governingVerdict ≠ (s.ctxs[v.context]).governingVerdict) :
    gateFollows s.accessTick x := by
  have hctxs : s.accessTick.ctxs = s.accessJudged.ctxs := by
    rw [s.accessTick_offers, (State.refreshOffers_work _ _).ctxs, s.accessFollowed_work.ctxs]
  rw [hctxs] at h
  rw [s.accessTick_offers]
  refine gateFollows.keep ?_ (State.refreshOffers_work _ _) (State.refreshOffers_keepsGate x _ _)
  cases hv : (s.outs[x]).tune with
  | none =>
    refine gateFollows.of_idle ?_
    rw [s.accessFollowed_work.tick.tune, s.accessJudged_tick.tune, hv]
  | some v =>
    have hfields := s.accessJudged_work.ctxs v.context
    by_cases hg : (s.accessJudged.ctxs[v.context]).governingVerdict = (s.ctxs[v.context]).governingVerdict
    · have hx := h.resolve_right fun hne => hne v hv hg
      refine gateFollows.evaluateAll ?_ _ _ _
      refine s.accessJudged_tick.gateFollows hx ?_ (fun w hw => ?_) ?_ ?_
      · unfold keepsGate
        rw [s.accessJudged_work.outs]
        exact keepsGate.refl x s
      · rw [hv] at hw
        cases hw
        exact hfields.governing_eq hg
      · rw [s.accessJudged_work.profiles]
        rfl
      · rw [s.accessJudged_work.profiles]
        rfl
    · obtain ⟨hmem, u, hu, -⟩ := hp.1 x v hv
      refine State.evaluateAll_follows _ _ _ ?_
      simp only [State.membersWhere, List.mem_filter, List.any_eq_true, Bool.and_eq_true, List.contains_iff_mem,
        mem_allOutputs, mem_allContexts, true_and, verdictChanged, decide_eq_true_eq]
      refine ⟨v.context, ⟨(Context.isActive_iff _).mpr ⟨u, hfields.life.trans hu⟩, Ne.symm hg⟩, ?_⟩
      rw [hfields.members]
      exact hmem

/-- R40: with outputs and contexts in agreement, the work of every block leaves gates that follow following. -/
theorem gateFollows.tickBlock {s : State} (hp : PoolOk s) {x : Fin 6} (h : gateFollows s x) (before : List CurrentOf)
    (b : TickBlock) : gateFollows (s.tickBlock before b) x := by
  cases b
  case guide => exact h.guideTick before
  case access => exact State.accessTick_follows hp (.inl h)
  case purse => exact State.recheckTarget_follows h
  case profiles => exact State.windowTick_follows (.inl h)

end Sys2Proof.Machine
end

section
/-! PROOFS. What the blocks do for a minute tick (R40), continued: verdicts and preview entries (R118 to R122), offers
(R134, R135), the gates that a reached budget kept CLOSED (R167), the erase-ahead target (R144); and each block works
once. -/

namespace Sys2Proof.Machine

/-! ### The tables of the Access Unit (R118 to R122, R126) -/

theorem AccessUnit.age_of_unset (a : AccessUnit) : a.age none = a := rfl

theorem aged_eq_false {finish t : Nat} : (!aged finish t) = decide (t < finish + 60) := by
  rw [Bool.eq_iff_iff, Bool.not_eq_true', decide_eq_true_iff]
  exact decide_eq_false_iff_not.trans Nat.not_le

theorem AccessUnit.age_owned (a : AccessUnit) (m : Nat) :
    (a.age (some m)).owned = a.owned.filter (fun e => decide (m < e.endMinute + 60)) := by
  simp only [AccessUnit.age, aged_eq_false]

theorem AccessUnit.age_previews (a : AccessUnit) (m : Nat) :
    (a.age (some m)).previews = a.previews.filter (fun e => decide (m < e.endMinute + 60)) := by
  simp only [AccessUnit.age, aged_eq_false]

theorem State.settledAt.congr {s t : State} {l : HalfPlace} (h : s.settledAt l) (hc : t.ctxs = s.ctxs)
    (ha : t.access = s.access) (hr : t.rights = s.rights) (hn : t.guide.nowMinute = s.guide.nowMinute) :
    t.settledAt l := by
  intro g hg
  have hat : t.halfAt l = s.halfAt l := by simp only [State.halfAt, hc]
  rw [hat] at hg
  refine (h g hg).congr ⟨hr, hn, by rw [ha]⟩ fun e _ he => ?_
  rwa [ha]

/-- R120 to R122, R126: the tables of the Access Unit and the verdicts at now-minute after its work on table `a`. -/
structure AccessAged (a : AccessUnit) (t : State) : Prop where
  owned : t.access.owned = (a.age t.guide.nowMinute).owned
  previews : PreviewWork t.guide.nowMinute (a.age t.guide.nowMinute) t.access
  settled : ∀ l : HalfPlace, t.settledAt l

theorem AccessAged.congr {a : AccessUnit} {s t : State} (h : AccessAged a s) (hc : t.ctxs = s.ctxs)
    (ha : t.access = s.access) (hr : t.rights = s.rights) (hn : t.guide.nowMinute = s.guide.nowMinute) :
    AccessAged a t where
  owned := by rw [ha, hn]; exact h.owned
  previews := by rw [ha, hn]; exact h.previews
  settled l := (h.settled l).congr hc ha hr hn

theorem State.accessTick_aged (s : State) : AccessAged s.access s.accessTick := by
  have hjudged : AccessAged s.access s.accessJudged :=
    { owned := by
        rw [s.accessJudged_work.owned, s.accessJudged_work.guide]
        rfl
      previews := by
        rw [s.accessJudged_work.guide]
        exact s.ageAccess.recompute_previews allHalves
      settled := s.ageAccess.recompute_settles }
  have hw := s.accessFollowed_work.trans (State.refreshOffers_work s.accessFollowed allOutputs)
  rw [s.accessTick_offers]
  exact hjudged.congr hw.ctxs hw.access hw.rights (by rw [hw.guide])

theorem AccessAged.verdicts {s t : State} (h : AccessAged s.access t)
    (hnow : t.guide.nowMinute = s.guide.nowMinute) (hctxs : ∀ c : Fin 8, VerdictFields s.ctxs[c] t.ctxs[c]) :
    verdictsRecomputed s t := by
  refine ⟨fun m hm => ?_, halvesJudged_of_settled hctxs h.settled⟩
  have hn := hnow.trans hm
  have hwork := h.previews
  rw [hn] at hwork
  have hmem (x : PreviewEntry) : x ∈ (s.access.age (some m)).previews ↔
      x ∈ s.access.previews ∧ m < x.endMinute + 60 := by
    rw [AccessUnit.age_previews, List.mem_filter, decide_eq_true_iff]
  refine ⟨fun x hx => ?_, fun hnodup x hx hlive => ?_⟩
  · rcases hwork.live x hx with hold | hnew
    · exact ((hmem x).mp hold).2
    · exact (hnew m rfl).trans_le (Nat.le_add_right _ _)
  · refine hwork.kept ?_ x ((hmem x).mpr ⟨hx, by omega⟩) (fun k hk => by cases hk; exact hlive)
    rw [AccessUnit.age_previews]
    exact hnodup.sublist (List.filter_sublist.map _)

/-! ### What holds of an output through evaluations and changes of tables -/

/-- R40: a property that survives evaluations, and changes that leave outputs, contexts and unreached budgets alone,
survives the work of every block but the Access Unit. -/
theorem State.tickBlock_keeps {P : State → Prop}
    (heval : ∀ (s : State) (os : List (Fin 6)), P s → P (s.evaluateAll .minute true os))
    (htables : ∀ s t : State, TickWork s t → t.outs = s.outs → t.ctxs = s.ctxs →
      (∀ q : Fin 6, (s.profiles[q]).budgetFails = false → (t.profiles[q]).budgetFails = false) → P s → P t)
    (before : List CurrentOf) {b : TickBlock} (hb : b ≠ .access) {s : State} (h : P s) :
    P (s.tickBlock before b) := by
  have hset {s : State} (d : Int) (h : P s) : P (s.setBudgetDate d) :=
    htables s _ (s.setBudgetDate_block d).tick rfl rfl (fun _ hq => hq) h
  have hdate {s : State} (h : P s) : P (s.budgetDateCheck true) := by
    unfold State.budgetDateCheck
    split
    · exact h
    · exact hset _ h
    · split
      · refine hset _ (heval _ _ (htables s _ s.atNewDay_block.tick rfl rfl (fun q hq => ?_) h))
        have hnew := Profile.newDay_budgetFails hq
        rwa [← s.atNewDay_get] at hnew
      · exact h
  cases b
  case access => exact absurd rfl hb
  case guide =>
    have hfollow : P (s.guideFollowed before) :=
      heval _ _ (htables s _ s.agePool_block.tick rfl rfl (fun _ hq => hq) h)
    show P (s.guideTick before)
    rw [s.guideTick_eq]
    split
    · exact hdate hfollow
    · exact hfollow
  case purse =>
    have w := s.recheckTarget_block.tick
    show P s.recheckTarget
    obtain ⟨y, he⟩ := s.recheckTarget_eq
    rw [he] at w ⊢
    exact htables s _ w rfl rfl (fun _ hq => hq) h
  case profiles =>
    refine heval _ _ (htables s s.judgeWindows s.judgeWindows_block.tick rfl rfl (fun q hq => ?_) h)
    rw [s.judgeWindows_get]
    exact hq

/-! ### Offers (R134, R135) -/

theorem offerGuarded.tickBlock {s : State} {x : Fin 6} (h : offerGuarded s x) (before : List CurrentOf) {b : TickBlock}
    (hb : b ≠ .access) : offerGuarded (s.tickBlock before b) x := by
  refine State.tickBlock_keeps (P := fun s => offerGuarded s x) (fun s os h => h.evaluateAll _ _ os) ?_ before hb h
  intro s t _ ho _ _ h
  rwa [offerGuarded, ho]

theorem offerStands.tickBlock {s : State} {x : Fin 6} (h : offerStands s x) (before : List CurrentOf) {b : TickBlock}
    (hb : b ≠ .access) : offerStands (s.tickBlock before b) x := by
  refine State.tickBlock_keeps (P := fun s => offerStands s x) (fun s os h => h.evaluateAll _ _ os) ?_ before hb h
  intro s t w ho hc _ h
  exact h.congr ⟨w.tune x, w.nowMinute, fun c => by rw [hc]⟩ (by rw [ho])

theorem State.accessTick_stands {s : State} {x : Fin 6} (h : offerGuarded s x) : offerStands s.accessTick x := by
  rw [s.accessTick_offers]
  refine State.refreshOffers_stand (mem_allOutputs x) (offerGuarded.evaluateAll ?_ _ _ _)
  rw [offerGuarded, s.accessJudged_work.outs]
  exact h

/-- R135: what it says that the offer is the one due. -/
theorem offerStands.refreshed {t : State} {x : Fin 6} (h : offerStands t x) :
    ((t.outs[x]).gate = .closed .purchase →
      (∀ (e : EventCriteria) (p : Nat), t.offeredEvent x = some e → t.priceNow e = some p →
        (t.outs[x]).offer = some ⟨e.event, p⟩) ∧
      (t.offeredEvent x = none ∨ (∃ e : EventCriteria, t.offeredEvent x = some e ∧ t.priceNow e = none) →
        (t.outs[x]).offer = none)) ∧
    ((t.outs[x]).gate ≠ .closed .purchase → (t.outs[x]).offer = none) := by
  refine ⟨fun hg => ?_, fun hg => h.trans (if_neg hg)⟩
  rw [h, if_pos hg, State.dueOffer]
  refine ⟨fun e p he hp => by simp [he, hp], ?_⟩
  rintro (hnone | ⟨e, he, hp⟩)
  · rw [hnone]
    rfl
  · simp [he, hp]

/-! ### Budgets not reached (R167, R174) -/

/-- R167: the profile's budget is not reached, and the gate is not CLOSED for it. -/
def budgetOpen (s : State) (x : Fin 6) : Prop :=
  (s.profiles[(s.outCfg x).profile]).budgetFails = false ∧
    ((s.outs[x]).gate ≠ .closed .budget ∨ (s.outs[x]).tune = none)

/-- R174: without a reached budget no gate value is CLOSED for it. -/
theorem GateInputs.value_ne_budget {i : GateInputs} (h : i.budgetFail = false) : i.value ≠ .closed .budget := by
  unfold GateInputs.value
  rw [h, Bool.and_false]
  repeat' split
  all_goals simp_all

theorem budgetOpen.of_follows {s : State} {x : Fin 6} (hb : (s.profiles[(s.outCfg x).profile]).budgetFails = false)
    (h : gateFollows s x) : budgetOpen s x := by
  refine ⟨hb, ?_⟩
  cases hv : (s.outs[x]).tune with
  | none => exact .inr rfl
  | some v =>
    rw [h v hv]
    exact .inl (GateInputs.value_ne_budget hb)

/-- R167: it stays so where the gate, the tune record and unreached budgets do. -/
theorem budgetOpen.keep {s t : State} {x : Fin 6} (h : budgetOpen s x) (w : TickWork s t)
    (hg : (t.outs[x]).gate = (s.outs[x]).gate)
    (hb : ∀ q : Fin 6, (s.profiles[q]).budgetFails = false → (t.profiles[q]).budgetFails = false) : budgetOpen t x := by
  obtain ⟨hfree, hgate⟩ := h
  refine ⟨?_, ?_⟩
  · simp only [w.outCfg]
    exact hb _ hfree
  · rwa [hg, w.tune]

theorem GateWork.budgets {s t : State} (w : GateWork s t) (q : Fin 6) (h : (s.profiles[q]).budgetFails = false) :
    (t.profiles[q]).budgetFails = false := by rwa [w.profiles]

theorem budgetOpen.evaluateAll {s : State} {x : Fin 6} (h : budgetOpen s x) (c : GateCause) (d : Bool)
    (os : List (Fin 6)) : budgetOpen (s.evaluateAll c d os) x := by
  induction os generalizing s with
  | nil => exact h
  | cons o os ih =>
    refine ih ?_
    have w := State.evaluate_work s c d o
    by_cases e : o = x
    · subst e
      refine .of_follows ?_ (State.evaluate_follows s c d o)
      simp only [w.tick.outCfg]
      exact w.budgets _ h.1
    · exact h.keep w.tick (State.evaluate_keepsGate s c d e).1 w.budgets

/-- R167, R174: a budget that is not reached closes no gate in the work of any block. -/
theorem budgetOpen.tickBlock {s : State} {x : Fin 6} (h : budgetOpen s x) (before : List CurrentOf) (b : TickBlock) :
    budgetOpen (s.tickBlock before b) x := by
  by_cases hb : b = .access
  · subst hb
    have hjudged : budgetOpen s.accessJudged x := h.keep s.accessJudged_tick
      (by rw [s.accessJudged_work.outs]; rfl) (fun q hq => by rw [s.accessJudged_work.profiles]; exact hq)
    have w := State.refreshOffers_work s.accessFollowed allOutputs
    exact (hjudged.evaluateAll _ _ _).keep w.tick (State.refreshOffers_keepsGate x _ _).1 w.budgets
  · refine State.tickBlock_keeps (P := fun s => budgetOpen s x) (fun s os h => h.evaluateAll _ _ os) ?_ before hb h
    exact fun s t w ho _ hq h => h.keep w (by rw [ho]) hq

/-- R167: where a new budget day begins, a positive budget that was reached no longer closes a gate. -/
theorem State.guideTick_budgetOpen {s : State} {x : Fin 6} {b : Nat} (hday : budgetDayBegins s)
    (hb : (s.profiles[(s.outCfg x).profile]).budget = some b) (hpos : 0 < b)
    (hreached : b ≤ (s.profiles[(s.outCfg x).profile]).minutesUsed) (before : List CurrentOf) :
    budgetOpen (s.guideTick before) x := by
  have w := (s.guideTick_block before).tick
  have hfails : (s.profiles[(s.outCfg x).profile]).budgetFails = true := by
    unfold Profile.budgetFails
    rw [hb]
    exact decide_eq_true hreached
  refine .of_follows ?_ (State.guideTick_follows_day hday hfails before)
  obtain ⟨day, heff, -, hcount⟩ := s.guideTick_date before
  have hused : ((s.guideTick before).profiles[(s.outCfg x).profile]).minutesUsed = 0 := by
    have hcount := hcount (s.outCfg x).profile
    rw [heff.begins.mpr hday] at hcount
    exact congrArg Prod.fst hcount
  have hbudget := (w.budget (s.outCfg x).profile).trans hb
  simp only [w.outCfg, Profile.budgetFails]
  rw [hbudget, hused]
  exact decide_eq_false (Nat.not_le.mpr hpos)

/-! ### The erase-ahead target (R144) -/

theorem FlashPort.erasing_iff (f : FlashPort) : f.erasing = true ↔ ∃ k : Fin 8, f.op = some (.erase k) := by
  unfold FlashPort.erasing
  split
  · next k h => exact iff_of_true rfl ⟨k, h⟩
  · next h => exact iff_of_false Bool.false_ne_true fun ⟨k, hk⟩ => h k hk

theorem State.recheckTarget_rechecked (s : State) : targetRechecked s.recheckTarget.purse.target s := by
  unfold State.recheckTarget
  split
  · next h => exact ⟨fun _ => rfl, fun hno => absurd ((FlashPort.erasing_iff _).mp h) fun ⟨k, hk⟩ => hno k hk⟩
  · next h =>
    refine ⟨fun he => absurd ((FlashPort.erasing_iff _).mpr he) h, fun _ => ⟨?_, fun y hy => ?_⟩⟩
    · show (s.purse.target.map _).map _ = _
      rw [Option.map_map]
      rfl
    · obtain ⟨x, -, rfl⟩ := Option.map_eq_some_iff.mp hy
      exact s.sectorPasses_iff x.sector

theorem targetRechecked.congr {s u : State} {x : Option Target} (h : targetRechecked x u) (w : TickWork s u)
    (hp : u.purse = s.purse) : targetRechecked x s := by
  unfold targetRechecked targetPasses at *
  rwa [w.flashPort, w.nowMinute, hp] at h

/-! ### Each block works once (R40) -/

theorem State.tickBlocks_work (before : List CurrentOf) (order : List TickBlock) {s u : State} (h : TickWork s u) :
    TickWork s (order.foldl (State.tickBlock before) u) := by
  induction order generalizing u with
  | nil => exact h
  | cons b order ih => exact ih (h.trans (u.tickBlock_work before b).tick)

theorem State.tickBlocks_keep {P : State → Prop} {s : State} {before : List CurrentOf} {b : TickBlock}
    (hkeep : ∀ (u : State) (c : TickBlock), TickWork s u → c ≠ b → P u → P (u.tickBlock before c))
    {order : List TickBlock} (hb : b ∉ order) {u : State} (hu : TickWork s u) (h : P u) :
    P (order.foldl (State.tickBlock before) u) := by
  induction order generalizing u with
  | nil => exact h
  | cons c order ih =>
    obtain ⟨hne, hnot⟩ := not_or.mp (mt List.mem_cons.mpr hb)
    exact ih hnot (hu.trans (u.tickBlock_work before c).tick) (hkeep u c hu (Ne.symm hne) h)

/-- R40: in any order of the blocks, what one block brings about from a state that the others leave alone holds at the
end, if the others leave that alone too. -/
theorem State.tickBlocks_once {P Q : State → Prop} {s : State} {before : List CurrentOf} {order : List TickBlock}
    (ho : tickOrderOk order = true) (b : TickBlock) (h : P s)
    (hbefore : ∀ (u : State) (c : TickBlock), TickWork s u → c ≠ b → P u → P (u.tickBlock before c))
    (hdo : ∀ u : State, TickWork s u → P u → Q (u.tickBlock before b))
    (hafter : ∀ (u : State) (c : TickBlock), TickWork s u → c ≠ b → Q u → Q (u.tickBlock before c)) :
    Q (order.foldl (State.tickBlock before) s) := by
  have hperm := (Laws.WellFormed.order_iff order).mp ho
  have hmem : b ∈ order := hperm.mem_iff.mpr (by cases b <;> decide)
  have hnodup : order.Nodup := hperm.nodup_iff.mpr (by decide)
  obtain ⟨l, r, rfl⟩ := List.append_of_mem hmem
  have hnot : b ∉ l ∧ b ∉ r := by
    rw [List.nodup_append] at hnodup
    obtain ⟨-, hr, hdisj⟩ := hnodup
    exact ⟨fun hl => hdisj b hl b List.mem_cons_self rfl, (List.nodup_cons.mp hr).1⟩
  have hrefl : TickWork s s := (GateWork.refl s).tick
  have hu := State.tickBlocks_work before l hrefl
  rw [List.foldl_append, List.foldl_cons]
  refine State.tickBlocks_keep hafter hnot.2 (hu.trans (State.tickBlock_work before _ b).tick) ?_
  exact hdo _ hu (State.tickBlocks_keep hbefore hnot.1 hrefl h)

end Sys2Proof.Machine
end

section
/-! PROOFS. The work of a minute tick as a whole (R40, R41, R52, R53, R120 to R126, R135, R144, R167, R168, R178), and
the 1-second tick's MINUTE_TICK. -/

namespace Sys2Proof.Machine

/-- R41, R147, R167: what the check of the budget date reads and what it changes are as before. -/
structure DayPending (s u : State) : Prop where
  guide : u.guide = s.guide
  settings : u.settings = s.settings
  day : ∀ q : Fin 6, (u.profiles[q]).day = (s.profiles[q]).day

theorem DayPending.refl (s : State) : DayPending s s := ⟨rfl, rfl, fun _ => rfl⟩

/-- R41: they stay so until Guide Tables do their work. -/
theorem DayPending.tickBlock {s u : State} (h : DayPending s u) (before : List CurrentOf) {c : TickBlock}
    (hc : c ≠ .guide) : DayPending s (u.tickBlock before c) := by
  have w := u.tickBlock_work before c
  obtain ⟨hguide, hset⟩ := w.guide hc
  exact ⟨hguide.trans h.guide, hset.trans h.settings, fun q => (w.day hc q).trans (h.day q)⟩

theorem DayPending.minutesUsed {s u : State} (h : DayPending s u) (q : Fin 6) :
    (u.profiles[q]).minutesUsed = (s.profiles[q]).minutesUsed := congrArg Prod.fst (h.day q)

theorem DayPending.begins {s u : State} (h : DayPending s u) (w : TickWork s u) (hday : budgetDayBegins s) :
    budgetDayBegins u := by
  unfold budgetDayBegins at *
  rwa [w.part, h.guide]

/-- R40: a gate that follows still does after a further block. -/
theorem gateFollows.tickBlock_after {s u : State} (hp : PoolOk s) {x : Fin 6} (w : TickWork s u) (h : gateFollows u x)
    (before : List CurrentOf) (c : TickBlock) : gateFollows (u.tickBlock before c) x :=
  h.tickBlock (w.poolOk hp) before c

theorem State.tickBlock_access (before : List CurrentOf) (s : State) : s.tickBlock before .access = s.accessTick := rfl

section Blocks

variable {order : List TickBlock} (ho : tickOrderOk order = true) (s : State) (before : List CurrentOf)

/-- R40: the state after the blocks have done their work. -/
def State.blocksWorked (s : State) (before : List CurrentOf) (order : List TickBlock) : State :=
  order.foldl (State.tickBlock before) s

theorem State.blocksWorked_tick (order : List TickBlock) : TickWork s (s.blocksWorked before order) :=
  State.tickBlocks_work before order (GateWork.refl s).tick

include ho

theorem State.blocksWorked_pool : (s.blocksWorked before order).guide.pool = s.guide.age.pool := by
  refine State.tickBlocks_once (P := fun u => u.guide = s.guide) (Q := fun u => u.guide.pool = s.guide.age.pool)
    ho .guide rfl ?_ ?_ ?_
  · exact fun u c _ hc hu => ((u.tickBlock_work before c).guide hc).1.trans hu
  · exact fun u _ hu => (u.guideTick_pool before).trans (by rw [hu])
  · exact fun u c _ hc hu => by rw [((u.tickBlock_work before c).guide hc).1, hu]

theorem State.blocksWorked_access : AccessAged s.access (s.blocksWorked before order) := by
  refine State.tickBlocks_once (P := fun u => u.access = s.access) (Q := AccessAged s.access) ho .access rfl ?_ ?_ ?_
  · exact fun u c _ hc hu => ((u.tickBlock_work before c).access hc).1.trans hu
  · exact fun u _ hu => hu ▸ u.accessTick_aged
  · intro u c _ hc hu
    have w := u.tickBlock_work before c
    obtain ⟨haccess, hctxs⟩ := w.access hc
    exact hu.congr hctxs haccess w.tick.rights w.tick.nowMinute

theorem State.blocksWorked_date : dateWorked s (s.blocksWorked before order) := by
  refine State.tickBlocks_once (P := DayPending s) (Q := dateWorked s) ho .guide (.refl s) ?_ ?_ ?_
  · exact fun u c _ hc hu => hu.tickBlock before hc
  · exact fun u w hu => (u.guideTick_date before).congr w (by rw [hu.guide]) hu.settings hu.day
  · intro u c _ hc hu
    have w := u.tickBlock_work before c
    exact hu.keep (by rw [(w.guide hc).1]) (w.guide hc).2 (w.day hc)

theorem State.blocksWorked_results (q : Fin 6) : ((s.blocksWorked before order).profiles[q]).result =
    windowResult (s.profiles[q]).window s.guide.minuteOfDay := by
  refine State.tickBlocks_once (P := fun _ => True)
    (Q := fun u => (u.profiles[q]).result = windowResult (s.profiles[q]).window s.guide.minuteOfDay)
    ho .profiles trivial (fun _ _ _ _ _ => trivial) ?_ ?_
  · intro u w _
    show (u.windowTick.profiles[q]).result = _
    rw [u.windowTick_eq, (State.evaluateAll_work _ _ _ _).profiles, u.judgeWindows_get, ← w.window, ← w.minuteOfDay]
    rfl
  · exact fun u c _ hc hu => ((u.tickBlock_work before c).result hc q).trans hu

theorem State.blocksWorked_target : ∃ x : Option Target, targetRechecked x s ∧
    (s.blocksWorked before order).purse = { s.purse with target := x } := by
  refine State.tickBlocks_once (P := fun u => u.purse = s.purse)
    (Q := fun u => ∃ x : Option Target, targetRechecked x s ∧ u.purse = { s.purse with target := x })
    ho .purse rfl ?_ ?_ ?_
  · exact fun u c _ hc hu => ((u.tickBlock_work before c).purse hc).trans hu
  · exact fun u w hu => ⟨_, u.recheckTarget_rechecked.congr w hu, hu ▸ u.recheckTarget_block.tick.purse⟩
  · rintro u c - hc ⟨x, hx, hu⟩
    exact ⟨x, hx, ((u.tickBlock_work before c).purse hc).trans hu⟩

theorem State.blocksWorked_offers {x : Fin 6} (h : offerGuarded s x) : offerStands (s.blocksWorked before order) x := by
  refine State.tickBlocks_once (P := fun u => offerGuarded u x) (Q := fun u => offerStands u x) ho .access h ?_ ?_ ?_
  · exact fun u c _ hc hu => hu.tickBlock before hc
  · intro u _ hu
    rw [State.tickBlock_access]
    exact State.accessTick_stands hu
  · exact fun u c _ hc hu => hu.tickBlock before hc

theorem State.blocksWorked_budgets {x : Fin 6} {b : Nat} (hday : budgetDayBegins s)
    (hb : (s.profiles[(s.outCfg x).profile]).budget = some b) (hpos : 0 < b)
    (hreached : b ≤ (s.profiles[(s.outCfg x).profile]).minutesUsed) : budgetOpen (s.blocksWorked before order) x := by
  refine State.tickBlocks_once (P := DayPending s) (Q := fun u => budgetOpen u x) ho .guide (.refl s) ?_ ?_ ?_
  · exact fun u c _ hc hu => hu.tickBlock before hc
  · intro u w hu
    refine State.guideTick_budgetOpen (b := b) (hu.begins w hday) ?_ hpos ?_ before
    · simp only [w.outCfg, w.budget]
      exact hb
    · simp only [w.outCfg, hu.minutesUsed]
      exact hreached
  · exact fun u c _ _ hu => hu.tickBlock before c

section Gates

variable (hp : PoolOk s) {x : Fin 6} {v : Tuned} (hv : (s.outs[x]).tune = some v)
include hp hv

/-- R120: a gate follows after a tick unless the verdict of its governing half is as it was. -/
theorem State.blocksWorked_verdict : gateFollows (s.blocksWorked before order) x ∨
    ((s.blocksWorked before order).ctxs[v.context]).governingVerdict = (s.ctxs[v.context]).governingVerdict := by
  refine State.tickBlocks_once (P := fun u => u.ctxs = s.ctxs)
    (Q := fun u => gateFollows u x ∨ (u.ctxs[v.context]).governingVerdict = (s.ctxs[v.context]).governingVerdict)
    ho .access rfl ?_ ?_ ?_
  · exact fun u c _ hc hu => ((u.tickBlock_work before c).access hc).2.trans hu
  · intro u w hu
    by_cases he : (u.accessTick.ctxs[v.context]).governingVerdict = (s.ctxs[v.context]).governingVerdict
    · exact .inr he
    · refine .inl (State.accessTick_follows (w.poolOk hp) (.inr fun y hy => ?_))
      rw [w.tune, hv] at hy
      cases hy
      rwa [hu]
  · intro u c w hc hu
    refine hu.imp (fun h => h.tickBlock_after hp w before c) fun h => ?_
    rw [((u.tickBlock_work before c).access hc).2]
    exact h

/-- R53: a gate follows whose service has another current event than before. -/
theorem State.blocksWorked_current {b : CurrentOf} (hb : b ∈ before) (hs : b.service = v.service)
    (hne : b.event ≠ (s.guide.currentEvent v.service).map (fun e => (e.id, e.rating))) :
    gateFollows (s.blocksWorked before order) x := by
  refine State.tickBlocks_once (P := fun _ => True) (Q := fun u => gateFollows u x) ho .guide trivial
    (fun _ _ _ _ _ => trivial) ?_ ?_
  · intro u w _
    refine State.guideTick_follows_current (w.poolOk hp) ((w.tune x).trans hv) hb hs ?_
    rwa [w.current]
  · exact fun u c w _ h => h.tickBlock_after hp w before c

omit hv in
/-- R168: a gate follows whose profile has another window result than before. -/
theorem State.blocksWorked_window (hne : windowResult (s.profiles[(s.outCfg x).profile]).window s.guide.minuteOfDay ≠
    (s.profiles[(s.outCfg x).profile]).result) : gateFollows (s.blocksWorked before order) x := by
  refine State.tickBlocks_once (P := fun u => ∀ q : Fin 6, (u.profiles[q]).result = (s.profiles[q]).result)
    (Q := fun u => gateFollows u x) ho .profiles (fun _ => rfl) ?_ ?_ ?_
  · exact fun u c _ hc hu q => ((u.tickBlock_work before c).result hc q).trans (hu q)
  · intro u w hu
    refine State.windowTick_follows (.inr ?_)
    simp only [w.outCfg, w.window, w.minuteOfDay, hu]
    exact Ne.symm hne
  · exact fun u c w _ h => h.tickBlock_after hp w before c

omit hv in
/-- R167: a gate follows whose budget was reached before a new budget day. -/
theorem State.blocksWorked_day {b : Nat} (hday : budgetDayBegins s)
    (hb : (s.profiles[(s.outCfg x).profile]).budget = some b)
    (hreached : b ≤ (s.profiles[(s.outCfg x).profile]).minutesUsed) : gateFollows (s.blocksWorked before order) x := by
  refine State.tickBlocks_once (P := DayPending s) (Q := fun u => gateFollows u x) ho .guide (.refl s) ?_ ?_ ?_
  · exact fun u c _ hc hu => hu.tickBlock before hc
  · intro u w hu
    refine State.guideTick_follows_day (hu.begins w hday) ?_ before
    simp only [w.outCfg, Profile.budgetFails]
    rw [w.budget, hb, hu.minutesUsed]
    exact decide_eq_true hreached
  · exact fun u c w _ h => h.tickBlock_after hp w before c

end Gates

/-- R53, R120, R167, R168: a gate with a moved input follows. -/
theorem State.blocksWorked_follows (hp : PoolOk s) {x : Fin 6}
    (hx : tickMoves before s (s.blocksWorked before order) x) : gateFollows (s.blocksWorked before order) x := by
  obtain ⟨v, p, hv, rfl, hmoved⟩ := hx
  rcases hmoved with hverdict | ⟨b, hb, hs, hne⟩ | hwindow | ⟨hday, b, hb, hreached⟩
  · exact (State.blocksWorked_verdict ho s before hp hv).resolve_right hverdict
  · rw [(s.blocksWorked_tick before order).current] at hne
    exact State.blocksWorked_current ho s before hp hv hb hs hne
  · exact State.blocksWorked_window ho s before hp hwindow
  · exact State.blocksWorked_day ho s before hp hday hb hreached

end Blocks

/-! ### The whole work (R40, R178) -/

theorem Profile.eq_of_parts {p q : Profile} {d : Nat × Nat × Bool} (h : q.timeless = p.timeless) (hd : q.day = d) :
    q = { p with result := q.result, minutesUsed := d.1, accumulator := d.2.1, warned := d.2.2 } := by
  subst hd
  obtain ⟨_⟩ := p
  obtain ⟨_⟩ := q
  simp_all [Profile.timeless, Profile.day]

/-- R40, R178: what the blocks and the deferred notices leave, at the end of the command. -/
structure TickEnd (u t : State) : Prop where
  notices : GateWork u u.deferredNotices
  ended : EndOf u.deferredNotices t
  flash : flashFollows u.flashPort u.settings u.purse t

theorem TickEnd.of_end {u t : State} (he : EndOf u.deferredNotices t)
    (hf : flashFollows u.deferredNotices.flashPort u.deferredNotices.settings u.deferredNotices.purse t) :
    TickEnd u t := by
  have w := u.deferredNotices_work
  rw [w.flashPort, w.settings, w.purse] at hf
  exact ⟨w, he, hf⟩

section End

variable {u t : State} (h : TickEnd u t)
include h

theorem TickEnd.guide : t.guide = u.guide := h.ended.guide.trans h.notices.guide

theorem TickEnd.access : t.access = u.access := h.ended.access.trans h.notices.access

theorem TickEnd.ctxs : t.ctxs = u.ctxs := h.ended.ctxs.trans h.notices.ctxs

theorem TickEnd.profiles : t.profiles = u.profiles := h.ended.profiles.trans h.notices.profiles

theorem TickEnd.rights : t.rights = u.rights := h.ended.rights.trans h.notices.rights

theorem TickEnd.gate (x : Fin 6) : (t.outs[x]).gate = (u.outs[x]).gate := by
  rw [h.ended.outs]
  exact (u.deferredNotices_keeps x).1.1

theorem TickEnd.offer (x : Fin 6) : (t.outs[x]).offer = (u.outs[x]).offer := by
  rw [h.ended.outs]
  exact (u.deferredNotices_keeps x).2

theorem TickEnd.tune (x : Fin 6) : (t.outs[x]).tune = (u.outs[x]).tune := by
  rw [h.ended.outs]
  exact (h.notices.outs x).tune

theorem TickEnd.reported (x : Fin 6) : gateReported t x := by
  unfold gateReported
  rw [h.ended.outs]
  exact u.deferredNotices_reported x

theorem TickEnd.view (x : Fin 6) : GateView x u t := by
  refine ⟨h.ended.cfg.trans h.notices.cfg, h.guide, h.rights, h.profiles, h.ctxs, h.tune x, ?_, ?_⟩
  · rw [h.ended.outs]
    exact (u.deferredNotices_keeps x).1.2
  · rw [h.ended.outs]
    exact (h.notices.outs x).periodUnlock

theorem TickEnd.follows {x : Fin 6} (hx : gateFollows u x) : gateFollows t x :=
  h.ended.gateFollows (hx.keep h.notices (u.deferredNotices_keeps x).1)

theorem TickEnd.stands {x : Fin 6} (hx : offerStands u x) : offerStands t x := by
  have hi : OfferInputs x u t := ⟨h.tune x, by rw [h.guide], fun c => by rw [h.ctxs]⟩
  unfold offerStands
  rw [h.offer, h.gate, hi.dueOffer]
  exact hx

end End

/-- R41, R167, R168: the profiles after a tick. -/
theorem State.blocksWorked_profile {order : List TickBlock} (ho : tickOrderOk order = true) (s : State)
    (before : List CurrentOf) (q : Fin 6) :
    (budgetDayBegins s → (s.blocksWorked before order).profiles[q] = { s.profiles[q] with
      result := windowResult (s.profiles[q]).window s.guide.minuteOfDay
      minutesUsed := 0
      accumulator := 0
      warned := false }) ∧
    (¬ budgetDayBegins s → (s.blocksWorked before order).profiles[q] = { s.profiles[q] with
      result := windowResult (s.profiles[q]).window s.guide.minuteOfDay }) := by
  obtain ⟨day, heff, -, hcount⟩ := State.blocksWorked_date ho s before
  have hq := Profile.eq_of_parts ((s.blocksWorked_tick before order).profiles q) (hcount q)
  rw [State.blocksWorked_results ho s before q] at hq
  refine ⟨fun hb => ?_, fun hb => ?_⟩
  · rwa [heff.begins.mpr hb] at hq
  · rwa [Bool.eq_false_iff.mpr (mt heff.begins.mp hb)] at hq

/-- R40, R178: the work of a minute tick, up to the end of its command. -/
theorem TickEnd.worked {order : List TickBlock} (ho : tickOrderOk order = true) {s t : State} {before : List CurrentOf}
    (h : TickEnd (s.blocksWorked before order) t) : minuteWorked before s t := by
  have w := s.blocksWorked_tick before order
  have hpool := State.blocksWorked_pool ho s before
  have haged := State.blocksWorked_access ho s before
  obtain ⟨day, heff, hmark, -⟩ := State.blocksWorked_date ho s before
  have hprofile := State.blocksWorked_profile ho s before
  refine ⟨?_, ?_, ?_, fun m hm => ⟨?_, ?_⟩, fun hn => ⟨?_, ?_⟩, fun x => ⟨(h.tune x).trans (w.tune x), fun hx => ?_⟩,
    ⟨?_, fun hday => ⟨fun q => ?_, fun x b hb hpos hreached => ?_⟩, fun hday q => ?_⟩, ?_, fun x v hv hguard => ?_, ?_,
    fun hp x v hx hv => ?_⟩
  · rw [h.guide, w.clock]
  · rw [h.guide, w.offset]
  · rw [h.guide, w.map]
  · rw [h.guide, hpool, Guide.age_pool_of_now hm]
  · rw [h.access, haged.owned, w.nowMinute, hm, AccessUnit.age_owned]
  · rw [h.guide, hpool, Guide.age_of_unset hn]
  · rw [h.access, haged.owned, w.nowMinute, hn, AccessUnit.age_of_unset]
  · refine h.reported x ?_
    rwa [h.tune, w.tune]
  · rw [← h.guide] at heff
    exact heff.moved
  · rw [h.profiles]
    exact (hprofile q).1 hday
  · have hopen := (State.blocksWorked_budgets ho s before hday hb hpos hreached).2
    rwa [← h.gate, w.tune] at hopen
  · rw [h.profiles]
    exact (hprofile q).2 hday
  · refine (haged.congr h.ctxs h.access h.rights (by rw [h.guide])).verdicts (by rw [h.guide, w.nowMinute]) fun c => ?_
    rw [h.ctxs]
    exact w.ctxs c
  · exact (h.stands (State.blocksWorked_offers ho s before hguard)).refreshed
  · obtain ⟨x, hx, hpurse⟩ := State.blocksWorked_target ho s before
    refine ⟨x, hx, ?_⟩
    have hflash := h.flash
    rw [w.flashPort, hpurse, hmark, ← h.guide] at hflash
    exact hflash
  · refine h.follows (State.blocksWorked_follows ho s before hp ?_) v hv
    obtain ⟨y, p, hy, hpq, hmoved⟩ := hx
    refine ⟨y, p, hy, hpq, ?_⟩
    rwa [(h.view x).gateInputs, h.guide] at hmoved

end Sys2Proof.Machine
end

section
/-! PROOFS. MINUTE_TICK as a command of its own (R40, R178; log entry 3). -/

namespace Sys2Proof.Machine

/-- R40: the work of a minute tick and the end of its command. -/
theorem TickEnd.of_settle (s : State) (before : List CurrentOf) (order : List TickBlock) :
    TickEnd (s.blocksWorked before order) (s.minuteWork before order).settle :=
  .of_end (State.settle_end _) (State.settle_flashFollows _)

theorem State.minuteWork_frame (s : State) (before : List CurrentOf) (order : List TickBlock) :
    Frame tickAreas s (s.minuteWork before order) :=
  ((s.blocksWorked_tick before order).trans (State.deferredNotices_work _).tick).frame

/-- The state with its minute tick taken up. -/
def State.tickTaken (s : State) : State := { s with ticks := { s.ticks with minuteDue := none } }

theorem State.tickTaken_frame (s : State) : Frame [.time] s s.tickTaken :=
  ⟨by simp [onlyChanges, Area.forall_iff, Area.same, State.tickTaken], rfl⟩

theorem exec_minuteTick {order : List TickBlock} (ho : tickOrderOk order = true) {s : State} {before : List CurrentOf}
    (hb : s.ticks.minuteDue = some before) :
    exec (.minuteTick order) s = .next (s.tickTaken.minuteWork before order).settle := by
  show execMinuteTick order s = _
  unfold execMinuteTick
  rw [ho, hb]
  rfl

/-- Settles O22: each block works once, on a state of which the others leave alone what it reads, and the others leave
alone what it brings about; the deferred notices and the end of the command keep both. -/
theorem minuteTickAgesAndReports : Obligations.MinuteTickAgesAndReports := by
  unfold Obligations.MinuteTickAgesAndReports
  intro order s before ho hb
  have hframe := s.tickTaken.minuteWork_frame before order
  refine ⟨_, exec_minuteTick ho hb, ?_, ?_, ?_⟩
  · rw [State.settle_ticks, hframe.only .time (by decide)]
    rfl
  · exact (TickEnd.of_settle s.tickTaken before order).worked ho
  · exact (s.tickTaken_frame.trans hframe (by decide) (by decide)).settle

end Sys2Proof.Machine
end

section
/-! PROOFS. TIME records (R38 to R40). -/

namespace Sys2Proof.Machine

/-! ### The clock and the offset (R38, R39) -/

/-- R182: a notice touches the DRAM port's own FIFO and the Notice Writer. -/
theorem State.notify_eq (s : State) (n : Notice) :
    ∃ (p : Port) (w : Writer), s.notify n = { s with port := p, writer := w } := by
  cases hfull : s.writer.full with
  | false => exact ⟨_, _, s.notify_room n hfull⟩
  | true =>
    rw [s.notify_full n hfull]
    dsimp only
    split
    · exact ⟨_, _, rfl⟩
    · exact ⟨_, _, rfl⟩

/-- R39: the step of a clock that is set is above 300 seconds either way. -/
def Guide.jumps (g : Guide) (clock : Nat) : Prop :=
  ∃ c : Nat, g.clock = some c ∧ (300 < (clock : Int) - c ∨ (clock : Int) - c < -300)

theorem State.noteJump_of_jump {s : State} {c clock : Nat} (hc : s.guide.clock = some c)
    (h : 300 < (clock : Int) - c ∨ (clock : Int) - c < -300) (offset : Int) :
    s.noteJump clock offset = s.notify (.timeJump (clampSigned ((clock : Int) - c)) clock offset) := by
  unfold State.noteJump
  rw [hc]
  exact if_pos h

theorem State.noteJump_of_small {s : State} {clock : Nat} (h : ¬ s.guide.jumps clock) (offset : Int) :
    s.noteJump clock offset = s := by
  unfold State.noteJump
  split
  · rfl
  · next c hc => exact if_neg fun hstep => h ⟨c, hc, hstep⟩

theorem State.noteJump_work (s : State) (clock : Nat) (offset : Int) : GateWork s (s.noteJump clock offset) := by
  by_cases h : s.guide.jumps clock
  · obtain ⟨c, hc, hstep⟩ := h
    rw [State.noteJump_of_jump hc hstep]
    exact s.notify_work _
  · rw [State.noteJump_of_small h]
    exact GateWork.refl s

/-- R39: nothing but the own FIFO and the Notice Writer changes with the notice of a jump. -/
theorem State.noteJump_eq (s : State) (clock : Nat) (offset : Int) :
    ∃ (p : Port) (w : Writer), s.noteJump clock offset = { s with port := p, writer := w } := by
  by_cases h : s.guide.jumps clock
  · obtain ⟨c, hc, hstep⟩ := h
    rw [State.noteJump_of_jump hc hstep]
    exact s.notify_eq _
  · rw [State.noteJump_of_small h]
    exact ⟨_, _, rfl⟩

/-- R38: Guide Tables with the clock and the offset set. -/
def Guide.withTime (g : Guide) (clock : Nat) (offset : Int) : Guide := { g with clock := some clock, offset := offset }

/-- R38, R39: the clock and the offset are set, after the notice of a jump. -/
def State.timeSet (s : State) (clock : Nat) (offset : Int) : State :=
  (s.noteJump clock offset).modGuide (fun g => g.withTime clock offset)

/-- R38 to R40: what an acceptable TIME record does. -/
def State.timeEffect (s : State) (order : List TickBlock) (clock : Nat) (offset : Int) : State :=
  if s.guide.timeTicks clock offset then (s.timeSet clock offset).minuteWork s.currentEvents order
  else s.timeSet clock offset

section Effect

variable (s : State) (order : List TickBlock) (clock : Nat) (offset : Int)

theorem State.timeSet_frame : Frame [.own, .guide, .outputs, .writer] s (s.timeSet clock offset) :=
  (s.noteJump_work clock offset).toFrame.trans (State.modGuide_frame _ _) (by decide) (by decide)

theorem State.timeSet_noticed : Noticed s (s.timeSet clock offset) :=
  (s.noteJump_work clock offset).noticed.trans (.of_port rfl)

theorem State.timeSet_guide : (s.timeSet clock offset).guide = s.guide.withTime clock offset := by
  rw [State.timeSet, State.modGuide, (s.noteJump_work clock offset).guide]

theorem State.timeEffect_tick : TickWork (s.timeSet clock offset) (s.timeEffect order clock offset) := by
  unfold State.timeEffect
  split
  · exact ((s.timeSet clock offset).blocksWorked_tick s.currentEvents order).trans (State.deferredNotices_work _).tick
  · exact (GateWork.refl _).tick

theorem State.timeRecord_of_range {s : State} {offset : Int} (hlow : -720 ≤ offset) (hhigh : offset ≤ 840)
    (order : List TickBlock) (clock : Nat) :
    s.timeRecord order clock offset = (s.timeEffect order clock offset, ⟨.accepted, 0⟩) :=
  if_neg (by omega)

end Effect

/-- R40: a TIME record raises a minute tick where it first sets the clock, or changes now-minute or the offset. -/
theorem Guide.timeTicks_iff (g : Guide) (clock : Nat) (offset : Int) : g.timeTicks clock offset = true ↔
    g.clock = none ∨ ∃ c : Nat, g.clock = some c ∧ (c / 60 ≠ clock / 60 ∨ g.offset ≠ offset) := by
  unfold Guide.timeTicks
  cases g.clock <;> simp

/-- R39: within a minute no step is large. -/
theorem Guide.not_jumps_of_minute {g : Guide} {c clock : Nat} (hc : g.clock = some c) (h : c / 60 = clock / 60) :
    ¬ g.jumps clock := by
  rintro ⟨d, hd, hstep⟩
  rw [hc] at hd
  cases hd
  omega

theorem exec_time {order : List TickBlock} (ho : tickOrderOk order = true) (s : State) :
    exec (.time order) s = recordStep s .time (fun _ => true)
      (fun s f => s.timeRecord order (f.bytes.b4 0) (signedField f.bytes 12 2)) := by
  show execTime order s = _
  unfold execTime
  rw [ho]
  rfl

section Accepted

variable {order : List TickBlock} (ho : tickOrderOk order = true) {s : State} {f : Fetched} {offset : Int}
  (h : atHand s .time f)

/-- R38: the end of an acceptable TIME record. -/
def State.timeEnd (s : State) (f : Fetched) (order : List TickBlock) (offset : Int) : State :=
  ((s.freePort.timeEffect order (f.bytes.b4 0) offset).finishRecord f
    ((s.freePort.timeEffect order (f.bytes.b4 0) offset).scrubWrites f.slot .time) ⟨.accepted, 0⟩).settle

theorem exec_time_accepted {order : List TickBlock} (ho : tickOrderOk order = true) {s : State} {f : Fetched}
    (h : atHand s .time f) {offset : Int} (hoffset : offset = signedField f.bytes 12 2) (hlow : -720 ≤ offset)
    (hhigh : offset ≤ 840) : exec (.time order) s = .next (s.timeEnd f order offset) := by
  subst hoffset
  rw [exec_time ho]
  exact recordStep_atHand h rfl (State.timeRecord_of_range hlow hhigh order (f.bytes.b4 0))

include h

theorem State.timeEnd_end (order : List TickBlock) (offset : Int) :
    EndOf (s.freePort.timeEffect order (f.bytes.b4 0) offset) (s.timeEnd f order offset) :=
  have ⟨_, ha, _⟩ := h
  State.finishRecord_end _ ha _ _

theorem State.timeEnd_answered (order : List TickBlock) (offset : Int) :
    answeredAfter f .time ⟨.accepted, 0⟩ s (s.timeEnd f order offset) := by
  have ⟨_, ha, _⟩ := h
  have hset := s.freePort.timeSet_frame (f.bytes.b4 0) offset
  have w := s.freePort.timeEffect_tick order (f.bytes.b4 0) offset
  exact State.finishRecord_after ha ((State.timeSet_noticed _ _ _).trans w.noticed)
    (w.cfg.trans (hset.only .config (by decide))) (w.intake.trans (hset.only .intake (by decide))) .time _

theorem State.timeEnd_frame (order : List TickBlock) (offset : Int) :
    onlyChanges [.own, .intake, .guide, .contexts, .outputs, .access, .profiles, .writer, .flashWork] s
      (s.timeEnd f order offset) := by
  have ⟨hf, ha, _⟩ := h
  have hset := (State.fetched_freePort_frame hf ha).trans (s.freePort.timeSet_frame (f.bytes.b4 0) offset)
    (cs := tickAreas) (by decide) (by decide)
  have w := hset.trans (s.freePort.timeEffect_tick order (f.bytes.b4 0) offset).frame (cs := tickAreas)
    (by decide) (by decide)
  exact (w.trans (State.finishRecord_attached_frame _ ha _ _)
    (cs := [.own, .intake, .guide, .contexts, .outputs, .access, .profiles, .writer, .flashWork])
    (by decide) (by decide)).settle

/-- R38: the clock and the offset are set. -/
theorem State.timeEnd_time (order : List TickBlock) (offset : Int) :
    (s.timeEnd f order offset).guide.clock = some (f.bytes.b4 0) ∧ (s.timeEnd f order offset).guide.offset = offset ∧
      (s.timeEnd f order offset).guide.map = s.guide.map := by
  have w := s.freePort.timeEffect_tick order (f.bytes.b4 0) offset
  rw [(State.timeEnd_end h order offset).guide, w.clock, w.offset, w.map, State.timeSet_guide]
  exact ⟨rfl, rfl, rfl⟩

/-- R39: the notice of a jump comes before every other write. -/
theorem State.timeEnd_jump (order : List TickBlock) (offset : Int) {c : Nat} (hc : s.guide.clock = some c)
    (hstep : 300 < (f.bytes.b4 0 : Int) - c ∨ (f.bytes.b4 0 : Int) - c < -300) :
    ∃ rs : List OwnReq, (s.timeEnd f order offset).port.ownAll = ((s.freePort).notify
      (.timeJump (clampSigned ((f.bytes.b4 0 : Int) - c)) (f.bytes.b4 0) offset)).port.own ++ rs := by
  have ⟨_, ha, _⟩ := h
  have hjump : (s.freePort.timeSet (f.bytes.b4 0) offset).port = (s.freePort.notify
      (.timeJump (clampSigned ((f.bytes.b4 0 : Int) - c)) (f.bytes.b4 0) offset)).port := by
    rw [← State.noteJump_of_jump (s := s.freePort) hc hstep]
    rfl
  obtain ⟨rs, hport, -⟩ := (s.freePort.timeEffect_tick order (f.bytes.b4 0) offset).noticed.port
  have hidle : (s.freePort.notify
      (.timeJump (clampSigned ((f.bytes.b4 0 : Int) - c)) (f.bytes.b4 0) offset)).port.serving = none :=
    State.notify_serving _ _
  rw [hjump] at hport
  have hfree : (s.freePort.timeEffect order (f.bytes.b4 0) offset).port.serving = none := by rw [hport]; exact hidle
  obtain ⟨hown, -⟩ := State.finishRecord_answers ha hfree .time ⟨.accepted, 0⟩
  have hfirst : (s.freePort.timeEffect order (f.bytes.b4 0) offset).port.own = (s.freePort.notify
      (.timeJump (clampSigned ((f.bytes.b4 0 : Int) - c)) (f.bytes.b4 0) offset)).port.own ++ rs := by rw [hport]
  rw [hfirst, List.append_assoc, List.append_assoc] at hown
  exact ⟨_, hown⟩

/-- R40: within the same minute with the same offset nothing but the clock changes. -/
theorem State.timeEnd_same {order : List TickBlock} {offset : Int} {c : Nat} (hc : s.guide.clock = some c)
    (hminute : c / 60 = f.bytes.b4 0 / 60) (hoffset : s.guide.offset = offset) :
    answersWith f .time ⟨.accepted, 0⟩ s.freePort (s.timeEnd f order offset) ∧
      (s.timeEnd f order offset).guide = { s.guide with clock := some (f.bytes.b4 0) } ∧
      onlyChanges [.own, .intake, .guide] s (s.timeEnd f order offset) := by
  have ⟨hf, ha, _⟩ := h
  subst hoffset
  have hticks : ¬ s.freePort.guide.timeTicks (f.bytes.b4 0) s.guide.offset = true := by
    rw [Guide.timeTicks_iff]
    rintro (hnone | ⟨d, hd, hne⟩)
    · rw [show s.guide.clock = none from hnone] at hc
      cases hc
    · rw [show s.guide.clock = some d from hd] at hc
      cases hc
      exact hne.elim (fun hm => hm hminute) (fun ho => ho rfl)
  have heffect : s.freePort.timeEffect order (f.bytes.b4 0) s.guide.offset =
      s.freePort.modGuide (fun g => g.withTime (f.bytes.b4 0) s.guide.offset) := by
    rw [State.timeEffect, if_neg hticks, State.timeSet,
      State.noteJump_of_small (Guide.not_jumps_of_minute (g := s.freePort.guide) hc hminute)]
  unfold State.timeEnd
  rw [heffect]
  refine ⟨State.finishRecord_answers (u := s.freePort.modGuide _) ha rfl .time _, ?_, ?_⟩
  · rw [(State.finishRecord_end _ ha _ _).guide]
    rfl
  · have hguide := (State.fetched_freePort_frame hf ha).trans
      (s.freePort.modGuide_frame (fun g => g.withTime (f.bytes.b4 0) s.guide.offset)) (cs := [.own, .guide])
      (by decide) (by decide)
    exact (hguide.trans (State.finishRecord_attached_frame _ ha _ _) (cs := [.own, .intake, .guide])
      (by decide) (by decide)).settle

include ho

/-- R40: a record that raises a minute tick does its whole work, on the clock and offset it set. -/
theorem State.timeEnd_worked
    (hticks : s.guide.clock = none ∨
      ∃ c : Nat, s.guide.clock = some c ∧ (c / 60 ≠ f.bytes.b4 0 / 60 ∨ s.guide.offset ≠ offset)) :
    minuteWorked s.currentEvents { s with guide := s.guide.withTime (f.bytes.b4 0) offset }
      (s.timeEnd f order offset) := by
  have ⟨_, ha, _⟩ := h
  have heffect : s.freePort.timeEffect order (f.bytes.b4 0) offset =
      ((s.freePort.timeSet (f.bytes.b4 0) offset).blocksWorked s.currentEvents order).deferredNotices :=
    if_pos ((Guide.timeTicks_iff s.freePort.guide _ _).mpr hticks)
  have hflash := State.settle_flashFollows ((s.freePort.timeEffect order (f.bytes.b4 0) offset).finishRecord f
    ((s.freePort.timeEffect order (f.bytes.b4 0) offset).scrubWrites f.slot .time) ⟨.accepted, 0⟩)
  have hend := State.timeEnd_end h order offset
  have htick : TickEnd ((s.freePort.timeSet (f.bytes.b4 0) offset).blocksWorked s.currentEvents order)
      (s.timeEnd f order offset) := by
    refine .of_end (heffect ▸ hend) ?_
    rw [← heffect]
    rw [State.finishRecord_attached _ ha] at hflash
    unfold State.timeEnd
    rw [State.finishRecord_attached _ ha]
    simpa using hflash
  have hworked := htick.worked ho
  obtain ⟨p, w, hset⟩ := s.freePort.noteJump_eq (f.bytes.b4 0) offset
  rw [State.timeSet, hset] at hworked
  exact hworked

end Accepted

/-- Settles O20: the record sets the time (`State.timeSet`), does the work of a minute tick if it raised one
(`State.timeEnd_worked`), and is answered. -/
theorem timeRecordSetsClock : Obligations.TimeRecordSetsClock := by
  unfold Obligations.TimeRecordSetsClock
  intro order s f offset ho h hoffset
  refine ⟨fun hout => ?_, fun hlow hhigh =>
    ⟨_, exec_time_accepted ho h hoffset hlow hhigh, State.timeEnd_answered h order offset, ?_⟩⟩
  · subst hoffset
    rw [exec_time ho]
    exact recordStep_counted (fun c => { c with malformed := satInc c.malformed }) h rfl (if_pos hout)
  · obtain ⟨hclock, hoff, hmap⟩ := State.timeEnd_time h order offset
    exact ⟨hclock, hoff, hmap, fun c hc hstep => State.timeEnd_jump h order offset hc hstep,
      fun c hc hminute hsame => State.timeEnd_same h hc hminute hsame, State.timeEnd_worked ho h,
      State.timeEnd_frame h order offset⟩

end Sys2Proof.Machine
end

section
/-! PROOFS. The contexts of the Context Pool: finding one (R59, R63), freeing one (R71, R45), taking one (R63, R65, R70), and
the records and timers that do so. -/

namespace Sys2Proof.Machine

/-! ### Contexts by what they are (R58, R59) -/

theorem Context.isFree_iff (c : Context) : c.isFree = true ↔ c.life = .free := by
  unfold Context.isFree
  split <;> simp_all

theorem Context.stagedSince_iff {c : Context} {n : Nat} : c.stagedSince = some n ↔ ∃ u : Tuning, c.life = .staged u n := by
  unfold Context.stagedSince
  split <;> simp_all

theorem Context.tuning_of_staged {c : Context} {u : Tuning} {n : Nat} (h : c.life = .staged u n) : c.tuning = some u := by
  simp [Context.tuning, h]

theorem Context.inactive_of_free {c : Context} (h : c.life = .free) : c.isActive = false := by
  simp [Context.isActive, h]

theorem Context.inactive_of_staged {c : Context} {u : Tuning} {n : Nat} (h : c.life = .staged u n) :
    c.isActive = false := by
  simp [Context.isActive, h]

/-- R58: a context that is not FREE carries a service and is STAGED or ACTIVE. -/
theorem Context.life_of_tuning {c : Context} {u : Tuning} (h : c.tuning = some u) :
    c.life = .active u ∨ ∃ n : Nat, c.life = .staged u n := by
  unfold Context.tuning at h
  split at h <;> simp_all

/-- R59: the context found is one of the service and window. -/
theorem State.findContext_some {s : State} {svc w : Nat} {c : Fin 8} (h : s.findContext svc w = some c) :
    ∃ u : Tuning, (s.ctxs[c]).tuning = some u ∧ u.service = svc ∧ u.window.val = w := by
  have hc := List.find?_some h
  split at hc
  · next u hu => exact ⟨u, hu, by simpa using hc⟩
  · cases hc

/-- R59: none is found only where no context is of the service and window. -/
theorem State.findContext_none {s : State} {svc w : Nat} (h : s.findContext svc w = none) {c : Fin 8} {u : Tuning}
    (hu : (s.ctxs[c]).tuning = some u) (hs : u.service = svc) : u.window.val ≠ w := by
  have hc := List.find?_eq_none.mp h c (mem_allContexts c)
  rw [hu] at hc
  intro hw
  simp [hs, hw] at hc

/-! ### Freeing a context (R71, R45) -/

theorem State.freeContext_eq (s : State) (c : Fin 8) : ∃ es : List MapEntry, s.freeContext c =
    { s.modCtx c (fun _ => Context.free) with guide := { s.guide with retained := es } } := by
  unfold State.freeContext
  split
  · exact ⟨s.guide.retained, rfl⟩
  · dsimp only
    split
    · exact ⟨s.guide.retained, rfl⟩
    · exact ⟨_, rfl⟩

theorem State.freeContext_ctxs (s : State) (c : Fin 8) :
    (s.freeContext c).ctxs = (s.modCtx c (fun _ => Context.free)).ctxs := by
  obtain ⟨es, h⟩ := s.freeContext_eq c
  rw [h]

theorem State.freeContext_tables (s : State) (c : Fin 8) : TablesOnly s (s.freeContext c) := by
  obtain ⟨es, h⟩ := s.freeContext_eq c
  exact ⟨_, _, h, rfl⟩

/-- R71, R45: the retained entry of the service that a context ran ends unless another context runs the service. -/
theorem State.freeContext_guide {s : State} {c : Fin 8} {u : Tuning} (h : (s.ctxs[c]).tuning = some u) :
    ((∃ (d : Fin 8) (x : Tuning), d ≠ c ∧ (s.ctxs[d]).tuning = some x ∧ x.service = u.service) →
      (s.freeContext c).guide = s.guide) ∧
    ((∀ (d : Fin 8) (x : Tuning), d ≠ c → (s.ctxs[d]).tuning = some x → x.service ≠ u.service) →
      (s.freeContext c).guide =
        { s.guide with retained := s.guide.retained.filter (fun e => e.service ≠ u.service) }) := by
  have hrunning : (s.modCtx c (fun _ => Context.free)).serviceRunning u.service = true ↔
      ∃ (d : Fin 8) (x : Tuning), d ≠ c ∧ (s.ctxs[d]).tuning = some x ∧ x.service = u.service := by
    rw [State.serviceRunning_iff]
    refine exists_congr fun d => exists_congr fun x => ?_
    rw [State.modCtx_get]
    by_cases e : c = d
    · simp [e, Context.tuning, Context.free]
    · simp [e, Ne.symm e]
  unfold State.freeContext
  simp only [h]
  refine ⟨fun hd => ?_, fun hd => ?_⟩
  · rw [if_pos (hrunning.mpr hd)]
    rfl
  · rw [if_neg fun hr => ?_]
    · rfl
    · obtain ⟨d, x, hne, hx, hs⟩ := hrunning.mp hr
      exact hd d x hne hx hs

/-! ### Taking a context (R63, R65, R70) -/

/-- R70: the oldest STAGED context of an ascending list, of two the lower-numbered; none where none is STAGED. -/
theorem State.oldestOf_oldest (s : State) {cs : List (Fin 8)} (hcs : cs.Pairwise (· < ·)) :
    (∀ (c : Fin 8) (t : Nat), s.oldestOf cs = some (c, t) → c ∈ cs ∧ (s.ctxs[c]).stagedSince = some t ∧
      ∀ d ∈ cs, ∀ n : Nat, (s.ctxs[d]).stagedSince = some n → t < n ∨ t = n ∧ c ≤ d) ∧
    (s.oldestOf cs = none → ∀ d ∈ cs, (s.ctxs[d]).stagedSince = none) := by
  induction cs with
  | nil => simp [State.oldestOf]
  | cons x xs ih =>
    obtain ⟨hlt, hxs⟩ := List.pairwise_cons.mp hcs
    obtain ⟨hsome, hnone⟩ := ih hxs
    unfold State.oldestOf
    split
    · next hx =>
      refine ⟨fun c t h => ?_, fun h => ?_⟩
      · obtain ⟨hm, ht, hold⟩ := hsome c t h
        refine ⟨List.mem_cons_of_mem x hm, ht, List.forall_mem_cons.mpr ⟨fun n hn => ?_, hold⟩⟩
        cases hx.symm.trans hn
      · exact List.forall_mem_cons.mpr ⟨hx, hnone h⟩
    · next t hx hrest =>
      refine ⟨?_, nofun⟩
      rintro c t' ⟨⟩
      refine ⟨List.mem_cons_self, hx, List.forall_mem_cons.mpr ⟨fun n hn => ?_, fun d hd n hn => ?_⟩⟩
      · cases hx.symm.trans hn
        exact .inr ⟨rfl, le_refl _⟩
      · cases (hnone hrest d hd).symm.trans hn
    · next t d u hx hrest =>
      obtain ⟨hm, hu, hold⟩ := hsome d u hrest
      refine ⟨fun c t' h => ?_, fun h => ?_⟩
      · split at h
        · next hle =>
          cases h
          refine ⟨List.mem_cons_self, hx, List.forall_mem_cons.mpr ⟨fun n hn => ?_, fun d' hd' n hn => ?_⟩⟩
          · cases hx.symm.trans hn
            exact .inr ⟨rfl, le_refl _⟩
          · have hlt' := hlt d' hd'
            rcases hold d' hd' n hn with h | ⟨h, -⟩
            · exact .inl (by omega)
            · exact (Nat.lt_or_eq_of_le (h ▸ hle)).imp_right fun h => ⟨h, le_of_lt hlt'⟩
        · next hle =>
          cases h
          refine ⟨List.mem_cons_of_mem x hm, hu, List.forall_mem_cons.mpr ⟨fun n hn => ?_, hold⟩⟩
          cases hx.symm.trans hn
          exact .inl (Nat.lt_of_not_le hle)
      · split at h <;> cases h

theorem State.lowestFree_some {s : State} {c : Fin 8} (h : s.lowestFree = some c) :
    (s.ctxs[c]).isFree = true ∧ ∀ d : Fin 8, d < c → (s.ctxs[d]).isFree = false := by
  have hsorted : allContexts.Pairwise (· < ·) := by decide
  obtain ⟨hfree, before, after, hsplit, hbefore⟩ := List.find?_eq_some_iff_append.mp h
  refine ⟨hfree, fun d hd => ?_⟩
  have hm : d ∈ before ++ c :: after := hsplit ▸ mem_allContexts d
  rw [hsplit, List.pairwise_append, List.pairwise_cons] at hsorted
  rcases List.mem_append.mp hm with hm | hm
  · simpa using hbefore d hm
  · rcases List.mem_cons.mp hm with rfl | hm
    · exact absurd hd (lt_irrefl d)
    · exact absurd hd (lt_asymm (hsorted.2.1.1 d hm))

theorem State.lowestFree_none {s : State} (h : s.lowestFree = none) (d : Fin 8) : (s.ctxs[d]).isFree = false := by
  simpa using List.find?_eq_none.mp h d (mem_allContexts d)

/-- R63 case 3: the context to evict is STAGED, and none is older. -/
theorem State.oldestStaged_some {s : State} {c : Fin 8} (h : s.oldestStaged = some c) :
    ∃ (u : Tuning) (since : Nat), (s.ctxs[c]).life = .staged u since ∧
      ∀ (d : Fin 8) (y : Tuning) (n : Nat), (s.ctxs[d]).life = .staged y n → since < n ∨ since = n ∧ c ≤ d := by
  obtain ⟨⟨_, since⟩, hold, rfl⟩ := Option.map_eq_some_iff.mp h
  obtain ⟨-, hsince, hleast⟩ := (s.oldestOf_oldest (by decide)).1 _ _ hold
  obtain ⟨u, hu⟩ := Context.stagedSince_iff.mp hsince
  exact ⟨u, since, hu, fun d y n hy => hleast d (mem_allContexts d) n (Context.stagedSince_iff.mpr ⟨y, hy⟩)⟩

theorem State.oldestStaged_none {s : State} (h : s.oldestStaged = none) (d : Fin 8) : (s.ctxs[d]).stagedSince = none :=
  (s.oldestOf_oldest (by decide)).2 (Option.map_eq_none_iff.mp h) d (mem_allContexts d)

/-- R63: taking a context: the lowest FREE one as it is, or the oldest STAGED one, freed. -/
theorem State.takeContext_taken {s t : State} {c : Fin 8} {m : Means} (h : s.takeContext = some (t, c, m)) :
    contextTaken c m s t ∧ TablesOnly s t ∧ otherContexts c s t := by
  unfold State.takeContext at h
  split at h
  · next hfree =>
    cases h
    obtain ⟨hc, hlowest⟩ := State.lowestFree_some hfree
    exact ⟨.inl ⟨rfl, hc, hlowest, rfl⟩, .refl s, fun _ _ => rfl⟩
  · next hnone =>
    split at h
    · next hold =>
      cases h
      obtain ⟨u, since, hu, holdest⟩ := State.oldestStaged_some hold
      obtain ⟨hkept, hended⟩ := State.freeContext_guide (Context.tuning_of_staged hu)
      refine ⟨.inr ⟨rfl, State.lowestFree_none hnone, u, since, hu, holdest, hkept, hended⟩, s.freeContext_tables c,
        fun d hd => ?_⟩
      rw [State.freeContext_ctxs, State.modCtx_get, if_neg (Ne.symm hd)]
    · cases h

/-- R58, R63: with six outputs, one of eight contexts is FREE or STAGED. -/
theorem PoolOk.exists_inactive {s : State} (h : PoolOk s) : ∃ c : Fin 8, (s.ctxs[c]).isActive = false := by
  obtain ⟨-, hmember, hkept⟩ := h
  by_contra hall
  have hactive (c : Fin 8) : (s.ctxs[c]).isActive = true := by simpa using not_exists.mp hall c
  choose viewer hviewer using fun c : Fin 8 => List.exists_mem_of_ne_nil _ (hkept c (hactive c))
  obtain ⟨c, d, hne, heq⟩ := Fintype.exists_ne_map_eq_of_card_lt viewer (by decide)
  obtain ⟨x, hx, hxc⟩ := hmember c _ (hviewer c)
  obtain ⟨y, hy, hyd⟩ := hmember d _ (hviewer d)
  rw [heq, hy] at hx
  cases hx
  exact hne (hxc.symm.trans hyd)

theorem PoolOk.takeContext_isSome {s : State} (h : PoolOk s) :
    ∃ (t : State) (c : Fin 8) (m : Means), s.takeContext = some (t, c, m) := by
  cases hfree : s.lowestFree with
  | some c => exact ⟨s, c, .allocated, by simp only [State.takeContext, hfree]⟩
  | none =>
    cases hold : s.oldestStaged with
    | some c => exact ⟨s.freeContext c, c, .evicted, by simp only [State.takeContext, hfree, hold]⟩
    | none =>
      obtain ⟨c, hc⟩ := h.exists_inactive
      have hf := State.lowestFree_none hfree c
      have hs := State.oldestStaged_none hold c
      unfold Context.isFree at hf
      unfold Context.stagedSince at hs
      unfold Context.isActive at hc
      cases hl : (s.ctxs[c]).life <;> simp_all

theorem contextTaken.congr {c : Fin 8} {m : Means} {s t u : State} (h : contextTaken c m s t) (hg : u.guide = t.guide) :
    contextTaken c m s u := by
  rw [contextTaken, hg]
  exact h

/-- R63: a context that is taken was not ACTIVE. -/
theorem contextTaken.inactive {c : Fin 8} {m : Means} {s t : State} (h : contextTaken c m s t) :
    (s.ctxs[c]).isActive = false := by
  rcases h with ⟨-, hfree, -⟩ | ⟨-, -, u, since, hu, -⟩
  · exact Context.inactive_of_free ((Context.isFree_iff _).mp hfree)
  · exact Context.inactive_of_staged hu

theorem contextTaken.means {c : Fin 8} {m : Means} {s t : State} (h : contextTaken c m s t) : m ≠ .unchanged := by
  rcases h with ⟨rfl, -⟩ | ⟨rfl, -⟩ <;> decide

/-! ### Obtaining a context (R63, R67) -/

/-- R63, R67: the context of the service and window, changed by `join`; or else a context taken and set up. -/
def State.obtainBy (s : State) (e : MapEntry) (w : Fin 4) (join : Context → Context) (life : Life)
    (ms : List (Fin 6)) : Option (State × Fin 8 × Means) :=
  match s.findContext e.service w.val with
  | some c => some (s.modCtx c join, c, .joined)
  | none => s.takeContext.map (fun r => (r.1.setUp r.2.1 life ms, r.2.1, r.2.2))

/-- R67: a STAGED context is STAGED from now, any other is as it was. -/
def Context.restaged (c : Context) (now : Nat) : Context :=
  match c.life with
  | .staged u _ => { c with life := .staged u now }
  | .active _ | .free => c

theorem State.obtainView_eq (s : State) (o : Fin 6) (e : MapEntry) (w : Fin 4) :
    s.obtainView o e w = s.obtainBy e w (fun x => x.join o) (.active (e.tuning w)) [o] := rfl

theorem State.obtainStage_eq (s : State) (e : MapEntry) (w : Fin 4) :
    s.obtainStage e w = s.obtainBy e w (fun x => x.restaged s.ticks.now) (.staged (e.tuning w) s.ticks.now) [] := rfl

/-- R63, R67: what obtaining a context leaves. -/
structure Obtained (s : State) (e : MapEntry) (w : Fin 4) (join : Context → Context) (life : Life) (ms : List (Fin 6))
    (t : State) (c : Fin 8) (m : Means) : Prop where
  tables : TablesOnly s t
  others : otherContexts c s t
  means : m ≠ .unchanged
  joined : ∀ x : Fin 8, s.findContext e.service w.val = some x →
    c = x ∧ m = .joined ∧ t.guide = s.guide ∧ t.ctxs[c] = join s.ctxs[c]
  taken : s.findContext e.service w.val = none →
    t.ctxs[c] = ⟨life, ms, none, none, none, none⟩ ∧ contextTaken c m s t

theorem State.obtainBy_obtained {s t : State} {e : MapEntry} {w : Fin 4} {join : Context → Context} {life : Life}
    {ms : List (Fin 6)} {c : Fin 8} {m : Means} (h : s.obtainBy e w join life ms = some (t, c, m)) :
    Obtained s e w join life ms t c m := by
  unfold State.obtainBy at h
  split at h
  · next x hx =>
    cases h
    refine ⟨⟨_, _, rfl, rfl⟩, fun d hd => ?_, by decide, fun y hy => ?_, fun hn => ?_⟩
    · rw [State.modCtx_get, if_neg (Ne.symm hd)]
    · cases hx.symm.trans hy
      rw [State.modCtx_get, if_pos rfl]
      exact ⟨rfl, rfl, rfl, rfl⟩
    · cases hx.symm.trans hn
  · next hnone =>
    obtain ⟨⟨u, d, k⟩, hu, hpair⟩ := Option.map_eq_some_iff.mp h
    cases hpair
    obtain ⟨htaken, htables, hothers⟩ := State.takeContext_taken hu
    refine ⟨htables.trans ⟨_, _, rfl, rfl⟩, fun d hd => ?_, htaken.means, fun x hx => ?_, fun _ => ⟨?_, htaken.congr rfl⟩⟩
    · rw [State.setUp, State.modCtx_get, if_neg (Ne.symm hd), hothers d hd]
    · cases hnone.symm.trans hx
    · rw [State.setUp, State.modCtx_get, if_pos rfl]
      rfl

theorem PoolOk.obtainBy_isSome {s : State} (h : PoolOk s) (e : MapEntry) (w : Fin 4) (join : Context → Context)
    (life : Life) (ms : List (Fin 6)) :
    ∃ (t : State) (c : Fin 8) (m : Means), s.obtainBy e w join life ms = some (t, c, m) := by
  unfold State.obtainBy
  split
  · exact ⟨_, _, _, rfl⟩
  · obtain ⟨t, c, m, ht⟩ := h.takeContext_isSome
    exact ⟨_, _, _, by rw [ht]; rfl⟩

end Sys2Proof.Machine
end

section
/-! PROOFS. The key-wait and the staged lifetime (R69, R71, R74, R77), RELEASE records (R68) and TUNE records with purpose
STAGE (R67). -/

namespace Sys2Proof.Machine

/-! ### KEY_WAIT_EXPIRY (R74, R77) -/

theorem State.stall_eq (s : State) (o : Fin 6) (v : Tuned) : s.stall o v =
    s.takenAs o (some { v with phase := .stalled s.ticks.now }) (s.outs[o]).delivery
      [.stalled o.val v.window.val v.service v.context.val (s.ctxs[v.context]).scrambled (s.stallReason o v)] :=
  congrArg (fun t : State => t.notify _) (s.modOut_congr o rfl)

theorem State.stall_frame (s : State) (o : Fin 6) (v : Tuned) : Frame [.own, .outputs, .writer] s (s.stall o v) :=
  (s.modOut_frame o _).trans (State.notify_frame _ _) (by decide) (by decide)

theorem exec_keyWaitExpiry {s : State} {o : Fin 6} {v : Tuned} (hv : (s.outs[o]).tune = some v)
    (hdue : s.keyWaitDue o = true) : exec (.keyWaitExpiry o) s = .next (s.stall o v).settle := by
  have hexec : exec (.keyWaitExpiry o) s = execKeyWaitExpiry o s := rfl
  simp only [hexec, execKeyWaitExpiry, hv, hdue, if_true, done_eq]

/-! ### STAGED_LIFETIME_EXPIRY (R69, R71) -/

theorem exec_stagedLifetimeExpiry {s : State} {c : Fin 8} {u : Tuning} {since : Nat}
    (hu : (s.ctxs[c]).life = .staged u since) (hrun : s.running = true) (hdue : since + 60000 ≤ s.ticks.now) :
    exec (.stagedLifetimeExpiry c) s = .next (s.freeContext c).settle := by
  have hexec : exec (.stagedLifetimeExpiry c) s = execStagedLifetimeExpiry c s := rfl
  have hstaged : s.stagedDue c = true := by
    simp only [State.stagedDue, Context.stagedSince_iff.mpr ⟨u, hu⟩, hrun, stagedLifetime, hdue, decide_true,
      Bool.and_self]
  rw [hexec, execStagedLifetimeExpiry, if_pos hstaged, done_eq]

/-- Settles O29: an output that waited for keys stalls (`State.stall`), and a context STAGED for its lifetime is freed
(`State.freeContext`). -/
theorem keyWaitStallsAndStagedLifetimeFrees : Obligations.KeyWaitStallsAndStagedLifetimeFrees := by
  unfold Obligations.KeyWaitStallsAndStagedLifetimeFrees
  refine ⟨fun s o v hv hdue => ?_, fun s c u since hu hrun hdue => ?_⟩
  · refine ⟨_, exec_keyWaitExpiry hv hdue, ?_, ?_, ?_, (s.stall_frame o v).settle⟩
    · rw [State.settle_outs, State.stall_eq, State.takenAs_same]
    · rw [State.stall_eq]
      exact (s.takenAs_notices o _ _ _).settle
    · intro x hx
      rw [State.settle_outs, State.stall_eq]
      exact s.takenAs_others o _ _ _ x hx
  · obtain ⟨hkept, hended⟩ := State.freeContext_guide (Context.tuning_of_staged hu)
    obtain ⟨es, heq⟩ := s.freeContext_eq c
    refine ⟨_, exec_stagedLifetimeExpiry hu hrun hdue, ?_, fun d hd => ?_, ?_, ?_, ?_, ?_⟩
    · rw [State.settle_ctxs, State.freeContext_ctxs, State.modCtx_get, if_pos rfl]
      rfl
    · rw [State.settle_ctxs, State.freeContext_ctxs, State.modCtx_get, if_neg (Ne.symm hd)]
    · rw [State.settle_loadOrder, heq]
      rfl
    · rwa [State.settle_guide]
    · rwa [State.settle_guide]
    · exact (s.freeContext_tables c).frame.settle

/-! ### Records whose effect stays in the Context Pool -/

/-- R31, R32: a record whose effect left the DRAM port, Intake and the configuration alone is answered. -/
theorem State.finishRecord_answers_from {s u : State} {f : Fetched} (ha : f.attached = true)
    (hport : u.port = s.freePort.port) (hcfg : u.cfg = s.cfg) (hintake : u.intake = s.intake) (k : Kind) (out : Outcome) :
    answersWith f k out s.freePort (u.finishRecord f (u.scrubWrites f.slot k) out).settle := by
  have haddr (n : Fin 256) : u.slotAddr n = s.freePort.slotAddr n := by simp only [State.slotAddr, hcfg]; rfl
  have hscrub : u.scrubWrites f.slot k = s.freePort.scrubWrites f.slot k := by
    simp only [State.scrubWrites, State.slotWrite, haddr]
  have houtcome : u.outcomeWrite f.slot out = s.freePort.outcomeWrite f.slot out := by
    simp only [State.outcomeWrite, State.slotWrite, haddr]
  obtain ⟨hown, hproc⟩ := State.finishRecord_answers (u := u) ha (by rw [hport]; rfl) k out
  rw [hport] at hown
  rw [hintake] at hproc
  exact ⟨by rw [hown, hscrub, houtcome], hproc⟩

theorem State.finishRecord_frame {s u : State} {f : Fetched} (hf : s.fetched = some f) (ha : f.attached = true)
    {as cs : List Area} (h : Frame as s.freePort u) (has : as ⊆ cs) (hcs : [.own, .intake] ⊆ cs) (ws : List OwnReq)
    (out : Outcome) : onlyChanges cs s (u.finishRecord f ws out).settle := by
  obtain ⟨hown, -⟩ := List.cons_subset.mp hcs
  exact (((State.fetched_freePort_frame hf ha).trans h (by simpa using hown) has).trans
    (u.finishRecord_attached_frame ha ws out) (List.Subset.refl cs) hcs).settle

/-! ### RELEASE records (R66, R68) -/

theorem exec_release (s : State) : exec .release s =
    recordStep s .release (fun _ => true) (fun s f => s.release (f.bytes.b1 0)) := rfl

theorem State.release_unknown (s : State) {n : Nat} (h : outputOf n = none) : s.release n = (s, answered .badField) := by
  simp only [State.release, h]

theorem State.release_disabled {s : State} {n : Nat} {o : Fin 6} (h : outputOf n = some o)
    (he : (s.outCfg o).enabled = false) : s.release n = (s, answered .notBound) := by
  simp only [State.release, h, he, Bool.false_eq_true, if_false]

theorem State.release_enabled {s : State} {n : Nat} {o : Fin 6} (h : outputOf n = some o)
    (he : (s.outCfg o).enabled = true) : s.release n = (s.moveToIdle o, accepted 0) := by
  simp only [State.release, h, he, if_true]

theorem State.moveToIdle_idle {s : State} {o : Fin 6} (h : (s.outs[o]).tune = none) : s.moveToIdle o = s := by
  simp only [State.moveToIdle, h]

/-- R68: output `o` leaves context `c` and becomes IDLE. -/
def State.idled (s : State) (o : Fin 6) (c : Fin 8) : State := (s.leaveContext o c).modOut o Output.idle

theorem State.moveToIdle_tuned {s : State} {o : Fin 6} {v : Tuned} (h : (s.outs[o]).tune = some v) :
    s.moveToIdle o = s.idled o v.context := by
  simp only [State.moveToIdle, h]
  rfl

theorem State.idled_frame (s : State) (o : Fin 6) (c : Fin 8) : Frame [.contexts, .outputs] s (s.idled o c) :=
  (s.modCtx_frame c _).trans (State.modOut_frame _ o _) (by decide) (by decide)

theorem State.idled_outs (s : State) (o x : Fin 6) (c : Fin 8) :
    (s.idled o c).outs[x] = if o = x then (s.outs[x]).idle else s.outs[x] := State.modOut_get _ o x _

/-- R66: an output leaves a context, seen in each context. -/
theorem State.leaveContext_get (s : State) (o : Fin 6) (c d : Fin 8) :
    (s.leaveContext o c).ctxs[d] = if c = d then (s.ctxs[d]).leave o s.ticks.now else s.ctxs[d] := s.modCtx_get c d _

theorem State.idled_ctxs (s : State) (o : Fin 6) (c d : Fin 8) :
    (s.idled o c).ctxs[d] = if c = d then (s.ctxs[d]).leave o s.ticks.now else s.ctxs[d] := s.leaveContext_get o c d

/-- R66: what leaves with the output: it is no longer a member, and an ACTIVE context without a member left is STAGED. -/
theorem Context.leave_works (c : Context) (o : Fin 6) (now : Nat) :
    (c.leave o now).members = c.members.filter (· ≠ o) ∧
    (∀ u : Tuning, c.life = .active u → (c.leave o now).life =
      if c.members.all (· = o) then .staged u now else .active u) ∧
    (c.leave o now).even = c.even ∧ (c.leave o now).odd = c.odd ∧ (c.leave o now).parity = c.parity ∧
    (c.leave o now).epoch = c.epoch := by
  have hempty : (withoutMember o c.members).isEmpty = c.members.all (· = o) := by
    rw [Bool.eq_iff_iff]
    simp [withoutMember]
  unfold Context.leave
  dsimp only
  rw [hempty]
  split
  · next u hu =>
    split <;> simp_all [withoutMember]
  all_goals simp_all [withoutMember]

/-- Settles O28, by the cases of R68. -/
theorem releaseMakesOutputIdle : Obligations.ReleaseMakesOutputIdle := by
  unfold Obligations.ReleaseMakesOutputIdle
  intro s f h
  have ⟨hf, ha, _⟩ := h
  rw [exec_release]
  refine ⟨fun ho => ?_, fun o ho he => ?_, fun o ho he hv => ?_, fun o v ho he hv => ?_⟩
  · exact recordStep_turnedAway h rfl (s.freePort.release_unknown ho)
  · exact recordStep_turnedAway h rfl (State.release_disabled (s := s.freePort) ho he)
  · refine recordStep_turnedAway h rfl ((State.release_enabled (s := s.freePort) ho he).trans ?_)
    rw [State.moveToIdle_idle (s := s.freePort) hv]
    rfl
  · have hrelease : s.freePort.release (f.bytes.b1 0) = (s.freePort.idled o v.context, accepted 0) := by
      rw [State.release_enabled (s := s.freePort) ho he, State.moveToIdle_tuned (s := s.freePort) hv]
    have hend := (s.freePort.idled o v.context).finishRecord_end ha
      ((s.freePort.idled o v.context).scrubWrites f.slot .release) (accepted 0)
    have hleft := s.freePort.idled_ctxs o v.context v.context
    obtain ⟨hmembers, hlife, heven, hodd, -, hepoch⟩ := (s.ctxs[v.context]).leave_works o s.ticks.now
    rw [if_pos rfl] at hleft
    have hanswer := State.finishRecord_answers_from (s := s) (u := s.freePort.idled o v.context) ha rfl rfl rfl
      .release (accepted 0)
    refine ⟨_, recordStep_atHand h rfl hrelease, hanswer, ?_, ?_⟩
    · rw [hend.outs, State.idled_outs, if_pos rfl]
      rfl
    · rw [hend.ctxs, hleft]
      refine ⟨hmembers, hlife, heven, hodd, hepoch, fun x hx => ?_, fun d hd => ?_,
        State.finishRecord_frame hf ha (s.freePort.idled_frame o v.context) (by decide) (by decide) _ _⟩
      · rw [hend.outs, State.idled_outs, if_neg (Ne.symm hx)]
        rfl
      · rw [hend.ctxs, State.idled_ctxs, if_neg (Ne.symm hd)]
        rfl

/-! ### TUNE records with purpose STAGE (R61, R67) -/

theorem State.tuneStage_obtained {s t : State} {op : TuneOp} {e : MapEntry} {w : Fin 4} {c : Fin 8} {m : Means}
    (hcheck : s.tuneChecks op = .ok (e, w)) (h : s.obtainStage e w = some (t, c, m)) :
    s.tuneStage op = (t, accepted (tuneDetail c m)) := by
  simp only [State.tuneStage, hcheck, h]

theorem Context.restaged_active {c : Context} {u : Tuning} (h : c.life = .active u) (now : Nat) : c.restaged now = c := by
  simp only [Context.restaged, h]

theorem Context.restaged_staged {c : Context} {u : Tuning} {since : Nat} (h : c.life = .staged u since) (now : Nat) :
    c.restaged now = { c with life := .staged u now } := by
  simp only [Context.restaged, h]

theorem Context.restaged_tuning (c : Context) (now : Nat) : (c.restaged now).tuning = c.tuning := by
  unfold Context.restaged
  split <;> simp_all [Context.tuning]

/-- Settles O27: the context that STAGE obtains (`State.obtainBy_obtained`), case by case. -/
theorem stagePreparesContext : Obligations.StagePreparesContext := by
  unfold Obligations.StagePreparesContext
  intro s f e w hp h hpurpose hcheck
  have ⟨hf, ha, _⟩ := h
  obtain ⟨u, c, m, hu⟩ := PoolOk.obtainBy_isSome (s := s.freePort) hp e w (fun x => x.restaged s.ticks.now)
    (.staged (e.tuning w) s.ticks.now) []
  have hobtained := State.obtainBy_obtained hu
  obtain ⟨g, cs, rfl, -⟩ := hobtained.tables
  have heffect := State.tuneStage_obtained (s := s.freePort) hcheck ((State.obtainStage_eq _ e w).trans hu)
  have hmine : actionIs 2 [1, 2] 1 f.bytes = true := by
    have hb : f.bytes.b1 1 = 2 := hpurpose
    simp [actionIs, hb]
  have hend := State.finishRecord_end { s.freePort with guide := g, ctxs := cs } ha
    (State.scrubWrites { s.freePort with guide := g, ctxs := cs } f.slot .tune) (accepted (tuneDetail c m))
  have hanswer := State.finishRecord_answers_from (s := s) (u := { s.freePort with guide := g, ctxs := cs }) ha rfl rfl
    rfl .tune (accepted (tuneDetail c m))
  refine ⟨_, c, m, recordStep_atHand h hmine heffect, hanswer, fun x hx => ?_, fun hn => ?_, ?_, fun d hd => ?_,
    State.finishRecord_frame hf ha hobtained.tables.frame (by decide) (by decide) _ _⟩
  · obtain ⟨rfl, rfl, hguide, hctx⟩ := hobtained.joined x hx
    rw [hend.guide, hend.ctxs]
    refine ⟨rfl, rfl, hguide, fun v hv => ?_, fun v since hv => ?_⟩
    · exact hctx.trans (Context.restaged_active hv _)
    · exact hctx.trans (Context.restaged_staged hv _)
  · obtain ⟨hctx, htaken⟩ := hobtained.taken hn
    rw [hend.ctxs]
    exact ⟨hctx, htaken.congr hend.guide⟩
  · rw [hend.ctxs]
    cases hx : s.freePort.findContext e.service w.val with
    | some x =>
      obtain ⟨rfl, -, -, hctx⟩ := hobtained.joined x hx
      obtain ⟨v, hv, hservice, hwindow⟩ := State.findContext_some hx
      exact ⟨v, (congrArg Context.tuning hctx).trans ((Context.restaged_tuning _ _).trans hv), hservice, Fin.ext hwindow⟩
    | none =>
      obtain ⟨hctx, -⟩ := hobtained.taken hx
      exact ⟨e.tuning w, congrArg Context.tuning hctx, rfl, rfl⟩
  · rw [hend.ctxs]
    exact hobtained.others d hd

end Sys2Proof.Machine
end

section
/-! PROOFS. TUNE records with purpose VIEW (R61 to R66, R72). -/

namespace Sys2Proof.Machine

/-! ### The context that a VIEW takes, and the one it leaves (R62, R63, R66) -/

/-- R63 case 1: an output that joins makes the context ACTIVE and a member of it, and keeps its halves. -/
theorem Context.join_works {c : Context} {u : Tuning} (h : c.tuning = some u) (o : Fin 6) :
    (c.join o).life = .active u ∧ (∀ y : Fin 6, y ∈ (c.join o).members ↔ y = o ∨ y ∈ c.members) ∧
      (c.join o).even = c.even ∧ (c.join o).odd = c.odd ∧ (c.join o).parity = c.parity ∧
      (c.join o).epoch = c.epoch := by
  have hmem (y : Fin 6) : y ∈ withMember o c.members ↔ y = o ∨ y ∈ c.members := by
    simp [withMember, mem_allOutputs]
  rcases Context.life_of_tuning h with hl | ⟨n, hl⟩ <;> simp [Context.join, hl, hmem]

theorem State.leaveOld_get (s : State) (o : Fin 6) (old : Option Tuned) (d : Fin 8) : (s.leaveOld o old).ctxs[d] =
    if old.map (·.context) = some d then (s.ctxs[d]).leave o s.ticks.now else s.ctxs[d] := by
  cases old with
  | none => rfl
  | some x =>
    simp only [State.leaveOld, State.leaveContext_get, Option.map_some, Option.some.injEq]

theorem State.leaveOld_tables (s : State) (o : Fin 6) (old : Option Tuned) : TablesOnly s (s.leaveOld o old) := by
  cases old with
  | none => exact .refl s
  | some x => exact ⟨_, _, rfl, rfl⟩

theorem State.leaveOld_guide (s : State) (o : Fin 6) (old : Option Tuned) : (s.leaveOld o old).guide = s.guide := by
  cases old <;> rfl

/-- R62, R63: the context that a VIEW obtains is not the one its output leaves. -/
theorem Obtained.ne_old {s t : State} {e : MapEntry} {w : Fin 4} {join : Context → Context} {life : Life}
    {ms : List (Fin 6)} {c : Fin 8} {m : Means} (h : Obtained s e w join life ms t c m) (hp : PoolOk s) {o : Fin 6}
    {x : Tuned} (hx : (s.outs[o]).tune = some x) (hne : x.service ≠ e.service ∨ x.window ≠ w) : x.context ≠ c := by
  obtain ⟨-, u, hu, hservice, hwindow⟩ := hp.1 o x hx
  rintro rfl
  cases hfind : s.findContext e.service w.val with
  | some y =>
    obtain ⟨rfl, -⟩ := h.joined y hfind
    obtain ⟨v, hv, hvs, hvw⟩ := State.findContext_some hfind
    cases hv.symm.trans (Context.tuning_of_active hu)
    rcases hne with hne | hne
    · exact hne (hservice.symm.trans hvs)
    · exact hne (hwindow.symm.trans (Fin.ext hvw))
  | none =>
    obtain ⟨-, htaken⟩ := h.taken hfind
    cases htaken.inactive.symm.trans ((Context.isActive_iff _).mpr ⟨u, hu⟩)

/-! ### The output enters SEEKING (R72) -/

/-- R72: the tune record of an output that enters SEEKING. -/
def State.seekOn (s : State) (o : Fin 6) (svc : Nat) (w : Fin 4) (c : Fin 8) : State :=
  s.modOut o (fun x =>
    { x with
      tune := some ⟨.seeking (s.ticks.now + keyWait), svc, w, c, s.ticks.now⟩
      delivery := Delivery.cleared
      eventUnlock := none
      offer := none })

theorem State.enterSeeking_eq (s : State) (o : Fin 6) (svc : Nat) (w : Fin 4) (c : Fin 8) :
    s.enterSeeking o svc w c = (s.seekOn o svc w c).evaluate .retune false o := rfl

theorem State.enterSeeking_work (s : State) (o : Fin 6) (svc : Nat) (w : Fin 4) (c : Fin 8) :
    GateWork (s.seekOn o svc w c) (s.enterSeeking o svc w c) := State.evaluate_work _ _ _ _

/-- R163, R176: an evaluation makes no unlock. -/
theorem State.evaluate_no_unlock {s : State} {o : Fin 6} (h : (s.outs[o]).eventUnlock = none) (c : GateCause)
    (d : Bool) : ((s.evaluate c d o).outs[o]).eventUnlock = none := by
  have hset (g : Gate) : (((s.clearStaleUnlock o).setGate o g).outs[o]).eventUnlock = none := by
    rw [State.setGate, State.modOut_same]
    unfold State.clearStaleUnlock
    split
    · exact h
    · rw [State.modOut_same]
  unfold State.evaluate
  split
  · rw [State.gateIdle, State.modOut_same]
    exact h
  · rw [(State.handValue_keepsGate _ o o _).2]
    split
    · exact hset _
    · rw [(State.reportGate_keepsGate _ o o c).2]
      exact hset _

/-- R72: an output that enters SEEKING. -/
structure Seeks (s : State) (o : Fin 6) (svc : Nat) (w : Fin 4) (c : Fin 8) (t : State) : Prop where
  tune : (t.outs[o]).tune = some ⟨.seeking (s.ticks.now + 3000), svc, w, c, s.ticks.now⟩
  delivery : (t.outs[o]).delivery = ⟨none, 0, none⟩
  eventUnlock : (t.outs[o]).eventUnlock = none
  periodUnlock : (t.outs[o]).periodUnlock = (s.outs[o]).periodUnlock
  counters : (t.outs[o]).counters = (s.outs[o]).counters
  gate : gateFollows t o
  others : otherOutputs o s t

theorem State.enterSeeking_seeks (s : State) (o : Fin 6) (svc : Nat) (w : Fin 4) (c : Fin 8) :
    Seeks s o svc w c (s.enterSeeking o svc w c) := by
  have hwork := (s.enterSeeking_work o svc w c).outs o
  have hout := State.modOut_same s o (fun x =>
    { x with
      tune := some ⟨.seeking (s.ticks.now + keyWait), svc, w, c, s.ticks.now⟩
      delivery := Delivery.cleared
      eventUnlock := none
      offer := none })
  refine ⟨?_, ?_, ?_, ?_, ?_, State.evaluate_follows _ _ _ o, fun x hx => ?_⟩
  · rw [hwork.tune, State.seekOn, hout]
    rfl
  · rw [hwork.delivery, State.seekOn, hout]
    rfl
  · exact State.evaluate_no_unlock (s := s.seekOn o svc w c) (by rw [State.seekOn, hout]) _ _
  · rw [hwork.periodUnlock, State.seekOn, hout]
  · rw [hwork.counters, State.seekOn, hout]
  · rw [State.enterSeeking_eq, State.evaluate_others _ _ _ (Ne.symm hx), State.seekOn, State.modOut_get,
      if_neg (Ne.symm hx)]

theorem Seeks.of_tables {s u t : State} {o : Fin 6} {svc : Nat} {w : Fin 4} {c : Fin 8} (h : Seeks u o svc w c t)
    (k : TablesOnly s u) : Seeks s o svc w c t := by
  obtain ⟨g, cs, rfl, -⟩ := k
  exact ⟨h.tune, h.delivery, h.eventUnlock, h.periodUnlock, h.counters, h.gate, h.others⟩

theorem TablesOnly.noticed {s t : State} (h : TablesOnly s t) : Noticed s t := by
  obtain ⟨g, cs, rfl, -⟩ := h
  exact .of_port rfl

theorem State.enterSeeking_noticed (s : State) (o : Fin 6) (svc : Nat) (w : Fin 4) (c : Fin 8) :
    Noticed s (s.enterSeeking o svc w c) := ⟨(s.enterSeeking_work o svc w c).port⟩

theorem State.enterSeeking_frame (s : State) (o : Fin 6) (svc : Nat) (w : Fin 4) (c : Fin 8) :
    Frame [.own, .outputs, .writer] s (s.enterSeeking o svc w c) :=
  (s.modOut_frame o _).trans (s.enterSeeking_work o svc w c).toFrame (by decide) (by decide)

/-! ### The record -/

theorem exec_tuneView (s : State) : exec .tuneView s =
    recordStep s .tune (actionIs 1 [1, 2] 1) (fun s f => s.tuneView f.bytes.tuneOp) := rfl

theorem State.tuneView_applies {s : State} {op : TuneOp} {o : Fin 6} {e : MapEntry} {w : Fin 4}
    (hcheck : s.tuneChecks op = .ok (e, w)) (ho : outputOf op.output = some o) :
    s.tuneView op = s.applyView o e w := by
  simp only [State.tuneView, hcheck, ho]

theorem tuneDetail_unchanged (c : Fin 8) : tuneDetail c .unchanged = c.val * 16777216 := by
  simp [tuneDetail, Means.code]

/-- R62: the output is on the service and window already. -/
theorem State.applyView_unchanged {s : State} {o : Fin 6} {e : MapEntry} {w : Fin 4} {v : Tuned}
    (hv : (s.outs[o]).tune = some v) (hs : v.service = e.service) (hw : v.window = w) :
    s.applyView o e w = (s, accepted (tuneDetail v.context .unchanged)) := by
  simp only [State.applyView, State.alreadyOn, hv, hs, hw, and_self, if_true]

theorem State.alreadyOn_eq_none {s : State} {o : Fin 6} {svc : Nat} {w : Fin 4} : s.alreadyOn o svc w = none ↔
    ∀ v : Tuned, (s.outs[o]).tune = some v → v.service ≠ svc ∨ v.window ≠ w := by
  unfold State.alreadyOn
  split
  · next h => exact iff_of_true rfl fun v hv => nomatch h.symm.trans hv
  · next v hv =>
    rw [ite_eq_right_iff]
    constructor
    · intro h x hx
      cases hv.symm.trans hx
      exact not_and_or.mp fun hon => nomatch h hon
    · exact fun h hon => ((h v hv).elim (· hon.1) (· hon.2)).elim

/-- R62, R72: the state after a VIEW that obtained a context of state `u`. -/
def State.viewed (s u : State) (o : Fin 6) (e : MapEntry) (w : Fin 4) (c : Fin 8) : State :=
  (u.leaveOld o (s.outs[o]).tune).enterSeeking o e.service w c

theorem State.applyView_obtained {s u : State} {o : Fin 6} {e : MapEntry} {w : Fin 4} {c : Fin 8} {m : Means}
    (h : ∀ v : Tuned, (s.outs[o]).tune = some v → v.service ≠ e.service ∨ v.window ≠ w)
    (hu : s.obtainView o e w = some (u, c, m)) :
    s.applyView o e w = (s.viewed u o e w c, accepted (tuneDetail c m)) := by
  simp only [State.applyView, State.alreadyOn_eq_none.mpr h, hu]
  rfl

/-- R62 to R66, R72: what a VIEW leaves, up to the record's answer. -/
structure Viewed (s : State) (o : Fin 6) (e : MapEntry) (w : Fin 4) (c : Fin 8) (m : Means) (u t : State) : Prop where
  seeks : Seeks s o e.service w c t
  guide : t.guide = u.guide
  noticed : Noticed s t
  frame : Frame [.own, .guide, .contexts, .outputs, .writer] s t
  obtained : t.ctxs[c] = u.ctxs[c]
  left : ∀ x : Tuned, (s.outs[o]).tune = some x →
    x.context ≠ c ∧ t.ctxs[x.context] = (s.ctxs[x.context]).leave o s.ticks.now
  others : ∀ d : Fin 8, d ≠ c → (∀ x : Tuned, (s.outs[o]).tune = some x → x.context ≠ d) → t.ctxs[d] = s.ctxs[d]

theorem Obtained.viewed {s u : State} {e : MapEntry} {w : Fin 4} {join : Context → Context} {life : Life}
    {ms : List (Fin 6)} {c : Fin 8} {m : Means} (h : Obtained s e w join life ms u c m) (hp : PoolOk s) {o : Fin 6}
    (hne : ∀ v : Tuned, (s.outs[o]).tune = some v → v.service ≠ e.service ∨ v.window ≠ w) :
    Viewed s o e w c m u (s.viewed u o e w c) := by
  have htables := h.tables.trans (u.leaveOld_tables o (s.outs[o]).tune)
  have hwork := (u.leaveOld o (s.outs[o]).tune).enterSeeking_work o e.service w c
  have hnow : u.ticks.now = s.ticks.now := by rw [h.tables.frame.only .time (by decide)]
  have hctx (d : Fin 8) : (s.viewed u o e w c).ctxs[d] =
      if (s.outs[o]).tune.map (·.context) = some d then (u.ctxs[d]).leave o s.ticks.now else u.ctxs[d] := by
    rw [State.viewed, hwork.ctxs, State.seekOn, State.modOut_ctxs, State.leaveOld_get, hnow]
  refine ⟨(State.enterSeeking_seeks _ o e.service w c).of_tables htables, hwork.guide.trans (u.leaveOld_guide o _),
    htables.noticed.trans (State.enterSeeking_noticed _ o e.service w c),
    htables.frame.trans (State.enterSeeking_frame _ o e.service w c) (by decide) (by decide), ?_, fun x hx => ?_,
    fun d hd hold => ?_⟩
  · rw [hctx, if_neg]
    intro hc
    obtain ⟨x, hx, hxc⟩ := Option.map_eq_some_iff.mp hc
    exact h.ne_old hp hx (hne x hx) hxc
  · have hold := h.ne_old hp hx (hne x hx)
    refine ⟨hold, ?_⟩
    rw [hctx, hx, Option.map_some, if_pos rfl, h.others _ hold]
  · rw [hctx, if_neg, h.others d hd]
    intro hc
    obtain ⟨x, hx, hxc⟩ := Option.map_eq_some_iff.mp hc
    exact hold x hx hxc

/-- R63: what a VIEW's context is in the end. -/
theorem Obtained.view_context {s t : State} {o : Fin 6} {e : MapEntry} {w : Fin 4} {c : Fin 8} {m : Means}
    (h : Obtained s e w (fun x => x.join o) (.active (e.tuning w)) [o] t c m) :
    ∃ u : Tuning, (t.ctxs[c]).life = .active u ∧ u.service = e.service ∧ u.window = w ∧ o ∈ (t.ctxs[c]).members ∧
      (∀ x : Fin 8, s.findContext e.service w.val = some x → c = x ∧ m = .joined ∧
        (t.ctxs[c]).even = (s.ctxs[c]).even ∧ (t.ctxs[c]).odd = (s.ctxs[c]).odd ∧
        (t.ctxs[c]).parity = (s.ctxs[c]).parity ∧ (t.ctxs[c]).epoch = (s.ctxs[c]).epoch ∧
        (∀ y : Fin 6, y ∈ (t.ctxs[c]).members ↔ y = o ∨ y ∈ (s.ctxs[c]).members) ∧
        (s.ctxs[c]).tuning = some u ∧ t.guide = s.guide) := by
  cases hfind : s.findContext e.service w.val with
  | some x =>
    obtain ⟨rfl, hm, hguide, hctx⟩ := h.joined x hfind
    obtain ⟨u, hu, hservice, hwindow⟩ := State.findContext_some hfind
    obtain ⟨hlife, hmembers, heven, hodd, hparity, hepoch⟩ := Context.join_works hu o
    rw [hctx]
    refine ⟨u, hlife, hservice, Fin.ext hwindow, (hmembers o).mpr (.inl rfl), ?_⟩
    rintro y ⟨⟩
    exact ⟨rfl, hm, heven, hodd, hparity, hepoch, hmembers, hu, hguide⟩
  | none =>
    obtain ⟨hctx, -⟩ := h.taken hfind
    rw [hctx]
    exact ⟨e.tuning w, rfl, rfl, rfl, List.mem_singleton_self o, nofun⟩

/-- Settles O26: a VIEW for the service and window the output has is answered and no more; any other obtains a context
(`Obtained.view_context`), leaves the old one and seeks (`Obtained.viewed`). -/
theorem viewObtainsContext : Obligations.ViewObtainsContext := by
  unfold Obligations.ViewObtainsContext
  intro s f o e w hp h hpurpose ho hcheck
  have ⟨hf, ha, _⟩ := h
  have hmine : actionIs 1 [1, 2] 1 f.bytes = true := by
    have hb : f.bytes.b1 1 = 1 := hpurpose
    simp [actionIs, hb]
  rw [exec_tuneView]
  refine ⟨fun v hv hs hw => ?_, fun hne => ?_⟩
  · refine recordStep_turnedAway h hmine ((State.tuneView_applies (s := s.freePort) hcheck ho).trans ?_)
    rw [State.applyView_unchanged (s := s.freePort) hv hs hw, tuneDetail_unchanged]
    rfl
  · obtain ⟨u, c, m, hu⟩ := PoolOk.obtainBy_isSome (s := s.freePort) hp e w (fun x => x.join o) (.active (e.tuning w)) [o]
    have hobtained := State.obtainBy_obtained hu
    have hview := Obtained.viewed (s := s.freePort) hobtained hp (o := o) hne
    have heffect := (State.tuneView_applies (s := s.freePort) hcheck ho).trans
      (State.applyView_obtained (s := s.freePort) hne hu)
    obtain ⟨v, hlife, hservice, hwindow, hmember, hjoined⟩ := hobtained.view_context
    have hend := (s.freePort.viewed u o e w c).finishRecord_end ha
      ((s.freePort.viewed u o e w c).scrubWrites f.slot .tune) (accepted (tuneDetail c m))
    have hcfg : (s.freePort.viewed u o e w c).cfg = s.cfg := hview.frame.only .config (by decide)
    have hintake : (s.freePort.viewed u o e w c).intake = s.intake := hview.frame.only .intake (by decide)
    have hanswer := State.finishRecord_after (s := s) ha hview.noticed hcfg hintake .tune (accepted (tuneDetail c m))
    have hseeks := hview.seeks
    refine ⟨_, c, m, v, ⟨.seeking (s.ticks.now + 3000), e.service, w, c, s.ticks.now⟩,
      recordStep_atHand h hmine heffect, hobtained.means, hanswer, ?_⟩
    rw [hend.outs, hend.ctxs, hview.obtained]
    refine ⟨hseeks.tune, rfl, rfl, rfl, rfl, rfl, hseeks.delivery, ?_, hseeks.eventUnlock, hseeks.periodUnlock,
      hseeks.counters, hlife, hservice, hwindow, hmember, fun x hx => ?_, fun hn => ?_, fun x hx => ?_,
      fun d hd hold => ?_, fun x hx => ?_,
      State.finishRecord_frame hf ha hview.frame (by decide) (by decide) _ _⟩
    · have hgate := hend.gateFollows hseeks.gate _ ((congrArg (fun v => (v[o]).tune) hend.outs).trans hseeks.tune)
      rwa [hend.outs] at hgate
    · rw [hend.guide, hview.guide]
      exact hjoined x hx
    · obtain ⟨hctx, htaken⟩ := hobtained.taken hn
      exact ⟨hctx, htaken.congr (hend.guide.trans hview.guide)⟩
    · obtain ⟨hold, hleft⟩ := hview.left x hx
      rw [hleft]
      exact ⟨hold, Context.leave_works _ o _⟩
    · exact hview.others d hd hold
    · rw [hend.outs]
      exact hseeks.others x hx

end Sys2Proof.Machine
end

section
/-! PROOFS. What R58 to R60 speak of: who sits where. Each operation of the Context Pool is one on the seating, and keeps it
sound. -/

namespace Sys2Proof.Machine

/-! ### The seating (R58 to R60) -/

/-- R60: where an output that is not IDLE sits: the service, window and context of its tune record. -/
structure Seat where
  service : Nat
  window : Fin 4
  context : Fin 8

/-- R58: what of a context R59 speaks of: its service and window, whether it is ACTIVE, and its members. -/
structure Booking where
  place : Option (Nat × Fin 4)
  active : Bool
  members : List (Fin 6)

/-- The seats of the outputs and the bookings of the contexts. -/
@[ext]
structure Seating where
  outs : Fin 6 → Option Seat
  ctxs : Fin 8 → Booking

def Tuned.seat (v : Tuned) : Seat := ⟨v.service, v.window, v.context⟩

def Output.seat (x : Output) : Option Seat := x.tune.map Tuned.seat

def Tuning.place (u : Tuning) : Nat × Fin 4 := (u.service, u.window)

def Context.booking (c : Context) : Booking := ⟨c.tuning.map Tuning.place, c.isActive, c.members⟩

/-- All that R58 to R60 read of a state. -/
def State.seating (s : State) : Seating := ⟨fun o => (s.outs[o]).seat, fun c => (s.ctxs[c]).booking⟩

/-- R58 to R60, on the seating. -/
structure Seating.Sound (b : Seating) : Prop where
  seated : ∀ (o : Fin 6) (x : Seat), b.outs o = some x → o ∈ (b.ctxs x.context).members ∧
    (b.ctxs x.context).active = true ∧ (b.ctxs x.context).place = some (x.service, x.window)
  member : ∀ (c : Fin 8) (o : Fin 6), o ∈ (b.ctxs c).members → ∃ x : Seat, b.outs o = some x ∧ x.context = c
  kept : ∀ c : Fin 8, (b.ctxs c).active = true → (b.ctxs c).members ≠ []
  apart : ∀ (c d : Fin 8) (p : Nat × Fin 4), (b.ctxs c).place = some p → (b.ctxs d).place = some p → c = d

/-- R58 to R60 are a statement about the seating. -/
theorem seating_sound_iff (s : State) : s.seating.Sound ↔ PoolOk s ∧ PlacesUnique s := by
  constructor
  · rintro ⟨hseated, hmember, hkept, hapart⟩
    refine ⟨⟨fun o v hv => ?_, fun c o ho => ?_, hkept⟩, fun c d u v hu hv hs hw => ?_⟩
    · obtain ⟨hm, hactive, hplace⟩ := hseated o v.seat (congrArg (Option.map Tuned.seat) hv)
      obtain ⟨u, hu⟩ := (Context.isActive_iff _).mp hactive
      have hplace : some u.place = some (v.service, v.window) :=
        (congrArg (Option.map Tuning.place) (Context.tuning_of_active hu)).symm.trans hplace
      obtain ⟨hs, hw⟩ := Prod.mk.inj (Option.some.inj hplace)
      exact ⟨hm, u, hu, hs, hw⟩
    · obtain ⟨x, hx, hc⟩ := hmember c o ho
      obtain ⟨v, hv, rfl⟩ := Option.map_eq_some_iff.mp hx
      exact ⟨v, hv, hc⟩
    · refine hapart c d u.place (congrArg (Option.map Tuning.place) hu) ?_
      rw [Tuning.place, hs, hw]
      exact congrArg (Option.map Tuning.place) hv
  · rintro ⟨⟨htuned, hmember, hkept⟩, hunique⟩
    refine ⟨fun o x hx => ?_, fun c o ho => ?_, hkept, fun c d p hc hd => ?_⟩
    · obtain ⟨v, hv, rfl⟩ := Option.map_eq_some_iff.mp hx
      obtain ⟨hm, u, hu, hs, hw⟩ := htuned o v hv
      refine ⟨hm, (Context.isActive_iff _).mpr ⟨u, hu⟩, ?_⟩
      refine (congrArg (Option.map Tuning.place) (Context.tuning_of_active hu)).trans ?_
      simp [Tuning.place, hs, hw, Tuned.seat]
    · obtain ⟨v, hv, hc⟩ := hmember c o ho
      exact ⟨v.seat, congrArg (Option.map Tuned.seat) hv, hc⟩
    · obtain ⟨u, hu, hp⟩ := Option.map_eq_some_iff.mp hc
      obtain ⟨v, hv, rfl⟩ := Option.map_eq_some_iff.mp hd
      exact hunique c d u v hu hv (congrArg Prod.fst hp) (congrArg Prod.snd hp)

/-! ### Operations on the seating -/

/-- The booking of a context is replaced. -/
def Seating.book (b : Seating) (c : Fin 8) (k : Booking) : Seating := { b with ctxs := Function.update b.ctxs c k }

/-- The seat of an output is replaced. -/
def Seating.assign (b : Seating) (o : Fin 6) (x : Option Seat) : Seating := { b with outs := Function.update b.outs o x }

/-- R66: an output leaves; without a member left the context is ACTIVE no more. -/
def Booking.without (k : Booking) (o : Fin 6) : Booking :=
  { k with active := k.active && !(withoutMember o k.members).isEmpty, members := withoutMember o k.members }

/-- R66, R68: an output leaves its context and becomes IDLE. -/
def Seating.vacate (b : Seating) (o : Fin 6) : Seating :=
  match b.outs o with
  | none => b
  | some x => (b.book x.context ((b.ctxs x.context).without o)).assign o none

/-- R63, R72: an output takes its seat with the members of its context. -/
def Seating.sit (b : Seating) (o : Fin 6) (x : Seat) : Seating :=
  (b.book x.context ⟨some (x.service, x.window), true, withMember o (b.ctxs x.context).members⟩).assign o (some x)

/-- R63, R67, R71: a context without members is set up for a service and window, or made FREE. -/
def Seating.prepare (b : Seating) (c : Fin 8) (p : Option (Nat × Fin 4)) : Seating := b.book c ⟨p, false, []⟩

theorem Seating.book_self (b : Seating) (c : Fin 8) : b.book c (b.ctxs c) = b := by
  simp [Seating.book]

theorem Seating.assign_self (b : Seating) (o : Fin 6) : b.assign o (b.outs o) = b := by
  simp [Seating.assign]

theorem Seating.vacate_outs (b : Seating) (o y : Fin 6) : (b.vacate o).outs y = if y = o then none else b.outs y := by
  unfold Seating.vacate
  split
  · next h =>
    split
    · next e => rw [e, h]
    · rfl
  · simp [Seating.book, Seating.assign, Function.update_apply]

theorem Seating.vacate_ctxs (b : Seating) (o : Fin 6) (c : Fin 8) : (b.vacate o).ctxs c =
    if (b.outs o).map Seat.context = some c then (b.ctxs c).without o else b.ctxs c := by
  unfold Seating.vacate
  split
  · next h => simp [h]
  · next x h =>
    by_cases e : c = x.context
    · simp [Seating.book, Seating.assign, h, e]
    · simp [Seating.book, Seating.assign, h, e, Ne.symm e]

theorem Seating.sit_outs (b : Seating) (o y : Fin 6) (x : Seat) :
    (b.sit o x).outs y = if y = o then some x else b.outs y := by
  simp [Seating.sit, Seating.book, Seating.assign, Function.update_apply]

theorem Seating.sit_ctxs (b : Seating) (o : Fin 6) (x : Seat) (c : Fin 8) : (b.sit o x).ctxs c =
    if c = x.context then ⟨some (x.service, x.window), true, withMember o (b.ctxs c).members⟩ else b.ctxs c := by
  by_cases e : c = x.context
  · simp [Seating.sit, Seating.book, Seating.assign, e]
  · simp [Seating.sit, Seating.book, Seating.assign, e]

theorem Seating.prepare_ctxs (b : Seating) (c d : Fin 8) (p : Option (Nat × Fin 4)) :
    (b.prepare c p).ctxs d = if d = c then ⟨p, false, []⟩ else b.ctxs d := by
  simp [Seating.prepare, Seating.book, Function.update_apply]

theorem mem_withoutMember {o x : Fin 6} {ms : List (Fin 6)} : x ∈ withoutMember o ms ↔ x ∈ ms ∧ x ≠ o := by
  simp [withoutMember]

theorem mem_withMember {o x : Fin 6} {ms : List (Fin 6)} : x ∈ withMember o ms ↔ x = o ∨ x ∈ ms := by
  simp [withMember, mem_allOutputs]

/-- R59: a context that is not ACTIVE has no members. -/
theorem Seating.Sound.no_members {b : Seating} (h : b.Sound) {c : Fin 8} (hc : (b.ctxs c).active = false) :
    (b.ctxs c).members = [] := by
  refine List.eq_nil_iff_forall_not_mem.mpr fun o ho => ?_
  obtain ⟨x, hx, rfl⟩ := h.member c o ho
  obtain ⟨-, hactive, -⟩ := h.seated o x hx
  cases hc.symm.trans hactive

/-- R66: leaving keeps the service and window of a context. -/
theorem Seating.vacate_place (b : Seating) (o : Fin 6) (c : Fin 8) :
    ((b.vacate o).ctxs c).place = (b.ctxs c).place := by
  rw [Seating.vacate_ctxs]
  split <;> rfl

/-- R66: the other members stay. -/
theorem Seating.Sound.mem_vacate {b : Seating} (h : b.Sound) {o y : Fin 6} {c : Fin 8} :
    y ∈ ((b.vacate o).ctxs c).members ↔ y ∈ (b.ctxs c).members ∧ y ≠ o := by
  rw [Seating.vacate_ctxs]
  split
  · exact mem_withoutMember
  · next hne =>
    refine ⟨fun hy => ⟨hy, ?_⟩, And.left⟩
    rintro rfl
    obtain ⟨x, hx, rfl⟩ := h.member c y hy
    exact hne (by rw [hx]; rfl)

/-- R66: a context with a member left is ACTIVE as before. -/
theorem Seating.vacate_active (b : Seating) (o : Fin 6) (c : Fin 8) (hc : ((b.vacate o).ctxs c).members ≠ []) :
    ((b.vacate o).ctxs c).active = (b.ctxs c).active := by
  rw [Seating.vacate_ctxs] at hc ⊢
  split
  · next e =>
    rw [if_pos e] at hc
    have hc : withoutMember o (b.ctxs c).members ≠ [] := hc
    simp [Booking.without, hc]
  · rfl

/-- R66, R68: an output that leaves its context and becomes IDLE. -/
theorem Seating.Sound.vacate {b : Seating} (h : b.Sound) (o : Fin 6) : (b.vacate o).Sound := by
  refine ⟨fun y z hz => ?_, fun c y hy => ?_, fun c hc => ?_, fun c d p hc hd => ?_⟩
  · rw [Seating.vacate_outs] at hz
    split at hz
    · cases hz
    · next hne =>
      obtain ⟨hm, hactive, hp⟩ := h.seated y z hz
      have hstays := h.mem_vacate.mpr ⟨hm, hne⟩
      exact ⟨hstays, (b.vacate_active o _ (List.ne_nil_of_mem hstays)).trans hactive, (b.vacate_place o _).trans hp⟩
  · obtain ⟨hm, hne⟩ := h.mem_vacate.mp hy
    rw [Seating.vacate_outs, if_neg hne]
    exact h.member c y hm
  · rw [Seating.vacate_ctxs] at hc ⊢
    split at hc
    · next e =>
      rw [if_pos e]
      simp only [Booking.without, Bool.and_eq_true, Bool.not_eq_true', List.isEmpty_eq_false_iff] at hc
      exact hc.2
    · next e =>
      rw [if_neg e]
      exact h.kept c hc
  · rw [Seating.vacate_place] at hc hd
    exact h.apart c d p hc hd

/-- R63, R72: an IDLE output that takes a seat in the one context of its service and window, which no other service and
window has members in. -/
theorem Seating.Sound.sit {b : Seating} (h : b.Sound) {o : Fin 6} {x : Seat} (ho : b.outs o = none)
    (hown : (b.ctxs x.context).active = true → (b.ctxs x.context).place = some (x.service, x.window))
    (honly : ∀ d : Fin 8, (b.ctxs d).place = some (x.service, x.window) → d = x.context) : (b.sit o x).Sound := by
  have hself : (b.sit o x).outs o = some x := by rw [Seating.sit_outs, if_pos rfl]
  have hne {c : Fin 8} {y : Fin 6} (hm : y ∈ (b.ctxs c).members) : y ≠ o := by
    rintro rfl
    obtain ⟨z, hz, -⟩ := h.member c y hm
    cases ho.symm.trans hz
  have hold {c : Fin 8} {y : Fin 6} (hm : y ∈ (b.ctxs c).members) : ∃ z : Seat, (b.sit o x).outs y = some z ∧
      z.context = c := by
    rw [Seating.sit_outs, if_neg (hne hm)]
    exact h.member c y hm
  have hplace {c : Fin 8} {p : Nat × Fin 4} (hc : ((b.sit o x).ctxs c).place = some p) :
      c = x.context ∧ p = (x.service, x.window) ∨
        (b.ctxs c).place = some p ∧ (p = (x.service, x.window) → c = x.context) := by
    rw [Seating.sit_ctxs] at hc
    split at hc
    · next e => exact .inl ⟨e, (Option.some.inj hc).symm⟩
    · exact .inr ⟨hc, fun hp => honly c (hp ▸ hc)⟩
  refine ⟨fun y z hz => ?_, fun c y hy => ?_, fun c hc => ?_, fun c d p hc hd => ?_⟩
  · by_cases e : y = o
    · subst e
      cases hself.symm.trans hz
      rw [Seating.sit_ctxs, if_pos rfl]
      exact ⟨mem_withMember.mpr (.inl rfl), rfl, rfl⟩
    · rw [Seating.sit_outs, if_neg e] at hz
      obtain ⟨hm, hactive, hp⟩ := h.seated y z hz
      rw [Seating.sit_ctxs]
      split
      · next ec =>
        rw [ec] at hactive hp
        exact ⟨mem_withMember.mpr (.inr hm), rfl, (hown hactive).symm.trans hp⟩
      · exact ⟨hm, hactive, hp⟩
  · rw [Seating.sit_ctxs] at hy
    split at hy
    · next ec =>
      rcases mem_withMember.mp hy with rfl | hm
      · exact ⟨x, hself, ec.symm⟩
      · exact hold hm
    · exact hold hy
  · rw [Seating.sit_ctxs] at hc ⊢
    split
    · exact List.ne_nil_of_mem (mem_withMember.mpr (.inl rfl) : o ∈ _)
    · next ec =>
      rw [if_neg ec] at hc
      exact h.kept c hc
  · rcases hplace hc with ⟨rfl, rfl⟩ | ⟨hc', himp⟩
    · rcases hplace hd with ⟨rfl, -⟩ | ⟨-, himp⟩
      · rfl
      · exact (himp rfl).symm
    · rcases hplace hd with ⟨rfl, rfl⟩ | ⟨hd', -⟩
      · exact himp rfl
      · exact h.apart c d p hc' hd'

/-- R63, R67, R71: a context that is not ACTIVE becomes FREE, or STAGED as the one context of a service and window. -/
theorem Seating.Sound.prepare {b : Seating} (h : b.Sound) {c : Fin 8} (hc : (b.ctxs c).active = false)
    {p : Option (Nat × Fin 4)} (honly : ∀ (d : Fin 8) (q : Nat × Fin 4), p = some q → (b.ctxs d).place = some q → d = c) :
    (b.prepare c p).Sound := by
  have hplace {d : Fin 8} {q : Nat × Fin 4} (hd : ((b.prepare c p).ctxs d).place = some q) :
      d = c ∧ p = some q ∨ (b.ctxs d).place = some q := by
    rw [Seating.prepare_ctxs] at hd
    split at hd
    · next e => exact .inl ⟨e, hd⟩
    · exact .inr hd
  refine ⟨fun y z hz => ?_, fun d y hy => ?_, fun d hd => ?_, fun d e q hd he => ?_⟩
  · obtain ⟨hm, hactive, hp⟩ := h.seated y z hz
    rw [Seating.prepare_ctxs, if_neg]
    · exact ⟨hm, hactive, hp⟩
    · intro e
      rw [e] at hactive
      cases hc.symm.trans hactive
  · rw [Seating.prepare_ctxs] at hy
    split at hy
    · cases hy
    · exact h.member d y hy
  · rw [Seating.prepare_ctxs] at hd ⊢
    split at hd
    · cases hd
    · next e =>
      rw [if_neg e]
      exact h.kept d hd
  · rcases hplace hd with ⟨rfl, hp⟩ | hd'
    · rcases hplace he with ⟨rfl, -⟩ | he'
      · rfl
      · exact (honly e q hp he').symm
    · rcases hplace he with ⟨rfl, hp⟩ | he'
      · exact honly d q hp hd'
      · exact h.apart d e q hd' he'

end Sys2Proof.Machine
end

section
/-! PROOFS. What the operations of the model make of the seating (R58 to R60): the shared operations leave it alone, those of
the Context Pool are the operations on it. -/

namespace Sys2Proof.Machine

/-! ### Updates and shared operations -/

/-- An operation that changes neither outputs nor contexts. -/
theorem State.seating_congr {s t : State} (ho : t.outs = s.outs) (hc : t.ctxs = s.ctxs) : t.seating = s.seating := by
  simp only [State.seating, ho, hc]

/-- An operation that leaves the seat of each output and the booking of each context. -/
theorem State.seating_eq {s t : State} (ho : ∀ o : Fin 6, (t.outs[o]).seat = (s.outs[o]).seat)
    (hc : ∀ c : Fin 8, (t.ctxs[c]).booking = (s.ctxs[c]).booking) : t.seating = s.seating :=
  Seating.ext (funext ho) (funext hc)

theorem Frame.seating {as : List Area} {s t : State} (h : Frame as s t) (ho : Area.outputs ∉ as)
    (hc : Area.contexts ∉ as) : t.seating = s.seating :=
  State.seating_congr (h.only .outputs ho) (h.only .contexts hc).1

/-- R59: the booking of a context does not depend on its halves. -/
theorem Context.booking_congr {x y : Context} (hl : y.life = x.life) (hm : y.members = x.members) :
    y.booking = x.booking := by
  simp only [Context.booking, Context.tuning, Context.isActive, hl, hm]

theorem TickWork.seating {s t : State} (h : TickWork s t) : t.seating = s.seating :=
  State.seating_eq (fun o => congrArg (Option.map Tuned.seat) (h.outs o).tune)
    fun c => Context.booking_congr (h.ctxs c).life (h.ctxs c).members

theorem GateWork.seating {s t : State} (h : GateWork s t) : t.seating = s.seating := h.tick.seating

theorem VerdictWork.seating {s t : State} (h : VerdictWork s t) : t.seating = s.seating := h.tick.seating

/-- An operation done for each of a list leaves the seating alone if each one does. -/
theorem State.foldl_seating {α : Type} {f : State → α → State} (h : ∀ s a, (f s a).seating = s.seating) (l : List α)
    (s : State) : (l.foldl f s).seating = s.seating := by
  induction l generalizing s with
  | nil => rfl
  | cons a l ih => exact (ih (f s a)).trans (h s a)

section SeatingOfUpdates

variable (s : State)

theorem State.modOut_seating (o : Fin 6) (f : Output → Output) :
    (s.modOut o f).seating = s.seating.assign o (f s.outs[o]).seat := by
  refine Seating.ext (funext fun x => ?_) rfl
  simp only [State.seating, Seating.assign, Function.update_apply, State.modOut_get]
  by_cases e : o = x
  · simp [e]
  · simp [e, Ne.symm e]

theorem State.modCtx_seating (c : Fin 8) (f : Context → Context) :
    (s.modCtx c f).seating = s.seating.book c (f s.ctxs[c]).booking := by
  refine Seating.ext rfl (funext fun d => ?_)
  simp only [State.seating, Seating.book, Function.update_apply, State.modCtx_get]
  by_cases e : c = d
  · simp [e]
  · simp [e, Ne.symm e]

variable {s} in
/-- A change of an output that leaves its seat. -/
theorem State.modOut_seating_same {o : Fin 6} {f : Output → Output} (h : (f s.outs[o]).seat = (s.outs[o]).seat) :
    (s.modOut o f).seating = s.seating := by
  rw [State.modOut_seating, h]
  exact s.seating.assign_self o

variable {s} in
/-- A change of a context that leaves its booking. -/
theorem State.modCtx_seating_same {c : Fin 8} {f : Context → Context}
    (h : (f s.ctxs[c]).booking = (s.ctxs[c]).booking) : (s.modCtx c f).seating = s.seating := by
  rw [State.modCtx_seating, h]
  exact s.seating.book_self c

@[simp] theorem State.modProfile_seating (q : Fin 6) (f : Profile → Profile) :
    (s.modProfile q f).seating = s.seating := rfl
@[simp] theorem State.modRing_seating (k : Fin 4) (f : Ring → Ring) : (s.modRing k f).seating = s.seating := rfl
@[simp] theorem State.modPurse_seating (f : Purse → Purse) : (s.modPurse f).seating = s.seating := rfl
@[simp] theorem State.modGuide_seating (f : Guide → Guide) : (s.modGuide f).seating = s.seating := rfl
@[simp] theorem State.modGuideCounters_seating (f : GuideCounters → GuideCounters) :
    (s.modGuideCounters f).seating = s.seating := rfl
@[simp] theorem State.modWriter_seating (f : Writer → Writer) : (s.modWriter f).seating = s.seating := rfl
@[simp] theorem State.modRights_seating (f : Rights → Rights) : (s.modRights f).seating = s.seating := rfl
@[simp] theorem State.markChange_seating : s.markChange.seating = s.seating := rfl
@[simp] theorem State.markMetering_seating : s.markMetering.seating = s.seating := rfl
@[simp] theorem State.dramWrite_seating (a : Nat) (bs : List Byte) : (s.dramWrite a bs).seating = s.seating := rfl
@[simp] theorem State.present_seating (u : UpReq) : (s.present u).seating = s.seating := rfl
@[simp] theorem State.freePort_seating : s.freePort.seating = s.seating := rfl

@[simp] theorem State.setHalf_seating (l : HalfPlace) (h : Option Half) : (s.setHalf l h).seating = s.seating :=
  State.modCtx_seating_same (by cases l.2 <;> rfl)

@[simp] theorem State.count_seating (o : Fin 6) (f : OutputCounters → OutputCounters) :
    (s.count o f).seating = s.seating := by
  unfold State.count
  split
  · exact State.modOut_seating_same rfl
  · rfl

@[simp] theorem State.answer_seating (u : UpReq) (d : List Byte) : (s.answer u d).seating = s.seating :=
  (s.answer_frame u d).seating (by decide) (by decide)

@[simp] theorem State.completeWrite_seating (u : UpReq) : (s.completeWrite u).seating = s.seating := by
  simp [State.completeWrite]

@[simp] theorem State.completeOwn_seating (r : OwnReq) : (s.completeOwn r).seating = s.seating := rfl

@[simp] theorem State.notify_seating (n : Notice) : (s.notify n).seating = s.seating := (s.notify_work n).seating

@[simp] theorem State.settle_seating : s.settle.seating = s.seating :=
  State.seating_congr s.settle_outs s.settle_ctxs

@[simp] theorem State.evaluate_seating (c : GateCause) (d : Bool) (o : Fin 6) :
    (s.evaluate c d o).seating = s.seating := (s.evaluate_work c d o).seating

@[simp] theorem State.evaluateAll_seating (c : GateCause) (d : Bool) (os : List (Fin 6)) :
    (s.evaluateAll c d os).seating = s.seating := (s.evaluateAll_work c d os).seating

@[simp] theorem State.evaluateTuned_seating (c : GateCause) (o : Fin 6) : (s.evaluateTuned c o).seating = s.seating :=
  (s.evaluateTuned_work c o).seating

@[simp] theorem State.evaluateChanged_seating (before : State) (d : Bool) (pick : Fin 8 → Bool) :
    (s.evaluateChanged before d pick).seating = s.seating := (s.evaluateChanged_work before d pick).seating

@[simp] theorem State.evaluateIfGoverningChanged_seating (m : Option (HalfParity × Nat)) (c : Fin 8) :
    (s.evaluateIfGoverningChanged m c).seating = s.seating := (s.evaluateIfGoverningChanged_work m c).seating

@[simp] theorem State.recompute_seating (ls : List HalfPlace) : (s.recompute ls).seating = s.seating :=
  (s.recompute_work ls).seating

@[simp] theorem State.recomputeAndEvaluate_seating (d : Bool) : (s.recomputeAndEvaluate d).seating = s.seating := by
  simp [State.recomputeAndEvaluate]

@[simp] theorem State.select_seating : s.select.seating = s.seating :=
  s.select_frame.seating (by decide) (by decide)

end SeatingOfUpdates

/-! ### Contexts freed and outputs that leave (R66, R68, R69, R71) -/

/-- R66: a context that an output leaves keeps its service and window, and is ACTIVE only with a member left. -/
theorem Context.leave_booking (c : Context) (o : Fin 6) (now : Nat) : (c.leave o now).booking = c.booking.without o := by
  cases hl : c.life <;> simp only [Context.leave, hl, Context.booking, Booking.without, Context.tuning, Context.isActive,
    Bool.false_and, Bool.true_and]
  cases (withoutMember o c.members).isEmpty <;> rfl

theorem State.moveToIdle_seating (s : State) (o : Fin 6) : (s.moveToIdle o).seating = s.seating.vacate o := by
  cases hv : (s.outs[o]).tune with
  | none =>
    have hnone : s.seating.outs o = none := congrArg (Option.map Tuned.seat) hv
    rw [State.moveToIdle_idle hv, Seating.vacate, hnone]
  | some v =>
    have hseat : s.seating.outs o = some v.seat := congrArg (Option.map Tuned.seat) hv
    rw [State.moveToIdle_tuned hv, State.idled, State.modOut_seating, State.leaveContext, State.modCtx_seating,
      Context.leave_booking, Seating.vacate, hseat]
    rfl

theorem State.freeContext_seating (s : State) (c : Fin 8) : (s.freeContext c).seating = s.seating.prepare c none := by
  obtain ⟨es, heq⟩ := s.freeContext_eq c
  rw [heq]
  exact s.modCtx_seating c (fun _ => Context.free)

/-- R69: a context whose staged lifetime has run out is STAGED. -/
theorem State.stagedDue_inactive {s : State} {c : Fin 8} (h : s.stagedDue c = true) : (s.ctxs[c]).isActive = false := by
  unfold State.stagedDue at h
  split at h
  · cases h
  · next n hn =>
    obtain ⟨u, hu⟩ := Context.stagedSince_iff.mp hn
    exact Context.inactive_of_staged hu

theorem State.freeContext_sound {s : State} (h : s.seating.Sound) {c : Fin 8} (hc : (s.ctxs[c]).isActive = false) :
    (s.freeContext c).seating.Sound := by
  rw [State.freeContext_seating]
  exact h.prepare hc nofun

/-! ### Contexts obtained (R63, R67, R72) -/

theorem Context.join_booking {c : Context} {u : Tuning} (h : c.tuning = some u) (o : Fin 6) :
    (c.join o).booking = ⟨some u.place, true, withMember o c.members⟩ := by
  rcases Context.life_of_tuning h with hl | ⟨n, hl⟩ <;>
    simp [Context.booking, Context.join, hl, Context.tuning, Context.isActive]

theorem Context.restaged_booking (c : Context) (now : Nat) : (c.restaged now).booking = c.booking := by
  unfold Context.restaged
  split
  · next u n hl => simp [Context.booking, Context.tuning, Context.isActive, hl]
  all_goals rfl

/-- R59: with none found, no context is of the service and window. -/
theorem State.findContext_none_place {s : State} {svc : Nat} {w : Fin 4} (h : s.findContext svc w.val = none)
    (d : Fin 8) : (s.seating.ctxs d).place ≠ some (svc, w) := by
  intro hp
  obtain ⟨u, hu, hplace⟩ := Option.map_eq_some_iff.mp hp
  obtain ⟨hs, hw⟩ := Prod.mk.inj hplace
  exact State.findContext_none h hu hs (congrArg Fin.val hw)

theorem State.findContext_some_place {s : State} {svc : Nat} {w : Fin 4} {c : Fin 8}
    (h : s.findContext svc w.val = some c) : (s.seating.ctxs c).place = some (svc, w) := by
  obtain ⟨u, hu, hs, hw⟩ := State.findContext_some h
  have hplace : (s.seating.ctxs c).place = some u.place := congrArg (Option.map Tuning.place) hu
  rw [hplace, Tuning.place, hs, Fin.ext hw]

theorem TablesOnly.outs {s t : State} (h : TablesOnly s t) : t.outs = s.outs := h.frame.only .outputs (by decide)

/-- R67: a STAGE leaves the seating alone, or prepares a context for its service and window. -/
theorem State.obtainStage_sound {s t : State} (h : s.seating.Sound) {e : MapEntry} {w : Fin 4} {c : Fin 8} {m : Means}
    (ht : s.obtainStage e w = some (t, c, m)) : t.seating.Sound := by
  have hobtained := State.obtainBy_obtained ((s.obtainStage_eq e w).symm.trans ht)
  have hother (d : Fin 8) (hd : d ≠ c) : (t.ctxs[d]).booking = (s.ctxs[d]).booking :=
    congrArg Context.booking (hobtained.others d hd)
  cases hfind : s.findContext e.service w.val with
  | some x =>
    obtain ⟨rfl, -, -, hctx⟩ := hobtained.joined x hfind
    have hsame : t.seating = s.seating := by
      refine State.seating_eq (fun o => by rw [hobtained.tables.outs]) fun d => ?_
      by_cases hd : d = c
      · subst hd
        rw [hctx, Context.restaged_booking]
      · exact hother d hd
    exact hsame ▸ h
  | none =>
    obtain ⟨hctx, htaken⟩ := hobtained.taken hfind
    have hprepared : t.seating = s.seating.prepare c (some (e.service, w)) := by
      refine Seating.ext (congrArg (fun v : Vector Output 6 => fun o : Fin 6 => (v[o]).seat) hobtained.tables.outs)
        (funext fun d => ?_)
      rw [Seating.prepare_ctxs]
      split
      · next hd =>
        subst hd
        exact congrArg Context.booking hctx
      · next hd => exact hother d hd
    rw [hprepared]
    refine h.prepare htaken.inactive ?_
    rintro d q ⟨⟩ hq
    exact absurd hq (State.findContext_none_place hfind d)

/-- R63: what the context of a VIEW books. -/
theorem Obtained.booking {s t : State} {o : Fin 6} {e : MapEntry} {w : Fin 4} {c : Fin 8} {m : Means}
    (h : Obtained s e w (fun x => x.join o) (.active (e.tuning w)) [o] t c m) (hs : s.seating.Sound) :
    (t.ctxs[c]).booking = ⟨some (e.service, w), true, withMember o (s.ctxs[c]).members⟩ := by
  cases hfind : s.findContext e.service w.val with
  | some x =>
    obtain ⟨rfl, -, -, hctx⟩ := h.joined x hfind
    obtain ⟨u, hu, hservice, hwindow⟩ := State.findContext_some hfind
    rw [hctx, Context.join_booking hu, Tuning.place, hservice, Fin.ext hwindow]
  | none =>
    obtain ⟨hctx, htaken⟩ := h.taken hfind
    have hnone : (s.ctxs[c]).members = [] := hs.no_members htaken.inactive
    have hself : withMember o [] = [o] := by fin_cases o <;> rfl
    rw [hctx, hnone, hself]
    rfl

/-- R62 to R66, R72: a VIEW makes the output leave its seat and take another. -/
theorem Viewed.seating {s u t : State} {o : Fin 6} {e : MapEntry} {w : Fin 4} {c : Fin 8} {m : Means}
    (h : Viewed s o e w c m u t) (hob : Obtained s e w (fun x => x.join o) (.active (e.tuning w)) [o] u c m)
    (hs : s.seating.Sound) : t.seating = (s.seating.vacate o).sit o ⟨e.service, w, c⟩ := by
  have hleaves (d : Fin 8) : (s.seating.outs o).map Seat.context = some d ↔
      ∃ x : Tuned, (s.outs[o]).tune = some x ∧ x.context = d := by
    simp only [State.seating, Output.seat, Option.map_map, Option.map_eq_some_iff]
    rfl
  refine Seating.ext (funext fun x => ?_) (funext fun d => ?_)
  · rw [Seating.sit_outs, Seating.vacate_outs]
    split
    · next hx =>
      subst hx
      exact congrArg (Option.map Tuned.seat) h.seeks.tune
    · next hx => exact congrArg Output.seat (h.seeks.others x hx)
  · rw [Seating.sit_ctxs, Seating.vacate_ctxs]
    split
    · next hd =>
      subst hd
      rw [if_neg]
      · exact (congrArg Context.booking h.obtained).trans (hob.booking hs)
      · rw [hleaves]
        rintro ⟨x, hx, hxc⟩
        exact (h.left x hx).1 hxc
    · next hd =>
      split
      · next hold =>
        obtain ⟨x, hx, rfl⟩ := (hleaves d).mp hold
        exact (congrArg Context.booking (h.left x hx).2).trans (Context.leave_booking _ _ _)
      · next hold =>
        exact congrArg Context.booking (h.others d hd fun x hx hxd => hold ((hleaves d).mpr ⟨x, hx, hxd⟩))

/-- R62 to R66: a VIEW keeps the seating sound. -/
theorem Viewed.sound {s u t : State} {o : Fin 6} {e : MapEntry} {w : Fin 4} {c : Fin 8} {m : Means}
    (h : Viewed s o e w c m u t) (hob : Obtained s e w (fun x => x.join o) (.active (e.tuning w)) [o] u c m)
    (hs : s.seating.Sound) : t.seating.Sound := by
  rw [h.seating hob hs]
  have hidle : (s.seating.vacate o).outs o = none := by rw [Seating.vacate_outs, if_pos rfl]
  cases hfind : s.findContext e.service w.val with
  | some x =>
    obtain ⟨rfl, -⟩ := hob.joined x hfind
    have hplace := State.findContext_some_place hfind
    refine (hs.vacate o).sit hidle (fun _ => ?_) (fun d hd => ?_)
    · rw [Seating.vacate_place, hplace]
    · rw [Seating.vacate_place] at hd
      exact hs.apart d c _ hd hplace
  | none =>
    obtain ⟨-, htaken⟩ := hob.taken hfind
    refine (hs.vacate o).sit hidle (fun hactive => ?_) (fun d hd => ?_)
    · rw [s.seating.vacate_active o c ((hs.vacate o).kept c hactive)] at hactive
      cases htaken.inactive.symm.trans hactive
    · rw [Seating.vacate_place] at hd
      exact absurd hd (State.findContext_none_place hfind d)

/-! ### TUNE and RELEASE records -/

theorem State.tuneView_sound {s : State} (h : s.seating.Sound) (op : TuneOp) : (s.tuneView op).1.seating.Sound := by
  unfold State.tuneView
  split
  · exact h
  · next e w hcheck =>
    split
    · exact h
    · next o ho =>
      unfold State.applyView
      split
      · exact h
      · next hnew =>
        split
        · exact h
        · next u c m hu =>
          have hob := State.obtainBy_obtained ((s.obtainView_eq o e w).symm.trans hu)
          exact (hob.viewed ((seating_sound_iff s).mp h).1 (State.alreadyOn_eq_none.mp hnew)).sound hob h

theorem State.tuneStage_sound {s : State} (h : s.seating.Sound) (op : TuneOp) : (s.tuneStage op).1.seating.Sound := by
  unfold State.tuneStage
  split
  · exact h
  · split
    · exact h
    · next hobtained => exact State.obtainStage_sound h hobtained

theorem State.release_sound {s : State} (h : s.seating.Sound) (n : Nat) : (s.release n).1.seating.Sound := by
  unfold State.release
  split
  · exact h
  · next o _ =>
    split
    · rw [State.moveToIdle_seating]
      exact h.vacate o
    · exact h

end Sys2Proof.Machine
end

section
/-! PROOFS. The effects of the Key Store and the Path Unit leave the seating alone (R58 to R60). -/

namespace Sys2Proof.Machine

/-! ### Reads that reach the tune record (R64, R73 to R76) -/

section SeatingOfReads

variable (s : State)

variable {s} in
/-- R73: a new phase of an output that stays tuned. -/
theorem State.rephase_seating {o : Fin 6} {v : Tuned} (h : (s.outs[o]).tune = some v) (p : Phase) (n : Notice) :
    ((s.modOut o (fun x => { x with tune := some { v with phase := p } })).notify n).seating = s.seating := by
  rw [State.notify_seating]
  exact State.modOut_seating_same (congrArg (Option.map Tuned.seat) h).symm

theorem State.tuneDelivery_seating (o : Fin 6) : (s.tuneDelivery o).seating = s.seating := by
  unfold State.tuneDelivery
  split
  · rfl
  · next v hv =>
    dsimp only
    split
    · exact State.rephase_seating hv _ _
    · rfl
    · split
      · exact State.rephase_seating hv _ _
      · rfl

theorem State.tuneBlank_seating (o : Fin 6) : (s.tuneBlank o).seating = s.seating := by
  unfold State.tuneBlank
  split
  · next v _ hv _ =>
    split
    · exact State.rephase_seating hv _ _
    · rfl
  · rfl

@[simp] theorem State.takeRead_seating (o : Fin 6) (e : ReadEvent) : (s.takeRead o e).seating = s.seating := by
  cases e with
  | delivery => exact (State.tuneDelivery_seating _ o).trans (State.modOut_seating_same rfl)
  | blank r => exact (State.tuneBlank_seating _ o).trans (State.modOut_seating_same rfl)

end SeatingOfReads

/-! ### The Key Store -/

section SeatingOfKeys

variable (s : State)

@[simp] theorem State.countCorrected_seating (c : Fin 8) : (s.countCorrected c).seating = s.seating := by
  unfold State.countCorrected
  split <;> rfl

@[simp] theorem State.discardHalf_seating (c : Fin 8) (p : HalfParity) : (s.discardHalf c p).seating = s.seating := by
  simp [State.discardHalf]

@[simp] theorem State.keyFault_seating (c : Fin 8) (p : HalfParity) (compare : Bool) :
    (s.keyFault c p compare).seating = s.seating := by
  simp [State.keyFault]

@[simp] theorem State.eccCheck_seating (c : Fin 8) (p : HalfParity) (compare : Bool) (f : EccFinding) :
    (s.eccCheck c p compare f).1.seating = s.seating := by
  cases f <;> simp [State.eccCheck]

@[simp] theorem State.flipParity_seating (c : Fin 8) (p : HalfParity) : (s.flipParity c p).seating = s.seating :=
  (State.evaluateAll_seating _ _ _ _).trans (State.modCtx_seating_same rfl)

theorem State.compareBlocks_seating (c : Fin 8) (bs : List KeyBlock) (fs : List EccFinding) :
    (s.compareBlocks c bs fs).1.seating = s.seating := by
  induction bs generalizing s fs with
  | nil => rfl
  | cons b bs ih =>
    unfold State.compareBlocks
    split
    · rfl
    · split
      · rfl
      · dsimp only
        split <;> simp [ih]

@[simp] theorem State.refreshHalf_seating (c : Fin 8) (b : KeyBlock) : (s.refreshHalf c b).seating = s.seating := by
  unfold State.refreshHalf
  split
  · rfl
  · exact State.setHalf_seating _ _ _

@[simp] theorem State.loadHalf_seating (c : Fin 8) (b : KeyBlock) (k : BitVec 128) :
    (s.loadHalf c b k).seating = s.seating := by
  unfold State.loadHalf
  split
  · exact State.setHalf_seating _ _ _
  · rfl

@[simp] theorem State.loadHalves_seating (c : Fin 8) (bs : List KeyBlock) (ks : List (BitVec 128)) :
    (s.loadHalves c bs ks).seating = s.seating := by
  induction bs generalizing s ks with
  | nil => rfl
  | cons b bs ih => simp [State.loadHalves, ih]

theorem State.keyRefresh_seating (c : Fin 8) (bs : List KeyBlock) (fs : List EccFinding) :
    (s.keyRefresh c bs fs).1.seating = s.seating := by
  have hcompare := s.compareBlocks_seating c bs fs
  unfold State.keyRefresh
  split
  · next h =>
    rw [h] at hcompare
    exact (State.foldl_seating (fun s b => s.refreshHalf_seating c b) bs _).trans hcompare
  · next h =>
    rw [h] at hcompare
    exact hcompare

theorem State.keyLoad_seating (c : Fin 8) (epoch : Nat) (bs : List KeyBlock) (ks : List (BitVec 128)) :
    (s.keyLoad c epoch bs ks).1.seating = s.seating := by
  simp only [State.keyLoad, State.evaluateIfGoverningChanged_seating, State.evaluateChanged_seating,
    State.recompute_seating]
  exact (State.modCtx_seating_same rfl).trans (s.loadHalves_seating c bs ks)

theorem State.keyRecord_seating (u : KeyUnwrap) (r : Record) : (s.keyRecord u r).1.seating = s.seating := by
  unfold State.keyRecord
  split
  · rfl
  · split
    · rfl
    · split
      · exact s.keyLoad_seating _ _ _ _
      · exact s.keyRefresh_seating _ _ _
      · rfl

end SeatingOfKeys

/-! ### The Path Unit -/

section SeatingOfPath

variable (s : State)

theorem State.arrive_seating (r : Request) : (s.arrive r).seating = s.seating := by
  unfold State.arrive State.presentOrHold
  split <;> rfl

theorem State.upstream_seating (r : Request) : (s.upstream r).seating = s.seating := by
  unfold State.upstream
  split
  · rfl
  · rfl
  all_goals exact s.arrive_seating r

@[simp] theorem State.arrival_seating (k : Fin 4) (good : Bool) : (s.arrival k good).seating = s.seating := by
  unfold State.arrival State.noteRing
  split <;> simp

@[simp] theorem State.fallSilent_seating (k : Fin 4) : (s.fallSilent k).seating = s.seating := by
  simp [State.fallSilent]

@[simp] theorem State.countDelivery_seating (o : Fin 6) (clear : Bool) : 
    (s.countDelivery o clear).seating = s.seating :=
  (State.modOut_seating_same rfl).trans (s.count_seating o _)

@[simp] theorem State.readBlank_seating (x : Reading) (r : BlankReason) : (s.readBlank x r).state.seating = s.seating :=
  s.count_seating _ _

@[simp] theorem State.readClear_seating (x : Reading) : (s.readClear x).state.seating = s.seating :=
  s.countDelivery_seating _ _

theorem State.readScrambled_seating (x : Reading) (c : Fin 8) (p : HalfParity) (ecc : EccFinding) :
    (s.readScrambled x c p ecc).state.seating = s.seating := by
  have hcheck := s.eccCheck_seating c p false ecc
  unfold State.readScrambled
  split
  · simp
  · split
    · next h =>
      rw [h] at hcheck
      simpa using hcheck
    · next h =>
      rw [h] at hcheck
      simpa using hcheck

theorem State.readListed_seating (x : Reading) (c : Fin 8) (pp : PacketParity) (ecc : EccFinding) :
    (s.readListed x c pp ecc).state.seating = s.seating := by
  unfold State.readListed
  split
  · simp
  · split
    · simp
    · simp
    · exact s.readScrambled_seating _ _ _ _

theorem State.flipIfNew_seating (c : Fin 8) (pp : PacketParity) : (s.flipIfNew c pp).seating = s.seating := by
  unfold State.flipIfNew
  split
  · rfl
  · rfl
  · split <;> simp

theorem State.readForeign_seating (x : Reading) (pp : PacketParity) :
    (s.readForeign x pp).state.seating = s.seating := by
  unfold State.readForeign
  split
  · simp
  all_goals split <;> simp

theorem State.cellProcedure_seating (x : Reading) (ecc : EccFinding) :
    (s.cellProcedure x ecc).state.seating = s.seating := by
  unfold State.cellProcedure
  dsimp only
  split
  · simp
  · split
    · simp
    · split
      · exact s.readForeign_seating _ _
      · split
        · simp
        · exact (State.readListed_seating _ _ _ _ _).trans (s.flipIfNew_seating _ _)

@[simp] theorem State.holdRead_seating (u : UpReq) : (s.holdRead u).seating = s.seating := by
  unfold State.holdRead
  split <;> rfl

@[simp] theorem State.answerRead_seating (o : Fin 6) (e : ReadEvent) (u : UpReq) (d : List Byte) :
    (s.answerRead o e u d).seating = s.seating := by
  simp [State.answerRead]

theorem State.cellRead_seating (u : UpReq) (o : Fin 6) (ecc : EccFinding) (atOnce : Bool) :
    (s.cellRead u o ecc atOnce).seating = s.seating := by
  unfold State.cellRead
  dsimp only
  split
  · simp [State.partialRead]
  · split
    · simp
    · have hjudged := State.cellProcedure_seating s.freePort (s.reading u o) ecc
      split
      · exact (State.answerRead_seating _ _ _ _ _).trans hjudged
      · exact hjudged

theorem State.passComplete_seating (u : UpReq) : (s.passComplete u).seating = s.seating := by
  unfold State.passComplete
  split
  · exact s.completeWrite_seating u
  · simp

/-- R13: a pacing window leaves every seat. -/
theorem State.openPace_seating : s.openPace.seating = s.seating :=
  State.seating_eq (fun o => by simp [State.openPace, Output.seat]) fun _ => rfl

end SeatingOfPath

end Sys2Proof.Machine
end

section
/-! PROOFS. The effects of Guide Tables, the Profile Table, the Purse and Journal, the settings store, the Access Unit,
the Rights Table, the Notice Writer and the POWER records leave the seating alone (R58 to R60). -/

namespace Sys2Proof.Machine

/-! ### Guide Tables -/

section SeatingOfGuide

variable (s : State)

@[simp] theorem State.retarget_seating : s.retarget.seating = s.seating := by
  unfold State.retarget
  split <;> rfl

@[simp] theorem State.recheckTarget_seating : s.recheckTarget.seating = s.seating := by
  unfold State.recheckTarget
  split <;> rfl

@[simp] theorem State.followCurrent_seating (before : List CurrentOf) (c : GateCause) (d : Bool) :
    (s.followCurrent before c d).seating = s.seating := by
  simp [State.followCurrent]

@[simp] theorem State.budgetDateCheck_seating : (s.budgetDateCheck true).seating = s.seating :=
  s.budgetDateCheck_block.tick.seating

@[simp] theorem State.minuteWork_seating (before : List CurrentOf) (order : List TickBlock) :
    (s.minuteWork before order).seating = s.seating :=
  (State.deferredNotices_work _).seating.trans (s.blocksWorked_tick before order).seating

theorem State.clockSecond_seating : s.clockSecond.seating = s.seating := by
  unfold State.clockSecond
  dsimp only
  split <;> rfl

theorem State.meter_seating (q : Fin 6) : (s.meter q).seating = s.seating := by
  unfold State.meter
  dsimp only
  split
  · rfl
  · split <;> rfl

theorem State.secondTick_seating : s.secondTick.seating = s.seating :=
  (State.foldl_seating State.meter_seating _ _).trans (State.clockSecond_seating _)

@[simp] theorem State.noteJump_seating (clock : Nat) (offset : Int) :
    (s.noteJump clock offset).seating = s.seating := by
  unfold State.noteJump
  split
  · rfl
  · dsimp only
    split <;> simp

theorem State.timeRecord_seating (order : List TickBlock) (clock : Nat) (offset : Int) :
    (s.timeRecord order clock offset).1.seating = s.seating := by
  unfold State.timeRecord
  split
  · rfl
  · dsimp only
    split <;> simp

/-- R44: a context that follows a map entry keeps its service and window. -/
theorem Context.follow_booking (c : Context) (e : MapEntry) : (c.follow e).booking = c.booking := by
  unfold Context.follow
  split
  · rfl
  all_goals
    next hl =>
    split
    · simp [Context.booking, Context.tuning, Context.isActive, Tuning.place, hl]
    · rfl

theorem State.addService_seating {e : MapEntry} {t : State} (h : s.addService e = some t) : t.seating = s.seating := by
  have hadded := State.addService_added h
  refine State.seating_eq (fun o => by rw [hadded.tables.outs]) fun c => ?_
  rw [hadded.ctxs, Fin.getElem_fin, Vector.getElem_map]
  exact Context.follow_booking _ e

theorem State.applyItem_seating {it : ServiceItem} {r : State × Option Nat} (h : s.applyItem it = some r) :
    r.1.seating = s.seating := by
  cases it with
  | add e =>
    obtain ⟨t, ht, rfl⟩ := Option.map_eq_some_iff.mp h
    exact s.addService_seating ht
  | remove svc =>
    simp only [State.applyItem] at h
    split at h <;> cases h <;> rfl
  | unknown _ =>
    cases h
    rfl

@[simp] theorem State.applyItems_seating (its : List ServiceItem) : (s.applyItems its).state.seating = s.seating := by
  induction its generalizing s with
  | nil => rfl
  | cons it its ih =>
    unfold State.applyItems
    split
    · rfl
    · next h => exact (ih _).trans (s.applyItem_seating h)

theorem State.servicesRecord_seating (version : Nat) (items : List ServiceItem) :
    (s.servicesRecord version items).1.seating = s.seating := by
  unfold State.servicesRecord
  split
  · rfl
  · simp

theorem State.issueFor_seating (f : Fetched) (rs : List OwnReq) : (s.issueFor f rs).seating = s.seating := by
  unfold State.issueFor
  split <;> rfl

theorem State.applyEvents_seating (f : Fetched) : (s.applyEvents f).1.seating = s.seating :=
  (State.followCurrent_work _ _ _ _).seating.trans (State.issueFor_seating _ f _)

theorem State.eventsCheck_seating {r : Record} {x : State × Outcome} (h : s.eventsCheck r = some x) :
    x.1.seating = s.seating := by
  unfold State.eventsCheck at h
  split at h
  · cases h
    rfl
  · split at h
    · cases h
      rfl
    · split at h
      · cases h
        rfl
      · split at h <;> cases h
        rfl

theorem State.eventsRecord_seating (f : Fetched) : (s.eventsRecord f).1.seating = s.seating := by
  unfold State.eventsRecord
  split
  · next h => exact s.eventsCheck_seating h
  · exact s.applyEvents_seating f

end SeatingOfGuide

/-! ### The Profile Table -/

section SeatingOfProfiles

variable (s : State)

theorem State.pinMatched_seating (q : Fin 6) : (s.pinMatched q).seating = s.seating := by
  unfold State.pinMatched
  split <;> rfl

theorem State.pinFailed_seating (q : Fin 6) (kind : Nat) (o : Option Nat) :
    (s.pinFailed q kind o).1.seating = s.seating := by
  unfold State.pinFailed
  dsimp only
  split
  · simp [State.lockOut]
  · rfl

theorem State.comparePin_seating (q : Fin 6) (pin : List Byte) (kind : Nat) (o : Option Nat) :
    (s.comparePin q pin kind o).1.seating = s.seating := by
  unfold State.comparePin
  split
  · rfl
  · split
    · exact s.pinMatched_seating q
    · exact s.pinFailed_seating q kind o

/-- What follows a PIN comparison leaves the seating alone if both do. -/
theorem afterPin_seating {s : State} {r : State × Option Outcome} {go : State → State × Outcome}
    (hr : r.1.seating = s.seating) (hgo : ∀ t : State, (go t).1.seating = t.seating) :
    (afterPin r go).1.seating = s.seating := by
  unfold afterPin
  split
  · exact hr
  · exact (hgo r.1).trans hr

theorem State.comparePinRecord_seating (o : Fin 6) (op : PinOp) : (s.comparePinRecord o op).1.seating = s.seating :=
  s.comparePin_seating _ _ _ _

theorem State.unlockEvent_seating (o : Fin 6) (e : Nat) : (s.unlockEvent o e).1.seating = s.seating :=
  (State.evaluate_seating _ _ _ _).trans (State.modOut_seating_same rfl)

theorem State.unlockPeriod_seating (o : Fin 6) (m : Nat) : (s.unlockPeriod o m).1.seating = s.seating :=
  (State.evaluateTuned_seating _ _ _).trans (State.modOut_seating_same rfl)

theorem State.pinUnlockEvent_seating (op : PinOp) : (s.pinUnlockEvent op).1.seating = s.seating := by
  unfold State.pinUnlockEvent
  split
  · rfl
  · split
    · rfl
    · split
      · rfl
      · exact afterPin_seating (s.comparePinRecord_seating _ _) fun t => t.unlockEvent_seating _ _

theorem State.pinUnlockPeriod_seating (op : PinOp) : (s.pinUnlockPeriod op).1.seating = s.seating := by
  unfold State.pinUnlockPeriod
  split
  · rfl
  · split
    · rfl
    · exact afterPin_seating (s.comparePinRecord_seating _ _) fun t => t.unlockPeriod_seating _ _

theorem State.pinChange_seating (op : PinOp) : (s.pinChange op).1.seating = s.seating := by
  unfold State.pinChange
  split
  · rfl
  · split
    · rfl
    · split
      · rfl
      · exact afterPin_seating (s.comparePinRecord_seating _ _) fun _ => rfl

theorem State.editProfile_seating (q : Fin 6) (op : ProfileOp) : (s.editProfile q op).1.seating = s.seating :=
  State.evaluateAll_seating _ _ _ _

theorem State.profileRecord_seating (op : ProfileOp) : (s.profileRecord op).1.seating = s.seating := by
  unfold State.profileRecord
  split
  · rfl
  · split
    · rfl
    · exact afterPin_seating (s.comparePin_seating _ _ _ _) fun t => t.editProfile_seating _ _

theorem State.endUnlock_seating (o : Fin 6) : (s.endUnlock o).seating = s.seating :=
  (State.evaluateTuned_seating _ _ _).trans (State.modOut_seating_same rfl)

@[simp] theorem State.warn_seating (q : Fin 6) (viewers : List (Fin 6)) : (s.warn q viewers).seating = s.seating := by
  unfold State.warn
  split <;> simp

@[simp] theorem State.budgetReached_seating (q : Fin 6) : (s.budgetReached q).seating = s.seating := by
  unfold State.budgetReached
  split <;> simp

theorem State.rise_seating (q : Fin 6) (viewers : List (Fin 6)) : (s.rise q viewers).seating = s.seating := by
  unfold State.rise
  split <;> simp

end SeatingOfProfiles

/-! ### The Purse and Journal and the settings store -/

section SeatingOfJournal

variable (s : State)

@[simp] theorem State.followPosition_seating (old : Nat) : (s.followPosition old).seating = s.seating := by
  unfold State.followPosition
  split <;> simp

@[simp] theorem State.followCollect_seating (k : JournalKind) : (s.followCollect k).seating = s.seating := by
  cases k <;> simp [State.followCollect]

@[simp] theorem State.append_seating (e : Entry) : (s.append e).seating = s.seating := by
  simp [State.append]

theorem State.pageWritten_seating (p : Fin 4) : (s.pageWritten p).seating = s.seating := by
  unfold State.pageWritten
  split
  · rfl
  · dsimp only
    split <;> rfl

theorem State.settingsBlank_seating : s.settingsBlank.seating = s.seating := rfl

theorem State.settingsLoaded_seating (b : List Byte) : (s.settingsLoaded b).seating = s.seating := by
  unfold State.settingsLoaded
  rfl

theorem State.settingsCorrupt_seating : s.settingsCorrupt.seating = s.seating := by
  simp only [State.settingsCorrupt, State.markChange_seating, State.notify_seating]
  rfl

theorem State.settingsMount_seating : s.settingsMount.seating = s.seating := by
  unfold State.settingsMount
  split
  · exact s.settingsBlank_seating
  · split
    · exact s.settingsLoaded_seating _
    · exact s.settingsCorrupt_seating

@[simp] theorem State.startStatistics_seating : s.startStatistics.seating = s.seating := by
  unfold State.startStatistics
  split <;> rfl

theorem State.mountComplete_seating : s.mountComplete.seating = s.seating := by
  simp only [State.mountComplete, State.budgetDateCheck_seating, State.notify_seating]
  exact State.startStatistics_seating _

theorem State.journalMount_seating : s.journalMount.seating = s.seating := by
  have hmounted (p : Purse) : ({ s.freeFlash with purse := p } : State).seating = s.seating := rfl
  have hrebuilt (t : State) (a : AccessUnit) : ({ t with access := a } : State).seating = t.seating := rfl
  rw [State.journalMount, State.mountComplete_seating, hrebuilt, State.retarget_seating, hmounted]

end SeatingOfJournal

/-! ### The Access Unit and the Rights Table -/

section SeatingOfAccess

variable (s : State)

theorem State.exhaustHalf_seating (l : HalfPlace) : (s.exhaustHalf l).seating = s.seating := by
  rw [State.exhaustHalf, State.setHalf_seating]

theorem State.previewEnd_seating (o : Fin 6) (event seconds : Nat) :
    (s.previewEnd o event seconds).seating = s.seating := by
  unfold State.previewEnd
  split <;> simp

theorem State.previewEnds_seating (cs : List (Fin 8)) (event seconds : Nat) :
    (s.previewEnds cs event seconds).seating = s.seating :=
  State.foldl_seating (fun s _ => State.foldl_seating (fun s o => s.previewEnd_seating o event seconds) _ s) cs s

theorem State.exhaust_seating (x : PreviewEntry) : (s.exhaust x).seating = s.seating :=
  ((State.evaluateAll_seating _ _ _ _).trans (State.previewEnds_seating _ _ _ _)).trans
    (State.foldl_seating State.exhaustHalf_seating _ s)

theorem State.purchasePin_seating (o : Fin 6) (op : BuyOp) : (s.purchasePin o op).1.seating = s.seating := by
  unfold State.purchasePin
  split
  · exact s.comparePin_seating _ _ _ _
  · rfl

theorem State.purchase_seating (o : Fin 6) (e : EventCriteria) (price : Nat) :
    (s.purchase o e price).1.seating = s.seating := by
  simp only [State.purchase, State.recomputeAndEvaluate_seating, State.notify_seating]
  exact s.append_seating _

theorem State.buyPriced_seating (o : Fin 6) (e : EventCriteria) (price confirm : Nat) :
    (s.buyPriced o e price confirm).1.seating = s.seating := by
  unfold State.buyPriced
  split
  · rfl
  · split
    · rfl
    · split
      · rfl
      · split
        · rfl
        · exact s.purchase_seating o e price

theorem State.buyOffered_seating (o : Fin 6) (op : BuyOp) : (s.buyOffered o op).1.seating = s.seating := by
  unfold State.buyOffered
  split
  · rfl
  · split
    · rfl
    · split
      · rfl
      · split
        · rfl
        · exact afterPin_seating (s.purchasePin_seating o op) fun t => t.buyPriced_seating _ _ _ _

theorem State.buyRecord_seating (op : BuyOp) : (s.buyRecord op).1.seating = s.seating := by
  unfold State.buyRecord
  split
  · rfl
  · split
    · rfl
    · exact s.buyOffered_seating _ op

theorem State.applyRight_seating (op : RightsOp) (it : RightsItem) : (s.applyRight op it).seating = s.seating := by
  cases it with
  | topup a => exact s.append_seating _
  | collect u => exact s.append_seating _
  | pinReset q pin =>
    simp only [State.applyRight, State.pinReset]
    split <;> rfl
  | _ => rfl

@[simp] theorem State.rightsFollow_seating (region : Bool) : (s.rightsFollow region).seating = s.seating := by
  cases region <;> simp [State.rightsFollow]

theorem State.applyRights_seating (op : RightsOp) : (s.applyRights op).1.seating = s.seating := by
  simp only [State.applyRights, State.rightsFollow_seating, State.notify_seating, State.markChange_seating,
    State.modRights_seating]
  exact State.foldl_seating (State.applyRight_seating · op) op.items s

theorem State.rightsRecord_seating (pass : Bool) (op : RightsOp) : (s.rightsRecord pass op).1.seating = s.seating := by
  unfold State.rightsRecord
  split
  · rfl
  · exact s.applyRights_seating op

end SeatingOfAccess

/-! ### The Notice Writer -/

section SeatingOfWriter

variable (s : State)

theorem State.statsOutput_seating (o : Fin 6) : (s.statsOutput o).seating = s.seating := by
  unfold State.statsOutput
  split
  · exact (State.modOut_seating_same rfl).trans (s.notify_seating _)
  · rfl

theorem State.statsRing_seating (k : Fin 4) : (s.statsRing k).seating = s.seating := by
  unfold State.statsRing
  split <;> simp

@[simp] theorem State.writeStats_seating : s.writeStats.seating = s.seating := by
  simp only [State.writeStats, State.statsGuide, State.modGuideCounters_seating, State.notify_seating]
  exact (State.foldl_seating State.statsRing_seating _ _).trans (State.foldl_seating State.statsOutput_seating _ s)

@[simp] theorem State.retryStats_seating : s.retryStats.seating = s.seating := by
  unfold State.retryStats
  split <;> simp

theorem State.statsFallDue_seating : s.statsFallDue.seating = s.seating := by
  unfold State.statsFallDue
  split
  · rfl
  · split <;> simp

theorem State.handConsumer_seating (v : Nat) : (s.handConsumer v).seating = s.seating := by
  unfold State.handConsumer
  split
  · rfl
  · simp [State.takeConsumer]

theorem State.consumerWritten_seating (r : Request) : (s.consumerWritten r).seating = s.seating :=
  State.handConsumer_seating _ _

end SeatingOfWriter

/-! ### Power and part states -/

section SeatingOfPower

variable (s : State)

theorem State.forceSettings_seating : s.forceSettings.seating = s.seating := by
  unfold State.forceSettings
  split <;> rfl

/-- R58 to R60 hold with every output IDLE and every context FREE. -/
theorem State.sound_of_empty {t : State} (ho : ∀ o : Fin 6, (t.outs[o]).tune = none)
    (hc : ∀ c : Fin 8, t.ctxs[c] = Context.free) : t.seating.Sound := by
  have houts (o : Fin 6) : t.seating.outs o = none := congrArg (Option.map Tuned.seat) (ho o)
  have hctxs (c : Fin 8) : t.seating.ctxs c = ⟨none, false, []⟩ := congrArg Context.booking (hc c)
  refine ⟨fun o x hx => ?_, fun c o hm => ?_, fun c ha => ?_, fun c d p hp => ?_⟩
  · cases (houts o).symm.trans hx
  · rw [hctxs] at hm
    cases hm
  · rw [hctxs] at ha
    cases ha
  · rw [hctxs] at hp
    cases hp

/-- R80, R190: STANDBY empties the pool. -/
theorem State.enterStandby_sound : s.enterStandby.seating.Sound := by
  have hpart (t : State) : ({ t with part := .standby } : State).seating = t.seating := rfl
  rw [State.enterStandby, hpart, State.forceSettings_seating, State.clearPool_eq]
  exact State.sound_of_empty (fun o => by simp [Output.emptied]) fun c => by simp

theorem State.powerStandby_sound {s : State} (h : s.seating.Sound) (a : Nat) :
    (s.powerStandby a).1.seating.Sound := by
  unfold State.powerStandby
  split
  · exact h
  · split
    · exact h
    · exact s.enterStandby_sound

/-- R80: a link reset empties the pool; the answers to held reads leave it so. -/
theorem State.linkReset_sound {s : State} (h : s.part.running = true) (c : Bool) :
    (s.linkReset c).seating.Sound := by
  rw [State.linkReset_eq h]
  refine State.sound_of_empty (fun o => ?_) fun d => ?_
  · rw [State.linkReset_output, Output.idleBlanked_fields]
    rfl
  · simp [State.heldAnswered, State.linkRestarted, State.linkCleared]

/-- R17: without power the pool is that of power-on. -/
theorem State.powerOff_sound : s.powerOff.seating.Sound := by
  have hsame : s.powerOff.seating = State.reset.seating := State.seating_congr rfl rfl
  rw [hsame]
  exact (seating_sound_iff State.reset).mpr ⟨reset_pool, reset_places⟩

theorem State.powerWake_seating (a : Nat) : (s.powerWake a).1.seating = s.seating := by
  unfold State.powerWake
  split
  · rfl
  · split <;> rfl

theorem State.releaseStart_seating : s.releaseStart.seating = s.seating :=
  State.foldl_seating State.arrive_seating _ _

theorem State.loadImage_seating (i : Image) : (s.loadImage i).seating = s.seating :=
  State.releaseStart_seating _

theorem State.enterFault_seating : s.enterFault.seating = s.seating :=
  State.foldl_seating (fun s r => s.present_seating ⟨r, .plain, none, false⟩) _ _

end SeatingOfPower

end Sys2Proof.Machine
end

section
/-! PROOFS. What each command makes of the seating (R58 to R60), and the obligation that every step keeps it sound. -/

namespace Sys2Proof.Machine

/-! ### Records (R27 to R34) -/

theorem State.fetchDone_seating (s : State) (f : Fetched) : (s.fetchDone f).seating = s.seating := by
  cases ha : f.attached with
  | true => rw [State.fetchDone_attached s ha, State.freePort_seating]
  | false => rw [State.fetchDone_detached s ha]

theorem State.countBadLength_seating (s : State) (k : Kind) (a : Bool) :
    (s.countBadLength k a).seating = s.seating := by
  cases k <;> cases a <;> rfl

theorem State.endProcessing_seating (s : State) : s.endProcessing.seating = s.seating :=
  s.endProcessing_frame.seating (by decide) (by decide)

theorem State.finishRecord_seating (s : State) (f : Fetched) (ws : List OwnReq) (out : Outcome) :
    (s.finishRecord f ws out).seating = s.seating := by
  cases ha : f.attached with
  | true => exact (s.finishRecord_attached_frame ha ws out).seating (by decide) (by decide)
  | false => rw [State.finishRecord_detached s ha, State.endProcessing_seating]

/-- What a block does with a record keeps R58 to R60. -/
def Effect.KeepsPool (effect : Effect) : Prop :=
  ∀ (s : State) (f : Fetched), s.seating.Sound → (effect s f).1.seating.Sound

theorem Effect.KeepsPool.of_same {effect : Effect} (h : ∀ (s : State) (f : Fetched),
    (effect s f).1.seating = s.seating) : effect.KeepsPool := by
  intro s f hs
  rwa [h]

/-- R28 to R30: carrying a record out keeps R58 to R60 if its owning block's effect does. -/
theorem Effect.KeepsPool.carryOut {effect : Effect} (h : effect.KeepsPool) {s : State} (hs : s.seating.Sound)
    (f : Fetched) (k : Kind) : (s.carryOut f k effect).1.seating.Sound := by
  unfold State.carryOut
  split
  · rwa [State.countBadLength_seating]
  · split
    · exact hs
    · exact h s f hs

/-! ### How a command's outcome keeps R58 to R60 -/

/-- If a command answers a next state, R58 to R60 hold in it where they held before. -/
def KeepsPool (s : State) (r : Result) : Prop := ∀ t : State, r = .next t → s.seating.Sound → t.seating.Sound

theorem KeepsPool.same (s : State) : KeepsPool s (.next s) := by
  rintro t ⟨⟩ h
  exact h

theorem KeepsPool.refused (s : State) (x : Refusal) : KeepsPool s (.refused x) := by
  rintro t ⟨⟩

theorem KeepsPool.fault (s : State) (x : Fault) : KeepsPool s (.fault x) := by
  rintro t ⟨⟩

theorem KeepsPool.done {s t : State} (h : s.seating.Sound → t.seating.Sound) : KeepsPool s (Machine.done t) := by
  rintro u ⟨⟩ hs
  rw [State.settle_seating]
  exact h hs

/-- A command whose effect leaves the seating alone. -/
theorem KeepsPool.done_same {s t : State} (h : t.seating = s.seating) : KeepsPool s (Machine.done t) :=
  .done fun hs => by rwa [h]

/-- A command that acts when it is due and otherwise changes nothing. -/
theorem KeepsPool.due {s : State} {p : Prop} [Decidable p] {r : Result} (h : p → KeepsPool s r) :
    KeepsPool s (if p then r else .next s) := by
  split
  · next hp => exact h hp
  · exact .same s

/-- A record command of a block whose effect keeps R58 to R60. -/
theorem Effect.KeepsPool.recordStep {effect : Effect} (h : effect.KeepsPool) (s : State) (k : Kind)
    (mine : Record → Bool) : Machine.KeepsPool s (recordStep s k mine effect) := by
  unfold Machine.recordStep State.processRecord
  cases hf : s.fetched with
  | none => exact .same s
  | some f =>
    dsimp only
    split
    · next u hu =>
      split at hu <;> cases hu
      exact .same s
    · next u hu =>
      split at hu <;> cases hu
      refine .done fun hs => ?_
      rw [State.finishRecord_seating]
      exact h.carryOut (by rwa [State.fetchDone_seating]) f k

/-- A record command of a block whose effect leaves the seating alone. -/
theorem recordStep_keepsPool {effect : Effect} (h : ∀ (s : State) (f : Fetched),
    (effect s f).1.seating = s.seating) (s : State) (k : Kind) (mine : Record → Bool) :
    KeepsPool s (recordStep s k mine effect) :=
  (Effect.KeepsPool.of_same h).recordStep s k mine

/-! ### The commands, one by one -/

theorem execPowerGood_keepsPool (s : State) : KeepsPool s (execPowerGood s) := by
  unfold execPowerGood
  split
  · exact .same s
  · exact .done fun _ => s.powerOff_sound

theorem execPowerLoss_keepsPool (remains : List Byte) (s : State) : KeepsPool s (execPowerLoss remains s) := by
  unfold execPowerLoss
  split
  · exact .same s
  · split
    · exact .refused s _
    · next t ht =>
      rintro u ⟨⟩ -
      unfold State.losePower at ht
      split at ht
      · cases ht
        exact State.powerOff_sound _
      · split at ht
        · cases ht
          exact State.powerOff_sound _
        · split at ht <;> cases ht
          exact State.powerOff_sound _

theorem execLinkReset_keepsPool (c : Bool) (s : State) : KeepsPool s (execLinkReset c s) := by
  unfold execLinkReset
  split
  · exact .same s
  · split
    · exact .same s
    · exact .done_same rfl
    all_goals next hp => exact .done fun _ => State.linkReset_sound (by rw [hp]; rfl) c

theorem execConfigImageReadComplete_keepsPool (s : State) : KeepsPool s (execConfigImageReadComplete s) := by
  unfold execConfigImageReadComplete
  split
  · split
    · exact .done_same (s.loadImage_seating _)
    · exact .done_same s.enterFault_seating
  all_goals exact .same s

theorem execUpstreamRequest_keepsPool (r : Request) (s : State) : KeepsPool s (execUpstreamRequest r s) := by
  unfold execUpstreamRequest
  split
  · exact .fault s _
  · split
    · exact .refused s _
    · exact .due fun _ => .done_same (s.upstream_seating r)

theorem execPassRequestComplete_keepsPool (s : State) : KeepsPool s (execPassRequestComplete s) := by
  unfold execPassRequestComplete
  split
  · exact .same s
  · next u hu => exact .due fun _ => .done_same (s.passComplete_seating u)

theorem execCellArrival_keepsPool (s : State) : KeepsPool s (execCellArrival s) := by
  unfold execCellArrival
  split
  · exact .same s
  · next u hu =>
    split
    · exact .done_same ((State.arrival_seating _ _ _).trans (s.completeWrite_seating u))
    all_goals exact .same s

theorem execCellRead_keepsPool (x : ReadStep) (s : State) : KeepsPool s (execCellRead x s) := by
  have hcomplete (ecc : EccFinding) (atOnce : Bool) : KeepsPool s (s.completeRead ecc atOnce) := by
    unfold State.completeRead
    split
    · exact .same s
    · next u hu =>
      split
      · exact .done_same (s.cellRead_seating u _ _ _)
      all_goals exact .same s
  cases x with
  | whole ecc => exact hcomplete ecc true
  | judged ecc => exact hcomplete ecc false
  | answered k =>
    simp only [execCellRead, State.leaveRead]
    split
    · exact .same s
    · exact .done_same (State.answerRead_seating _ _ _ _ _)

theorem execOwnWriteComplete_keepsPool (s : State) : KeepsPool s (execOwnWriteComplete s) := by
  unfold execOwnWriteComplete
  split
  · exact .same s
  · next r hr =>
    exact .due fun _ => .done_same (s.completeOwn_seating r)

theorem execSlotTake_keepsPool (s : State) : KeepsPool s (execSlotTake s) := by
  unfold execSlotTake
  split
  · exact .same s
  · next u hu =>
    split
    · next n kind hc =>
      exact .done_same ((State.select_seating _).trans (s.completeWrite_seating u))
    all_goals exact .same s

theorem execRecordBadKind_keepsPool (s : State) : KeepsPool s (execRecordBadKind s) := by
  unfold execRecordBadKind
  split
  · exact .same s
  · next f hf =>
    exact .due fun _ => .done_same ((State.finishRecord_seating _ f _ _).trans (s.fetchDone_seating f))

theorem execOutcomeWriteComplete_keepsPool (s : State) : KeepsPool s (execOutcomeWriteComplete s) := by
  unfold execOutcomeWriteComplete
  split
  · exact .same s
  · next r hr =>
    split
    · next n hn =>
      split
      · exact .done_same (s.completeOwn_seating r)
      · exact .done_same ((State.select_seating _).trans (s.completeOwn_seating r))
    all_goals exact .same s

theorem execDiscardedFetchComplete_keepsPool (s : State) : KeepsPool s (execDiscardedFetchComplete s) := by
  unfold execDiscardedFetchComplete
  split
  · exact .same s
  · next r hr =>
    split
    · exact .due fun _ => .done_same s.freePort_seating
    all_goals exact .same s

theorem execPublishingWriteComplete_keepsPool (s : State) : KeepsPool s (execPublishingWriteComplete s) := by
  unfold execPublishingWriteComplete
  split
  · exact .same s
  · next r hr =>
    split
    · next i hi =>
      split <;> exact .done_same (s.completeOwn_seating r)
    all_goals exact .same s

theorem execControlBlockWriteComplete_keepsPool (s : State) : KeepsPool s (execControlBlockWriteComplete s) := by
  unfold execControlBlockWriteComplete
  split
  · exact .same s
  · next r hr =>
    split
    · exact .done_same (s.completeOwn_seating r)
    all_goals exact .same s

theorem execConsumerIndexWrite_keepsPool (s : State) : KeepsPool s (execConsumerIndexWrite s) := by
  unfold execConsumerIndexWrite
  split
  · exact .same s
  · next u hu =>
    split
    · exact .done_same ((State.consumerWritten_seating _ _).trans (s.completeWrite_seating u))
    all_goals exact .same s

theorem execMinuteTick_keepsPool (order : List TickBlock) (s : State) : KeepsPool s (execMinuteTick order s) := by
  unfold execMinuteTick
  split
  · exact .refused s _
  · split
    · exact .same s
    · exact .done_same (State.minuteWork_seating _ _ _)

theorem execTime_keepsPool (order : List TickBlock) (s : State) : KeepsPool s (execTime order s) := by
  unfold execTime
  split
  · exact .refused s _
  · exact recordStep_keepsPool (fun s _ => s.timeRecord_seating _ _ _) s _ _

theorem execPreviewExhaustion_keepsPool (event : Nat) (s : State) : KeepsPool s (execPreviewExhaustion event s) := by
  unfold execPreviewExhaustion
  refine .due fun _ => ?_
  dsimp only
  split
  · exact .done_same rfl
  · exact .done_same (State.exhaust_seating _ _)

theorem execMinutesUsedRise_keepsPool (q : Fin 6) (s : State) : KeepsPool s (execMinutesUsedRise q s) := by
  unfold execMinutesUsedRise
  split
  · exact .same s
  · exact .done_same (State.rise_seating _ _ _)

theorem execKeyWaitExpiry_keepsPool (o : Fin 6) (s : State) : KeepsPool s (execKeyWaitExpiry o s) := by
  unfold execKeyWaitExpiry
  split
  · exact .same s
  · next hv => exact .due fun _ => .done_same (State.rephase_seating hv _ _)

theorem execSettingsReadComplete_keepsPool (s : State) : KeepsPool s (execSettingsReadComplete s) := by
  unfold execSettingsReadComplete
  split
  · exact .done_same s.settingsMount_seating
  all_goals exact .same s

theorem execJournalMount_keepsPool (s : State) : KeepsPool s (execJournalMount s) := by
  unfold execJournalMount
  split
  · exact .done_same s.journalMount_seating
  all_goals exact .same s

theorem execPageProgramComplete_keepsPool (s : State) : KeepsPool s (execPageProgramComplete s) := by
  unfold execPageProgramComplete
  split
  · exact .done_same rfl
  all_goals exact .same s

theorem execEraseComplete_keepsPool (s : State) : KeepsPool s (execEraseComplete s) := by
  unfold execEraseComplete
  split
  · exact .done_same (State.retarget_seating _)
  all_goals exact .same s

theorem execSettingsRewriteStepComplete_keepsPool (s : State) : KeepsPool s (execSettingsRewriteStepComplete s) := by
  unfold execSettingsRewriteStepComplete
  split
  · exact .done_same rfl
  · exact .done_same (s.pageWritten_seating _)
  all_goals exact .same s

/-! ### Every command, every step -/

/-- R58 to R60: every command keeps outputs and contexts in agreement, and one context to a service and window. -/
theorem exec_keepsPool (c : Instr) (s : State) : KeepsPool s (exec c s) := by
  cases c with
  | powerGood => exact execPowerGood_keepsPool s
  | powerLoss remains => exact execPowerLoss_keepsPool remains s
  | linkReset c => exact execLinkReset_keepsPool c s
  | configImageReadComplete => exact execConfigImageReadComplete_keepsPool s
  | upstreamRequest r => exact execUpstreamRequest_keepsPool r s
  | passRequestComplete => exact execPassRequestComplete_keepsPool s
  | cellArrival => exact execCellArrival_keepsPool s
  | silenceTimerExpiry w => exact .due fun _ => .done_same (s.fallSilent_seating w)
  | cellRead x => exact execCellRead_keepsPool x s
  | paceWindowOpen => exact .due fun _ => .done_same s.openPace_seating
  | ownWriteComplete => exact execOwnWriteComplete_keepsPool s
  | slotTake => exact execSlotTake_keepsPool s
  | recordBadKind => exact execRecordBadKind_keepsPool s
  | outcomeWriteComplete => exact execOutcomeWriteComplete_keepsPool s
  | time order => exact execTime_keepsPool order s
  | oneSecondTick => exact .due fun _ => .done_same s.secondTick_seating
  | previewExhaustion event => exact execPreviewExhaustion_keepsPool event s
  | minutesUsedRise q => exact execMinutesUsedRise_keepsPool q s
  | minuteTick order => exact execMinuteTick_keepsPool order s
  | services => exact recordStep_keepsPool (fun s _ => s.servicesRecord_seating _ _) s _ _
  | events => exact recordStep_keepsPool (fun s f => s.eventsRecord_seating f) s _ _
  | tuneView => exact Effect.KeepsPool.recordStep (fun _ _ hs => State.tuneView_sound hs _) s _ _
  | tuneStage => exact Effect.KeepsPool.recordStep (fun _ _ hs => State.tuneStage_sound hs _) s _ _
  | release => exact Effect.KeepsPool.recordStep (fun _ _ hs => State.release_sound hs _) s _ _
  | keyWaitExpiry o => exact execKeyWaitExpiry_keepsPool o s
  | stagedLifetimeExpiry c => exact .due fun h => .done fun hs => State.freeContext_sound hs (State.stagedDue_inactive h)
  | key u => exact recordStep_keepsPool (fun s _ => s.keyRecord_seating _ _) s _ _
  | ageingExpiry c p => exact .due fun _ => .done_same (s.discardHalf_seating c p)
  | buy => exact recordStep_keepsPool (fun s _ => s.buyRecord_seating _) s _ _
  | rights u => exact recordStep_keepsPool (fun s _ => s.rightsRecord_seating _ _) s _ _
  | pinUnlockEvent => exact recordStep_keepsPool (fun s _ => s.pinUnlockEvent_seating _) s _ _
  | pinUnlockPeriod => exact recordStep_keepsPool (fun s _ => s.pinUnlockPeriod_seating _) s _ _
  | pinChange => exact recordStep_keepsPool (fun s _ => s.pinChange_seating _) s _ _
  | lockoutTimerExpiry q => exact .due fun _ => .done_same rfl
  | periodUnlockExpiry o => exact .due fun _ => .done_same (s.endUnlock_seating o)
  | profile => exact recordStep_keepsPool (fun s _ => s.profileRecord_seating _) s _ _
  | powerStandby => exact Effect.KeepsPool.recordStep (fun _ _ hs => State.powerStandby_sound hs _) s _ _
  | powerWake => exact recordStep_keepsPool (fun s _ => s.powerWake_seating _) s _ _
  | publishingWriteComplete => exact execPublishingWriteComplete_keepsPool s
  | controlBlockWriteComplete => exact execControlBlockWriteComplete_keepsPool s
  | consumerIndexWrite => exact execConsumerIndexWrite_keepsPool s
  | mitigationDelayExpiry => exact .due fun _ => .done_same rfl
  | statisticsTimerExpiry => exact .due fun _ => .done_same (State.statsFallDue_seating _)
  | settingsReadComplete => exact execSettingsReadComplete_keepsPool s
  | journalMount => exact execJournalMount_keepsPool s
  | flashInhibitEnd => exact .due fun _ => .done_same rfl
  | pageProgramComplete => exact execPageProgramComplete_keepsPool s
  | eraseComplete => exact execEraseComplete_keepsPool s
  | meteringPaceElapsed => exact .due fun _ => .done_same rfl
  | settingsRewriteStepComplete => exact execSettingsRewriteStepComplete_keepsPool s
  | blinkCycle => exact .due fun _ => .done_same rfl
  | discardedFetchComplete => exact execDiscardedFetchComplete_keepsPool s

theorem State.idle_seating (s : State) : s.idle.seating = s.seating := by
  unfold State.idle
  split
  · rfl
  · split <;> rfl

/-- Settles O59, by cases of the step: an empty queue leaves the seating alone, and every command keeps it sound. -/
theorem stepKeepsPool : Obligations.StepKeepsPool := by
  unfold Obligations.StepKeepsPool
  intro s t hpool hplaces h
  have hs := (seating_sound_iff s).mpr ⟨hpool, hplaces⟩
  refine (seating_sound_iff t).mp ?_
  unfold step at h
  split at h
  · cases h
    rwa [State.idle_seating]
  · next c rest _ => exact exec_keepsPool c { s with pending := rest } t h hs

end Sys2Proof.Machine
end

section
/-! PROOFS. Where content keys come from (R93): operations that leave every key at its place or remove it. -/

namespace Sys2Proof.Machine

/-! ### Keys kept -/

/-- Every content key of a context stood in the same half before. -/
def Context.KeysFrom (x y : Context) : Prop :=
  ∀ (p : HalfParity) (h : Half), y.half p = some h → ∃ g : Half, x.half p = some g ∧ g.content = h.content

/-- R93: no content key has come to a half where it did not stand. -/
def KeysKept (s t : State) : Prop := ∀ c : Fin 8, (s.ctxs[c]).KeysFrom t.ctxs[c]

theorem Context.KeysFrom.of_halves {x y : Context} (he : y.even = x.even) (ho : y.odd = x.odd) : x.KeysFrom y := by
  intro p h hh
  cases p
  · exact ⟨h, he.symm.trans hh, rfl⟩
  · exact ⟨h, ho.symm.trans hh, rfl⟩

theorem Context.KeysFrom.refl (x : Context) : x.KeysFrom x := .of_halves rfl rfl

theorem Context.KeysFrom.trans {x y z : Context} (h : x.KeysFrom y) (k : y.KeysFrom z) : x.KeysFrom z := by
  intro p g hg
  obtain ⟨b, hb, hbg⟩ := k p g hg
  obtain ⟨a, ha, hab⟩ := h p b hb
  exact ⟨a, ha, hab.trans hbg⟩

/-- A context without halves has no key. -/
theorem Context.KeysFrom.of_none {x y : Context} (he : y.even = none) (ho : y.odd = none) : x.KeysFrom y := by
  intro p h hh
  cases p
  · cases he.symm.trans hh
  · cases ho.symm.trans hh

theorem VerdictFields.keysFrom {x y : Context} (h : VerdictFields x y) : x.KeysFrom y := by
  intro p b hb
  rcases (h.half p).cases with ⟨-, hy⟩ | ⟨a, b', hx, hy, hab⟩
  · cases hy.symm.trans hb
  · cases hy.symm.trans hb
    exact ⟨a, hx, (congrArg Half.content hab :)⟩

theorem KeysKept.of_ctxs {s t : State} (h : t.ctxs = s.ctxs) : KeysKept s t := by
  intro c
  rw [h]
  exact .refl _

theorem KeysKept.refl (s : State) : KeysKept s s := .of_ctxs rfl

theorem KeysKept.trans {s t u : State} (h : KeysKept s t) (k : KeysKept t u) : KeysKept s u :=
  fun c => (h c).trans (k c)

theorem KeysKept.foldl {α : Type} {f : State → α → State} (h : ∀ s a, KeysKept s (f s a)) (l : List α) (s : State) :
    KeysKept s (l.foldl f s) := by
  induction l generalizing s with
  | nil => exact .refl s
  | cons a l ih => exact (h s a).trans (ih (f s a))

/-- An operation done for each of a list leaves the contexts alone if each one does. -/
theorem State.foldl_ctxs {α : Type} {f : State → α → State} (h : ∀ s a, (f s a).ctxs = s.ctxs) (l : List α)
    (s : State) : (l.foldl f s).ctxs = s.ctxs := by
  induction l generalizing s with
  | nil => rfl
  | cons a l ih => exact (ih (f s a)).trans (h s a)

theorem Frame.ctxs {as : List Area} {s t : State} (h : Frame as s t) (hc : Area.contexts ∉ as) : t.ctxs = s.ctxs :=
  (h.only .contexts hc).1

theorem TickWork.keysKept {s t : State} (h : TickWork s t) : KeysKept s t := fun c => (h.ctxs c).keysFrom

theorem State.modCtx_keysKept {s : State} {c : Fin 8} {f : Context → Context} (h : (s.ctxs[c]).KeysFrom (f s.ctxs[c])) :
    KeysKept s (s.modCtx c f) := by
  intro d
  rw [State.modCtx_get]
  split
  · next hd => exact hd ▸ h
  · exact .refl _

/-- A half that keeps its content, or goes, brings no key. -/
theorem State.setHalf_keysKept {s : State} {l : HalfPlace} {x : Option Half}
    (h : ∀ g : Half, x = some g → ∃ a : Half, s.halfAt l = some a ∧ a.content = g.content) :
    KeysKept s (s.setHalf l x) := by
  obtain ⟨c, p⟩ := l
  refine State.modCtx_keysKept fun q g hg => ?_
  by_cases hq : q = p
  · subst hq
    exact h g ((Context.setHalf_same _ _ _).symm.trans hg)
  · exact ⟨g, (Context.setHalf_other _ _ hq).symm.trans hg, rfl⟩

theorem State.setHalf_none_keysKept (s : State) (l : HalfPlace) : KeysKept s (s.setHalf l none) :=
  State.setHalf_keysKept nofun

/-- A half changed in place, its content as it was. -/
theorem State.setHalf_map_keysKept (s : State) (l : HalfPlace) {f : Half → Half} (h : ∀ a, (f a).content = a.content) :
    KeysKept s (s.setHalf l ((s.halfAt l).map f)) := by
  refine State.setHalf_keysKept fun g hg => ?_
  obtain ⟨a, ha, rfl⟩ := Option.map_eq_some_iff.mp hg
  exact ⟨a, ha, (h a).symm⟩

/-! ### Operations that leave the contexts alone -/

section ContextsLeftAlone

variable (s : State)

@[simp] theorem State.evaluate_ctxs (c : GateCause) (d : Bool) (o : Fin 6) : (s.evaluate c d o).ctxs = s.ctxs :=
  (s.evaluate_work c d o).ctxs

@[simp] theorem State.evaluateAll_ctxs (c : GateCause) (d : Bool) (os : List (Fin 6)) :
    (s.evaluateAll c d os).ctxs = s.ctxs := (s.evaluateAll_work c d os).ctxs

@[simp] theorem State.evaluateTuned_ctxs (c : GateCause) (o : Fin 6) : (s.evaluateTuned c o).ctxs = s.ctxs :=
  (s.evaluateTuned_work c o).ctxs

@[simp] theorem State.evaluateChanged_ctxs (before : State) (d : Bool) (pick : Fin 8 → Bool) :
    (s.evaluateChanged before d pick).ctxs = s.ctxs := (s.evaluateChanged_work before d pick).ctxs

@[simp] theorem State.evaluateIfGoverningChanged_ctxs (m : Option (HalfParity × Nat)) (c : Fin 8) :
    (s.evaluateIfGoverningChanged m c).ctxs = s.ctxs := (s.evaluateIfGoverningChanged_work m c).ctxs

@[simp] theorem State.select_ctxs : s.select.ctxs = s.ctxs := s.select_frame.ctxs (by decide)

@[simp] theorem State.countCorrected_ctxs (c : Fin 8) : (s.countCorrected c).ctxs = s.ctxs :=
  (s.countCorrected_frame c).ctxs (by decide)

@[simp] theorem State.retarget_ctxs : s.retarget.ctxs = s.ctxs := by
  unfold State.retarget
  split <;> rfl

@[simp] theorem State.recheckTarget_ctxs : s.recheckTarget.ctxs = s.ctxs := by
  unfold State.recheckTarget
  split <;> rfl

/-! Reads and upstream requests (R3, R12, R17, R73 to R76) -/

@[simp] theorem State.takeRead_ctxs (o : Fin 6) (e : ReadEvent) : (s.takeRead o e).ctxs = s.ctxs :=
  (s.takeRead_reads o e).toFrame.ctxs (by decide)

@[simp] theorem State.answerRead_ctxs (o : Fin 6) (e : ReadEvent) (u : UpReq) (d : List Byte) :
    (s.answerRead o e u d).ctxs = s.ctxs := by
  simp [State.answerRead]

@[simp] theorem State.arrive_ctxs (r : Request) : (s.arrive r).ctxs = s.ctxs := by
  unfold State.arrive State.presentOrHold
  split <;> rfl

theorem State.upstream_ctxs (r : Request) : (s.upstream r).ctxs = s.ctxs := by
  unfold State.upstream
  split <;> simp

theorem State.passComplete_ctxs (u : UpReq) : (s.passComplete u).ctxs = s.ctxs := by
  unfold State.passComplete
  split <;> simp

@[simp] theorem State.arrival_ctxs (k : Fin 4) (good : Bool) : (s.arrival k good).ctxs = s.ctxs :=
  (s.arrival_frame k good).ctxs (by decide)

@[simp] theorem State.holdRead_ctxs (u : UpReq) : (s.holdRead u).ctxs = s.ctxs := by
  unfold State.holdRead
  split <;> rfl

/-! Guide Tables and the second tick (R37, R50, R53, R165) -/

@[simp] theorem State.noteJump_ctxs (clock : Nat) (offset : Int) : (s.noteJump clock offset).ctxs = s.ctxs :=
  (s.noteJump_work clock offset).ctxs

theorem State.clockSecond_ctxs : s.clockSecond.ctxs = s.ctxs := by
  unfold State.clockSecond
  dsimp only
  split <;> rfl

theorem State.meter_ctxs (q : Fin 6) : (s.meter q).ctxs = s.ctxs := by
  unfold State.meter
  dsimp only
  split
  · rfl
  · split <;> rfl

theorem State.secondTick_ctxs : s.secondTick.ctxs = s.ctxs :=
  (State.foldl_ctxs State.meter_ctxs _ _).trans (State.clockSecond_ctxs _)

theorem State.applyEvents_ctxs (f : Fetched) : (s.applyEvents f).1.ctxs = s.ctxs := by
  have hissue (t : State) (rs : List OwnReq) : (t.issueFor f rs).ctxs = t.ctxs := by
    unfold State.issueFor
    split <;> rfl
  simp only [State.applyEvents, State.followCurrent, State.evaluateAll_ctxs, hissue]
  rfl

theorem State.eventsRecord_ctxs (f : Fetched) : (s.eventsRecord f).1.ctxs = s.ctxs := by
  unfold State.eventsRecord
  split
  · next x hx =>
    unfold State.eventsCheck at hx
    split at hx
    · cases hx; rfl
    · split at hx
      · cases hx; rfl
      · split at hx
        · cases hx; rfl
        · split at hx <;> cases hx
          rfl
  · exact s.applyEvents_ctxs f

/-! The Profile Table (R155 to R166) -/

theorem State.comparePin_ctxs (q : Fin 6) (pin : List Byte) (kind : Nat) (o : Option Nat) :
    (s.comparePin q pin kind o).1.ctxs = s.ctxs := by
  unfold State.comparePin
  split
  · rfl
  · split
    · dsimp only [State.pinMatched]
      split <;> rfl
    · dsimp only [State.pinFailed]
      split
      · exact State.notify_ctxs _ _
      · rfl

/-- What follows a PIN comparison leaves the contexts alone if both do. -/
theorem afterPin_ctxs {s : State} {r : State × Option Outcome} {go : State → State × Outcome}
    (hr : r.1.ctxs = s.ctxs) (hgo : ∀ t : State, (go t).1.ctxs = t.ctxs) : (afterPin r go).1.ctxs = s.ctxs := by
  unfold afterPin
  split
  · exact hr
  · exact (hgo r.1).trans hr

theorem State.pinUnlockEvent_ctxs (op : PinOp) : (s.pinUnlockEvent op).1.ctxs = s.ctxs := by
  unfold State.pinUnlockEvent
  split
  · rfl
  · split
    · rfl
    · split
      · rfl
      · exact afterPin_ctxs (s.comparePin_ctxs _ _ _ _) fun t => State.evaluate_ctxs _ _ _ _

theorem State.pinUnlockPeriod_ctxs (op : PinOp) : (s.pinUnlockPeriod op).1.ctxs = s.ctxs := by
  unfold State.pinUnlockPeriod
  split
  · rfl
  · split
    · rfl
    · exact afterPin_ctxs (s.comparePin_ctxs _ _ _ _) fun t => State.evaluateTuned_ctxs _ _ _

theorem State.pinChange_ctxs (op : PinOp) : (s.pinChange op).1.ctxs = s.ctxs := by
  unfold State.pinChange
  split
  · rfl
  · split
    · rfl
    · split
      · rfl
      · exact afterPin_ctxs (s.comparePin_ctxs _ _ _ _) fun _ => rfl

theorem State.profileRecord_ctxs (op : ProfileOp) : (s.profileRecord op).1.ctxs = s.ctxs := by
  unfold State.profileRecord
  split
  · rfl
  · split
    · rfl
    · exact afterPin_ctxs (s.comparePin_ctxs _ _ _ _) fun t => State.evaluateAll_ctxs _ _ _ _

theorem State.rise_ctxs (q : Fin 6) (viewers : List (Fin 6)) : (s.rise q viewers).ctxs = s.ctxs := by
  have hwarn (t : State) : (t.warn q viewers).ctxs = t.ctxs := by
    unfold State.warn
    split <;> simp
  have hreached (t : State) : (t.budgetReached q).ctxs = t.ctxs := by
    unfold State.budgetReached
    split <;> simp
  unfold State.rise
  split <;> simp [hwarn, hreached]

/-! The Purse and Journal and the settings store (R140 to R150) -/

@[simp] theorem State.append_ctxs (e : Entry) : (s.append e).ctxs = s.ctxs := by
  have hposition (t : State) (n : Nat) : (t.followPosition n).ctxs = t.ctxs := by
    unfold State.followPosition
    split <;> simp
  have hcollect (t : State) (k : JournalKind) : (t.followCollect k).ctxs = t.ctxs := by
    cases k <;> simp [State.followCollect]
  simp [State.append, hposition, hcollect]

theorem State.pageWritten_ctxs (p : Fin 4) : (s.pageWritten p).ctxs = s.ctxs := by
  unfold State.pageWritten
  split
  · rfl
  · dsimp only
    split <;> rfl

theorem State.settingsMount_ctxs : s.settingsMount.ctxs = s.ctxs := by
  unfold State.settingsMount
  split
  · rfl
  · split
    · unfold State.settingsLoaded
      rfl
    · simp [State.settingsCorrupt]

/-! The Notice Writer (R183 to R186) -/

@[simp] theorem State.writeStats_ctxs : s.writeStats.ctxs = s.ctxs := by
  have houtput (t : State) (o : Fin 6) : (t.statsOutput o).ctxs = t.ctxs := by
    unfold State.statsOutput
    split <;> simp
  have hring (t : State) (k : Fin 4) : (t.statsRing k).ctxs = t.ctxs := by
    unfold State.statsRing
    split <;> simp
  simp only [State.writeStats, State.statsGuide, State.modGuideCounters_ctxs, State.notify_ctxs]
  exact (State.foldl_ctxs hring _ _).trans (State.foldl_ctxs houtput _ s)

theorem State.statsFallDue_ctxs : s.statsFallDue.ctxs = s.ctxs := by
  unfold State.statsFallDue
  split
  · rfl
  · split <;> simp

theorem State.consumerWritten_ctxs (r : Request) : (s.consumerWritten r).ctxs = s.ctxs := by
  unfold State.consumerWritten State.handConsumer
  split
  · rfl
  · unfold State.takeConsumer State.retryStats
    split <;> simp

/-! Power and part states (R17, R18, R191) -/

theorem State.loadImage_ctxs (i : Image) : (s.loadImage i).ctxs = s.ctxs :=
  State.foldl_ctxs State.arrive_ctxs _ _

theorem State.enterFault_ctxs : s.enterFault.ctxs = s.ctxs :=
  State.foldl_ctxs (fun s r => s.present_ctxs ⟨r, .plain, none, false⟩) _ _

theorem State.powerWake_ctxs (a : Nat) : (s.powerWake a).1.ctxs = s.ctxs := by
  unfold State.powerWake
  split
  · rfl
  · split <;> rfl

end ContextsLeftAlone

end Sys2Proof.Machine
end

section
/-! PROOFS. Where content keys come from (R93), continued: what the operations on contexts and halves make of the keys,
the commands one by one, and the obligation. -/

namespace Sys2Proof.Machine

/-! ### Contexts and halves -/

theorem Context.leave_keysFrom (c : Context) (o : Fin 6) (now : Nat) : c.KeysFrom (c.leave o now) := by
  obtain ⟨-, -, heven, hodd, -, -⟩ := c.leave_works o now
  exact .of_halves heven hodd

theorem Context.join_keysFrom (c : Context) (o : Fin 6) : c.KeysFrom (c.join o) := by
  unfold Context.join
  split <;> exact .of_halves rfl rfl

theorem Context.restaged_keysFrom (c : Context) (now : Nat) : c.KeysFrom (c.restaged now) := by
  unfold Context.restaged
  split <;> exact .of_halves rfl rfl

theorem Context.follow_keysFrom (c : Context) (e : MapEntry) : c.KeysFrom (c.follow e) := by
  unfold Context.follow
  split
  · exact .refl c
  all_goals split <;> exact .of_halves rfl rfl

/-- R63, R100: a context that is obtained has the keys it had, or none. -/
theorem Obtained.keysKept {s t : State} {e : MapEntry} {w : Fin 4} {join : Context → Context} {life : Life}
    {ms : List (Fin 6)} {c : Fin 8} {m : Means} (h : Obtained s e w join life ms t c m)
    (hjoin : ∀ x : Context, x.KeysFrom (join x)) : KeysKept s t := by
  intro d
  by_cases hd : d = c
  · subst hd
    cases hfind : s.findContext e.service w.val with
    | some x =>
      obtain ⟨-, -, -, hctx⟩ := h.joined x hfind
      exact hctx ▸ hjoin _
    | none =>
      obtain ⟨hctx, -⟩ := h.taken hfind
      exact hctx ▸ .of_none rfl rfl
  · exact h.others d hd ▸ .refl _

theorem State.leaveContext_keysKept (s : State) (o : Fin 6) (c : Fin 8) : KeysKept s (s.leaveContext o c) :=
  State.modCtx_keysKept (Context.leave_keysFrom _ o _)

theorem State.freeContext_keysKept (s : State) (c : Fin 8) : KeysKept s (s.freeContext c) :=
  (State.modCtx_keysKept (.of_none rfl rfl)).trans (.of_ctxs (s.freeContext_ctxs c))

theorem State.applyView_keysKept (s : State) (o : Fin 6) (e : MapEntry) (w : Fin 4) :
    KeysKept s (s.applyView o e w).1 := by
  unfold State.applyView
  split
  · exact .refl s
  · split
    · exact .refl s
    · next u c m hu =>
      have hobtained := State.obtainBy_obtained ((s.obtainView_eq o e w).symm.trans hu)
      have hleave : KeysKept u (u.leaveOld o (s.outs[o]).tune) := by
        unfold State.leaveOld
        split
        · exact .refl u
        · exact u.leaveContext_keysKept o _
      exact ((hobtained.keysKept fun x => x.join_keysFrom o).trans hleave).trans
        (.of_ctxs (State.evaluate_ctxs _ _ _ _))

theorem State.tuneView_keysKept (s : State) (op : TuneOp) : KeysKept s (s.tuneView op).1 := by
  unfold State.tuneView
  split
  · exact .refl s
  · split
    · exact .refl s
    · exact s.applyView_keysKept _ _ _

theorem State.tuneStage_keysKept (s : State) (op : TuneOp) : KeysKept s (s.tuneStage op).1 := by
  unfold State.tuneStage
  split
  · exact .refl s
  · next e w _ =>
    split
    · exact .refl s
    · next hu =>
      exact (State.obtainBy_obtained ((s.obtainStage_eq e w).symm.trans hu)).keysKept fun x => x.restaged_keysFrom _

theorem State.release_keysKept (s : State) (n : Nat) : KeysKept s (s.release n).1 := by
  unfold State.release
  split
  · exact .refl s
  · split
    · dsimp only [State.moveToIdle]
      split
      · exact .refl s
      · exact s.leaveContext_keysKept _ _
    · exact .refl s

theorem State.applyItem_keysKept {s : State} {it : ServiceItem} {r : State × Option Nat} (h : s.applyItem it = some r) :
    KeysKept s r.1 := by
  cases it with
  | add e =>
    obtain ⟨t, ht, rfl⟩ := Option.map_eq_some_iff.mp h
    intro c
    rw [(State.addService_added ht).ctxs, Fin.getElem_fin, Fin.getElem_fin, Vector.getElem_map]
    exact Context.follow_keysFrom _ e
  | remove svc =>
    simp only [State.applyItem] at h
    split at h <;> cases h <;> exact .of_ctxs rfl
  | unknown _ =>
    cases h
    exact .refl s

theorem State.applyItems_keysKept (its : List ServiceItem) (s : State) : KeysKept s (s.applyItems its).state := by
  induction its generalizing s with
  | nil => exact .refl s
  | cons it its ih =>
    unfold State.applyItems
    split
    · exact .refl s
    · next h => exact (State.applyItem_keysKept h).trans (ih _)

theorem State.servicesRecord_keysKept (s : State) (version : Nat) (items : List ServiceItem) :
    KeysKept s (s.servicesRecord version items).1 := by
  unfold State.servicesRecord
  split
  · exact .of_ctxs rfl
  · exact (State.applyItems_keysKept items s).trans (.of_ctxs (State.evaluateAll_ctxs _ _ _ _))

/-- R80, R100: with every context FREE there is no key. -/
theorem KeysKept.of_free {s t : State} (h : ∀ c : Fin 8, t.ctxs[c] = Context.free) : KeysKept s t :=
  fun c => h c ▸ .of_none rfl rfl

theorem State.powerStandby_keysKept (s : State) (a : Nat) : KeysKept s (s.powerStandby a).1 := by
  have hforce (t : State) : t.forceSettings.ctxs = t.ctxs := by
    unfold State.forceSettings
    split <;> rfl
  unfold State.powerStandby
  split
  · exact .refl s
  · split
    · exact .refl s
    · refine .of_free fun c => ?_
      simp [State.enterStandby, hforce, State.clearPool_eq]

theorem State.linkReset_keysKept {s : State} (h : s.part.running = true) (c : Bool) : KeysKept s (s.linkReset c) := by
  rw [State.linkReset_eq h]
  exact .of_free fun d => by simp [State.heldAnswered, State.linkRestarted, State.linkCleared]

theorem State.powerOff_keysKept (s t : State) : KeysKept s t.powerOff := .of_free reset_ctxs

/-! ### The Key Store and the Path Unit (R9, R93, R95, R97) -/

theorem State.discardHalf_keysKept (s : State) (c : Fin 8) (p : HalfParity) : KeysKept s (s.discardHalf c p) :=
  (s.setHalf_none_keysKept (c, p)).trans (.of_ctxs (State.evaluateIfGoverningChanged_ctxs _ _ _))

theorem State.keyFault_keysKept (s : State) (c : Fin 8) (p : HalfParity) (compare : Bool) :
    KeysKept s (s.keyFault c p compare) :=
  (s.setHalf_none_keysKept (c, p)).trans (.of_ctxs (by simp [State.keyFault]))

theorem State.eccCheck_keysKept (s : State) (c : Fin 8) (p : HalfParity) (compare : Bool) (f : EccFinding) :
    KeysKept s (s.eccCheck c p compare f).1 := by
  cases f with
  | clean => exact .refl s
  | singleBit => exact .of_ctxs (s.countCorrected_ctxs c)
  | uncorrectable => exact s.keyFault_keysKept c p compare

theorem State.flipIfNew_keysKept (s : State) (c : Fin 8) (pp : PacketParity) : KeysKept s (s.flipIfNew c pp) := by
  unfold State.flipIfNew
  split
  · exact .refl s
  · exact .refl s
  · split
    · exact .refl s
    · exact (State.modCtx_keysKept (.of_halves rfl rfl)).trans (.of_ctxs (State.evaluateAll_ctxs _ _ _ _))

theorem State.readBlank_ctxs (s : State) (x : Reading) (r : BlankReason) : (s.readBlank x r).state.ctxs = s.ctxs :=
  s.count_ctxs _ _

theorem State.countDelivery_ctxs (s : State) (o : Fin 6) (clear : Bool) : (s.countDelivery o clear).ctxs = s.ctxs :=
  (s.countDelivery_frame o clear).ctxs (by decide)

theorem State.readForeign_ctxs (s : State) (x : Reading) (pp : PacketParity) :
    (s.readForeign x pp).state.ctxs = s.ctxs := by
  unfold State.readForeign
  split
  · exact s.readBlank_ctxs x _
  all_goals
    split
    · exact s.readBlank_ctxs x _
    · exact s.countDelivery_ctxs _ _

theorem State.readScrambled_keysKept (s : State) (x : Reading) (c : Fin 8) (p : HalfParity) (ecc : EccFinding) :
    KeysKept s (s.readScrambled x c p ecc).state := by
  have hcheck := s.eccCheck_keysKept c p false ecc
  unfold State.readScrambled
  split
  · exact .of_ctxs (s.readBlank_ctxs x _)
  · split
    · next h =>
      rw [h] at hcheck
      exact hcheck.trans (.of_ctxs (State.readBlank_ctxs _ x _))
    · next h =>
      rw [h] at hcheck
      exact hcheck.trans (.of_ctxs (State.countDelivery_ctxs _ _ _))

theorem State.readListed_keysKept (s : State) (x : Reading) (c : Fin 8) (pp : PacketParity) (ecc : EccFinding) :
    KeysKept s (s.readListed x c pp ecc).state := by
  unfold State.readListed
  split
  · exact .of_ctxs (s.readBlank_ctxs x _)
  · split
    · exact .of_ctxs (s.countDelivery_ctxs _ _)
    · exact .of_ctxs (s.readBlank_ctxs x _)
    · exact s.readScrambled_keysKept x c _ ecc

theorem State.cellProcedure_keysKept (s : State) (x : Reading) (ecc : EccFinding) :
    KeysKept s (s.cellProcedure x ecc).state := by
  unfold State.cellProcedure
  dsimp only
  split
  · exact .of_ctxs (s.readBlank_ctxs x _)
  · split
    · exact .of_ctxs (s.readBlank_ctxs x _)
    · split
      · exact .of_ctxs (s.readForeign_ctxs x _)
      · split
        · exact .of_ctxs (s.readBlank_ctxs x _)
        · exact (s.flipIfNew_keysKept _ _).trans (State.readListed_keysKept _ x _ _ ecc)

theorem State.cellRead_keysKept (s : State) (u : UpReq) (o : Fin 6) (ecc : EccFinding) (atOnce : Bool) :
    KeysKept s (s.cellRead u o ecc atOnce) := by
  unfold State.cellRead
  dsimp only
  split
  · exact .of_ctxs (by simp [State.partialRead])
  · split
    · exact .of_ctxs (by simp)
    · have hjudged : KeysKept s (s.freePort.cellProcedure (s.reading u o) ecc).state :=
        s.freePort.cellProcedure_keysKept _ ecc
      split
      · exact hjudged.trans (.of_ctxs (State.answerRead_ctxs _ _ _ _ _))
      · exact hjudged.trans (.of_ctxs rfl)

/-! ### Verdicts, previews, purchases, rights, the minute tick -/

theorem State.exhaust_keysKept (s : State) (x : PreviewEntry) : KeysKept s (s.exhaust x) := by
  have hend (t : State) (o : Fin 6) : (t.previewEnd o x.event x.seconds).ctxs = t.ctxs := by
    unfold State.previewEnd
    split <;> simp
  have hends (t : State) (cs : List (Fin 8)) : (t.previewEnds cs x.event x.seconds).ctxs = t.ctxs :=
    State.foldl_ctxs (fun u _ => State.foldl_ctxs hend _ u) cs t
  refine (KeysKept.foldl (f := State.exhaustHalf) (fun t l => t.setHalf_map_keysKept l fun _ => rfl)
    (s.exhaustedHalves x.event x.seconds) s).trans (.of_ctxs ?_)
  simp [State.exhaust, hends]

theorem State.recomputeAndEvaluate_keysKept (s : State) (d : Bool) : KeysKept s (s.recomputeAndEvaluate d) :=
  (s.recompute_work allHalves).tick.keysKept.trans (.of_ctxs (State.evaluateChanged_ctxs _ _ _ _))

theorem State.purchase_keysKept (s : State) (o : Fin 6) (e : EventCriteria) (price : Nat) :
    KeysKept s (s.purchase o e price).1 := by
  simp only [State.purchase]
  refine KeysKept.trans (.of_ctxs ?_) (State.recomputeAndEvaluate_keysKept _ false)
  rw [State.notify_ctxs]
  exact s.append_ctxs _

theorem State.buyPriced_keysKept (s : State) (o : Fin 6) (e : EventCriteria) (price confirm : Nat) :
    KeysKept s (s.buyPriced o e price confirm).1 := by
  unfold State.buyPriced
  split
  · exact .refl s
  · split
    · exact .refl s
    · split
      · exact .refl s
      · split
        · exact .refl s
        · exact s.purchase_keysKept o e price

theorem State.buyRecord_keysKept (s : State) (op : BuyOp) : KeysKept s (s.buyRecord op).1 := by
  unfold State.buyRecord
  split
  · exact .refl s
  · next o _ =>
    split
    · exact .refl s
    · unfold State.buyOffered
      split
      · exact .refl s
      · split
        · exact .refl s
        · split
          · exact .refl s
          · split
            · exact .refl s
            · have hpin : (s.purchasePin o op).1.ctxs = s.ctxs := by
                unfold State.purchasePin
                split
                · exact s.comparePin_ctxs _ _ _ _
                · rfl
              unfold afterPin
              split
              · exact .of_ctxs hpin
              · exact (KeysKept.of_ctxs hpin).trans (State.buyPriced_keysKept _ _ _ _ _)

theorem State.applyRight_ctxs (op : RightsOp) (s : State) (it : RightsItem) : (s.applyRight op it).ctxs = s.ctxs := by
  cases it with
  | topup a => exact s.append_ctxs _
  | collect u => exact s.append_ctxs _
  | pinReset q pin =>
    simp only [State.applyRight, State.pinReset]
    split <;> rfl
  | _ => rfl

theorem State.rightsFollow_keysKept (s : State) (region : Bool) : KeysKept s (s.rightsFollow region) := by
  refine (s.recompute_work allHalves).tick.keysKept.trans (.of_ctxs ?_)
  cases region <;> simp [State.rightsFollow]

theorem State.rightsRecord_keysKept (s : State) (pass : Bool) (op : RightsOp) :
    KeysKept s (s.rightsRecord pass op).1 := by
  unfold State.rightsRecord
  split
  · exact .refl s
  · refine KeysKept.trans (.of_ctxs ?_) (State.rightsFollow_keysKept _ _)
    rw [State.notify_ctxs]
    exact State.foldl_ctxs (State.applyRight_ctxs op) op.items s

theorem State.minuteWork_keysKept (s : State) (before : List CurrentOf) (order : List TickBlock) :
    KeysKept s (s.minuteWork before order) :=
  (s.blocksWorked_tick before order).keysKept.trans (.of_ctxs (State.deferredNotices_work _).ctxs)

theorem State.timeRecord_keysKept (s : State) (order : List TickBlock) (clock : Nat) (offset : Int) :
    KeysKept s (s.timeRecord order clock offset).1 := by
  have hset : (s.timeSet clock offset).ctxs = s.ctxs := (s.timeSet_frame clock offset).ctxs (by decide)
  unfold State.timeRecord
  split
  · exact .of_ctxs rfl
  · exact (KeysKept.of_ctxs hset).trans (State.timeEffect_tick s order clock offset).keysKept

theorem State.journalMount_keysKept (s : State) : KeysKept s s.journalMount := by
  have hstart (t : State) : t.startStatistics.ctxs = t.ctxs := by
    unfold State.startStatistics
    split <;> rfl
  refine KeysKept.trans (.of_ctxs ?_) (State.budgetDateCheck_block _).tick.keysKept
  rw [State.notify_ctxs, hstart]
  exact State.retarget_ctxs _

/-! ### How a command's outcome keeps keys -/

/-- If a command answers a next state, every content key in it stood at its place before. -/
def KeepsKeys (s : State) (r : Result) : Prop := ∀ t : State, r = .next t → KeysKept s t

theorem KeepsKeys.same (s : State) : KeepsKeys s (.next s) := by
  rintro t ⟨⟩
  exact .refl s

theorem KeepsKeys.refused (s : State) (x : Refusal) : KeepsKeys s (.refused x) := by
  rintro t ⟨⟩

theorem KeepsKeys.fault (s : State) (x : Fault) : KeepsKeys s (.fault x) := by
  rintro t ⟨⟩

theorem KeepsKeys.done {s t : State} (h : KeysKept s t) : KeepsKeys s (Machine.done t) := by
  rintro u ⟨⟩
  exact h.trans (.of_ctxs t.settle_ctxs)

theorem KeepsKeys.done_same {s t : State} (h : t.ctxs = s.ctxs) : KeepsKeys s (Machine.done t) := .done (.of_ctxs h)

/-- A command that acts when it is due and otherwise changes nothing. -/
theorem KeepsKeys.due {s : State} {p : Prop} [Decidable p] {r : Result} (h : p → KeepsKeys s r) :
    KeepsKeys s (if p then r else .next s) := by
  split
  · next hp => exact h hp
  · exact .same s

theorem State.fetchDone_ctxs (s : State) (f : Fetched) : (s.fetchDone f).ctxs = s.ctxs := by
  unfold State.fetchDone
  split <;> rfl

theorem State.finishRecord_ctxs (s : State) (f : Fetched) (ws : List OwnReq) (out : Outcome) :
    (s.finishRecord f ws out).ctxs = s.ctxs := by
  unfold State.finishRecord
  split
  · rfl
  · exact State.select_ctxs _

theorem State.carryOut_keysKept {effect : Effect} (h : ∀ (s : State) (f : Fetched), KeysKept s (effect s f).1)
    (s : State) (f : Fetched) (k : Kind) : KeysKept s (s.carryOut f k effect).1 := by
  unfold State.carryOut
  split
  · refine .of_ctxs ?_
    cases k <;> cases f.attached <;> rfl
  · split
    · exact .refl s
    · exact h s f

/-- R27 to R32: a record command of a block whose effect keeps keys. -/
theorem recordStep_keepsKeys {effect : Effect} (h : ∀ (s : State) (f : Fetched), KeysKept s (effect s f).1) (s : State)
    (k : Kind) (mine : Record → Bool) : KeepsKeys s (recordStep s k mine effect) := by
  unfold recordStep State.processRecord
  cases s.fetched with
  | none => exact .same s
  | some f =>
    dsimp only
    split
    · next hu =>
      split at hu <;> cases hu
      exact .same s
    · next hu =>
      split at hu <;> cases hu
      exact .done (((KeysKept.of_ctxs (s.fetchDone_ctxs f)).trans (State.carryOut_keysKept h _ f k)).trans
        (.of_ctxs (State.finishRecord_ctxs _ f _ _)))

/-- A record command of a block whose effect leaves the contexts alone. -/
theorem recordStep_keepsKeys_same {effect : Effect} (h : ∀ (s : State) (f : Fetched), (effect s f).1.ctxs = s.ctxs)
    (s : State) (k : Kind) (mine : Record → Bool) : KeepsKeys s (recordStep s k mine effect) :=
  recordStep_keepsKeys (fun s f => .of_ctxs (h s f)) s k mine

/-- R85: a KEY record whose integrity check failed brings no key. -/
theorem State.keyRecord_failed (s : State) {u : KeyUnwrap} (h : u.pass = false) (r : Record) :
    s.keyRecord u r = (s, answered .badCheck) := by
  simp [State.keyRecord, keyChecks, h]

/-! ### The commands, one by one -/

theorem execPowerGood_keepsKeys (s : State) : KeepsKeys s (execPowerGood s) := by
  unfold execPowerGood
  split
  · exact .same s
  · exact .done (s.powerOff_keysKept s)

theorem execPowerLoss_keepsKeys (remains : List Byte) (s : State) : KeepsKeys s (execPowerLoss remains s) := by
  unfold execPowerLoss
  split
  · exact .same s
  · split
    · exact .refused s _
    · next t ht =>
      rintro u ⟨⟩
      unfold State.losePower at ht
      split at ht
      · cases ht
        exact s.powerOff_keysKept s
      · split at ht
        · cases ht
          exact s.powerOff_keysKept s
        · split at ht <;> cases ht
          exact s.powerOff_keysKept _

theorem execLinkReset_keepsKeys (c : Bool) (s : State) : KeepsKeys s (execLinkReset c s) := by
  unfold execLinkReset
  split
  · exact .same s
  · split
    · exact .same s
    · exact .done_same rfl
    all_goals next hp => exact .done (State.linkReset_keysKept (by rw [hp]; rfl) c)

theorem execConfigImageReadComplete_keepsKeys (s : State) : KeepsKeys s (execConfigImageReadComplete s) := by
  unfold execConfigImageReadComplete
  split
  · split
    · exact .done_same (s.loadImage_ctxs _)
    · exact .done_same s.enterFault_ctxs
  all_goals exact .same s

theorem execUpstreamRequest_keepsKeys (r : Request) (s : State) : KeepsKeys s (execUpstreamRequest r s) := by
  unfold execUpstreamRequest
  split
  · exact .fault s _
  · split
    · exact .refused s _
    · exact .due fun _ => .done_same (s.upstream_ctxs r)

theorem execPassRequestComplete_keepsKeys (s : State) : KeepsKeys s (execPassRequestComplete s) := by
  unfold execPassRequestComplete
  split
  · exact .same s
  · exact .due fun _ => .done_same (s.passComplete_ctxs _)

theorem execCellArrival_keepsKeys (s : State) : KeepsKeys s (execCellArrival s) := by
  unfold execCellArrival
  split
  · exact .same s
  · split
    · exact .done_same (by simp)
    all_goals exact .same s

theorem execCellRead_keepsKeys (x : ReadStep) (s : State) : KeepsKeys s (execCellRead x s) := by
  have hcomplete (ecc : EccFinding) (atOnce : Bool) : KeepsKeys s (s.completeRead ecc atOnce) := by
    unfold State.completeRead
    split
    · exact .same s
    · split
      · exact .done (s.cellRead_keysKept _ _ _ _)
      all_goals exact .same s
  cases x with
  | whole ecc => exact hcomplete ecc true
  | judged ecc => exact hcomplete ecc false
  | answered k =>
    simp only [execCellRead, State.leaveRead]
    split
    · exact .same s
    · exact .done_same (State.answerRead_ctxs _ _ _ _ _)

theorem execOwnWriteComplete_keepsKeys (s : State) : KeepsKeys s (execOwnWriteComplete s) := by
  unfold execOwnWriteComplete
  split
  · exact .same s
  · exact .due fun _ => .done_same rfl

theorem execSlotTake_keepsKeys (s : State) : KeepsKeys s (execSlotTake s) := by
  unfold execSlotTake
  split
  · exact .same s
  · split
    · exact .done_same (by simp)
    all_goals exact .same s

theorem execRecordBadKind_keepsKeys (s : State) : KeepsKeys s (execRecordBadKind s) := by
  unfold execRecordBadKind
  split
  · exact .same s
  · exact .due fun _ => .done_same ((State.finishRecord_ctxs _ _ _ _).trans (s.fetchDone_ctxs _))

theorem execOutcomeWriteComplete_keepsKeys (s : State) : KeepsKeys s (execOutcomeWriteComplete s) := by
  unfold execOutcomeWriteComplete
  split
  · exact .same s
  · split
    · split
      · exact .done_same rfl
      · exact .done_same (State.select_ctxs _)
    all_goals exact .same s

theorem execDiscardedFetchComplete_keepsKeys (s : State) : KeepsKeys s (execDiscardedFetchComplete s) := by
  unfold execDiscardedFetchComplete
  split
  · exact .same s
  · split
    · exact .due fun _ => .done_same rfl
    all_goals exact .same s

theorem execPublishingWriteComplete_keepsKeys (s : State) : KeepsKeys s (execPublishingWriteComplete s) := by
  unfold execPublishingWriteComplete
  split
  · exact .same s
  · split
    · split <;> exact .done_same rfl
    all_goals exact .same s

theorem execControlBlockWriteComplete_keepsKeys (s : State) : KeepsKeys s (execControlBlockWriteComplete s) := by
  unfold execControlBlockWriteComplete
  split
  · exact .same s
  · split
    · exact .done_same rfl
    all_goals exact .same s

theorem execConsumerIndexWrite_keepsKeys (s : State) : KeepsKeys s (execConsumerIndexWrite s) := by
  unfold execConsumerIndexWrite
  split
  · exact .same s
  · split
    · exact .done_same ((State.consumerWritten_ctxs _ _).trans (s.completeWrite_ctxs _))
    all_goals exact .same s

theorem execMinuteTick_keepsKeys (order : List TickBlock) (s : State) : KeepsKeys s (execMinuteTick order s) := by
  unfold execMinuteTick
  split
  · exact .refused s _
  · split
    · exact .same s
    · exact .done (s.tickTaken.minuteWork_keysKept _ order)

theorem execTime_keepsKeys (order : List TickBlock) (s : State) : KeepsKeys s (execTime order s) := by
  unfold execTime
  split
  · exact .refused s _
  · exact recordStep_keepsKeys (fun s _ => s.timeRecord_keysKept _ _ _) s _ _

theorem execPreviewExhaustion_keepsKeys (event : Nat) (s : State) : KeepsKeys s (execPreviewExhaustion event s) := by
  unfold execPreviewExhaustion
  refine .due fun _ => ?_
  dsimp only
  split
  · exact .done_same rfl
  · exact .done (State.exhaust_keysKept { s with ticks := _ } _)

theorem execMinutesUsedRise_keepsKeys (q : Fin 6) (s : State) : KeepsKeys s (execMinutesUsedRise q s) := by
  unfold execMinutesUsedRise
  split
  · exact .same s
  · exact .done_same (State.rise_ctxs _ _ _)

theorem execKeyWaitExpiry_keepsKeys (o : Fin 6) (s : State) : KeepsKeys s (execKeyWaitExpiry o s) := by
  unfold execKeyWaitExpiry
  split
  · exact .same s
  · exact .due fun _ => .done_same ((s.stall_frame o _).ctxs (by decide))

theorem execSettingsReadComplete_keepsKeys (s : State) : KeepsKeys s (execSettingsReadComplete s) := by
  unfold execSettingsReadComplete
  split
  · exact .done_same s.settingsMount_ctxs
  all_goals exact .same s

theorem execJournalMount_keepsKeys (s : State) : KeepsKeys s (execJournalMount s) := by
  unfold execJournalMount
  split
  · exact .done s.journalMount_keysKept
  all_goals exact .same s

theorem execPageProgramComplete_keepsKeys (s : State) : KeepsKeys s (execPageProgramComplete s) := by
  unfold execPageProgramComplete
  split
  · exact .done_same rfl
  all_goals exact .same s

theorem execEraseComplete_keepsKeys (s : State) : KeepsKeys s (execEraseComplete s) := by
  unfold execEraseComplete
  split
  · exact .done_same (State.retarget_ctxs _)
  all_goals exact .same s

theorem execSettingsRewriteStepComplete_keepsKeys (s : State) : KeepsKeys s (execSettingsRewriteStepComplete s) := by
  unfold execSettingsRewriteStepComplete
  split
  · exact .done_same rfl
  · exact .done_same (s.pageWritten_ctxs _)
  all_goals exact .same s

/-! ### Every command -/

/-- R93: a KEY record whose integrity check passed apart, no command brings a content key. -/
theorem exec_keepsKeys (c : Instr) (hc : ∀ u : KeyUnwrap, c = .key u → u.pass = false) (s : State) :
    KeepsKeys s (exec c s) := by
  cases c with
  | powerGood => exact execPowerGood_keepsKeys s
  | powerLoss remains => exact execPowerLoss_keepsKeys remains s
  | linkReset c => exact execLinkReset_keepsKeys c s
  | configImageReadComplete => exact execConfigImageReadComplete_keepsKeys s
  | upstreamRequest r => exact execUpstreamRequest_keepsKeys r s
  | passRequestComplete => exact execPassRequestComplete_keepsKeys s
  | cellArrival => exact execCellArrival_keepsKeys s
  | silenceTimerExpiry w => exact .due fun _ => .done_same (by simp [State.fallSilent])
  | cellRead x => exact execCellRead_keepsKeys x s
  | paceWindowOpen => exact .due fun _ => .done_same rfl
  | ownWriteComplete => exact execOwnWriteComplete_keepsKeys s
  | slotTake => exact execSlotTake_keepsKeys s
  | recordBadKind => exact execRecordBadKind_keepsKeys s
  | outcomeWriteComplete => exact execOutcomeWriteComplete_keepsKeys s
  | time order => exact execTime_keepsKeys order s
  | oneSecondTick => exact .due fun _ => .done_same s.secondTick_ctxs
  | previewExhaustion event => exact execPreviewExhaustion_keepsKeys event s
  | minutesUsedRise q => exact execMinutesUsedRise_keepsKeys q s
  | minuteTick order => exact execMinuteTick_keepsKeys order s
  | services => exact recordStep_keepsKeys (fun s _ => s.servicesRecord_keysKept _ _) s _ _
  | events => exact recordStep_keepsKeys_same (fun s f => s.eventsRecord_ctxs f) s _ _
  | tuneView => exact recordStep_keepsKeys (fun s _ => s.tuneView_keysKept _) s _ _
  | tuneStage => exact recordStep_keepsKeys (fun s _ => s.tuneStage_keysKept _) s _ _
  | release => exact recordStep_keepsKeys (fun s _ => s.release_keysKept _) s _ _
  | keyWaitExpiry o => exact execKeyWaitExpiry_keepsKeys o s
  | stagedLifetimeExpiry c => exact .due fun _ => .done (s.freeContext_keysKept c)
  | key u =>
    refine recordStep_keepsKeys (fun s f => ?_) s _ _
    rw [State.keyRecord_failed s (hc u rfl)]
    exact .refl s
  | ageingExpiry c p => exact .due fun _ => .done (s.discardHalf_keysKept c p)
  | buy => exact recordStep_keepsKeys (fun s _ => s.buyRecord_keysKept _) s _ _
  | rights u => exact recordStep_keepsKeys (fun s _ => s.rightsRecord_keysKept _ _) s _ _
  | pinUnlockEvent => exact recordStep_keepsKeys_same (fun s _ => s.pinUnlockEvent_ctxs _) s _ _
  | pinUnlockPeriod => exact recordStep_keepsKeys_same (fun s _ => s.pinUnlockPeriod_ctxs _) s _ _
  | pinChange => exact recordStep_keepsKeys_same (fun s _ => s.pinChange_ctxs _) s _ _
  | lockoutTimerExpiry q => exact .due fun _ => .done_same rfl
  | periodUnlockExpiry o => exact .due fun _ => .done_same (State.evaluateTuned_ctxs _ _ _)
  | profile => exact recordStep_keepsKeys_same (fun s _ => s.profileRecord_ctxs _) s _ _
  | powerStandby => exact recordStep_keepsKeys (fun s _ => s.powerStandby_keysKept _) s _ _
  | powerWake => exact recordStep_keepsKeys_same (fun s _ => s.powerWake_ctxs _) s _ _
  | publishingWriteComplete => exact execPublishingWriteComplete_keepsKeys s
  | controlBlockWriteComplete => exact execControlBlockWriteComplete_keepsKeys s
  | consumerIndexWrite => exact execConsumerIndexWrite_keepsKeys s
  | mitigationDelayExpiry => exact .due fun _ => .done_same rfl
  | statisticsTimerExpiry => exact .due fun _ => .done_same (State.statsFallDue_ctxs _)
  | settingsReadComplete => exact execSettingsReadComplete_keepsKeys s
  | journalMount => exact execJournalMount_keepsKeys s
  | flashInhibitEnd => exact .due fun _ => .done_same rfl
  | pageProgramComplete => exact execPageProgramComplete_keepsKeys s
  | eraseComplete => exact execEraseComplete_keepsKeys s
  | meteringPaceElapsed => exact .due fun _ => .done_same rfl
  | settingsRewriteStepComplete => exact execSettingsRewriteStepComplete_keepsKeys s
  | blinkCycle => exact .due fun _ => .done_same rfl
  | discardedFetchComplete => exact execDiscardedFetchComplete_keepsKeys s

/-- Settles O54: the command is a KEY record whose integrity check passed, or every content key stood at its place
before (`exec_keepsKeys`). -/
theorem keysComeOnlyFromKeyRecords : Obligations.KeysComeOnlyFromKeyRecords := by
  unfold Obligations.KeysComeOnlyFromKeyRecords
  intro c s t x p h ht hh
  by_cases hkey : ∃ u : KeyUnwrap, c = .key u ∧ u.pass = true
  · exact .inr hkey
  · refine .inl (exec_keepsKeys c (fun u hu => ?_) s t ht x p h hh)
    exact Bool.eq_false_iff.mpr fun hpass => hkey ⟨u, hu, hpass⟩

end Sys2Proof.Machine
end

section
/-! PROOFS. The gates of a context whose governing half changed (R84), and a half whose ageing timer runs out (R93). -/

namespace Sys2Proof.Machine

/-! ### Evaluations after a change of halves (R84) -/

theorem State.evaluateIfGoverningChanged_silent {u : State} {m : Option (HalfParity × Nat)} {c : Fin 8}
    (h : (u.ctxs[c]).isActive = false ∨ (u.ctxs[c]).governingMark = m) : u.evaluateIfGoverningChanged m c = u := by
  refine if_neg ?_
  rintro ⟨ha, hm⟩
  rcases h with h | h
  · cases h.symm.trans ha
  · exact hm h

theorem State.evaluateIfGoverningChanged_follows {u : State} {m : Option (HalfParity × Nat)} {c : Fin 8}
    (hm : (u.ctxs[c]).governingMark ≠ m) {x : Fin 6} (ha : (u.ctxs[c]).isActive = true)
    (hx : x ∈ (u.ctxs[c]).members) : gateFollows (u.evaluateIfGoverningChanged m c) x := by
  rw [State.evaluateIfGoverningChanged, if_pos ⟨ha, hm⟩]
  exact State.evaluateAll_follows _ _ _ (State.mem_membersWhere_eq ha hx)

theorem gateFollows.evaluateIfGoverningChanged {u : State} {x : Fin 6} (h : gateFollows u x)
    (m : Option (HalfParity × Nat)) (c : Fin 8) : gateFollows (u.evaluateIfGoverningChanged m c) x := by
  unfold State.evaluateIfGoverningChanged
  split
  · exact h.evaluateAll _ _ _
  · exact h

/-- R84: discarding a half that does not govern leaves what identifies the governing half. -/
theorem Context.governingMark_discard_other {c : Context} {g : HalfParity × Half} {p : HalfParity}
    (h : c.governing = some g) (hp : g.1 ≠ p) : (c.setHalf p none).governingMark = c.governingMark := by
  rw [Context.governingMark, Context.governing_discard h hp, Context.governingMark, h]

/-- R84: discarding the governing half changes it. -/
theorem Context.governingMark_discard_same {c : Context} {g : HalfParity × Half} (h : c.governing = some g) :
    (c.setHalf g.1 none).governingMark ≠ c.governingMark := by
  intro hm
  simp only [Context.governingMark, h, Option.map_some, Option.map_eq_some_iff] at hm
  obtain ⟨q, hq, hqg⟩ := hm
  obtain ⟨hpar, -⟩ := Prod.mk.inj hqg
  have hhalf := Context.governing_half hq
  rw [hpar, Context.setHalf_same] at hhalf
  cases hhalf

/-! ### AGEING_EXPIRY (R93) -/

/-- The context of a discarded half. -/
theorem State.setHalf_get (s : State) (c d : Fin 8) (p : HalfParity) (h : Option Half) :
    (s.setHalf (c, p) h).ctxs[d] = if c = d then (s.ctxs[d]).setHalf p h else s.ctxs[d] := State.modCtx_get s c d _

theorem State.discardHalf_work (s : State) (c : Fin 8) (p : HalfParity) :
    GateWork (s.setHalf (c, p) none) (s.discardHalf c p) := State.evaluateIfGoverningChanged_work _ _ c

theorem State.discardHalf_get (s : State) (c d : Fin 8) (p : HalfParity) :
    (s.discardHalf c p).ctxs[d] = if c = d then (s.ctxs[d]).setHalf p none else s.ctxs[d] := by
  rw [(s.discardHalf_work c p).ctxs, State.setHalf_get]

/-- R84: the discard of a half that does not govern an ACTIVE context evaluates no gate. -/
theorem State.discardHalf_silent {s : State} {c : Fin 8} {p : HalfParity} {h : Half} (hh : (s.ctxs[c]).half p = some h)
    (hn : (∀ g : HalfParity × Half, (s.ctxs[c]).governing = some g → g.1 ≠ p) ∨ (s.ctxs[c]).isActive = false) :
    s.discardHalf c p = s.setHalf (c, p) none := by
  obtain ⟨g, hg⟩ := Context.governing_isSome hh
  refine State.evaluateIfGoverningChanged_silent ?_
  rw [State.setHalf_get, if_pos rfl, Context.setHalf_isActive]
  exact hn.symm.imp id fun hother => Context.governingMark_discard_other hg (hother g hg)

/-- R84: the discard of the governing half lets the gates of the members follow. -/
theorem State.discardHalf_follows {s : State} {c : Fin 8} {g : HalfParity × Half} (hg : (s.ctxs[c]).governing = some g)
    {x : Fin 6} (ha : (s.ctxs[c]).isActive = true) (hx : x ∈ (s.ctxs[c]).members) :
    gateFollows (s.discardHalf c g.1) x := by
  have hctx : (s.setHalf (c, g.1) none).ctxs[c] = (s.ctxs[c]).setHalf g.1 none := by rw [State.setHalf_get, if_pos rfl]
  obtain ⟨-, hmembers, -⟩ := (s.ctxs[c]).setHalf_fields g.1 none
  refine State.evaluateIfGoverningChanged_follows ?_ ?_ ?_
  · rw [hctx]
    exact Context.governingMark_discard_same hg
  · rw [hctx, Context.setHalf_isActive, ha]
  · rw [hctx, hmembers]
    exact hx

theorem exec_ageingExpiry {s : State} {c : Fin 8} {p : HalfParity} {h : Half} (hh : (s.ctxs[c]).half p = some h)
    (hrun : s.running = true) (hdue : h.loaded + 20000 ≤ s.ticks.now) :
    exec (.ageingExpiry c p) s = .next (s.discardHalf c p).settle := by
  have hexec : exec (.ageingExpiry c p) s = execAgeingExpiry c p s := rfl
  have hat : s.halfAt (c, p) = some h := hh
  have hageing : s.ageingDue c p = true := by
    simp only [State.ageingDue, hat, hrun, halfLifetime, hdue, decide_true, Bool.and_self]
  rw [hexec, execAgeingExpiry, if_pos hageing, done_eq]

/-- Settles O31: the half is discarded (`State.discardHalf`), and gates follow where it governed. -/
theorem ageingDiscardsHalf : Obligations.AgeingDiscardsHalf := by
  unfold Obligations.AgeingDiscardsHalf
  intro s c p h hh hrun hdue
  have hwork := s.discardHalf_work c p
  have hend := (s.discardHalf c p).settle_end
  have hctx : (s.discardHalf c p).settle.ctxs[c] = (s.ctxs[c]).setHalf p none := by
    rw [State.settle_ctxs, State.discardHalf_get, if_pos rfl]
  obtain ⟨hlife, hmembers, hparity⟩ := (s.ctxs[c]).setHalf_fields p none
  refine ⟨_, exec_ageingExpiry hh hrun hdue, ?_, fun x hx => ?_, ?_, ?_, ?_, ?_, ?_, fun d hd => ?_, fun hn => ?_, ?_, ?_⟩
  · rw [hctx, Context.setHalf_same]
  · rw [hctx, Context.setHalf_other _ _ hx]
  · rw [hctx, hlife]
  · rw [hctx, hmembers]
  · rw [hctx, hparity]
  · rw [hctx]
    cases p <;> rfl
  · rw [State.settle_loadOrder, hwork.loadOrder]
    rfl
  · rw [State.settle_ctxs, State.discardHalf_get, if_neg (Ne.symm hd)]
  · rw [State.discardHalf_silent hh hn]
    exact (s.modCtx_frame c _).settle
  · rintro ⟨g, hg, rfl⟩ x v ⟨ha, hx⟩ hv
    exact hend.gateFollows (State.discardHalf_follows hg ha hx) v hv
  · exact ((s.modCtx_frame c _).trans hwork.toFrame (by decide) (by decide)).settle

end Sys2Proof.Machine
end

section
/-! PROOFS. What the recomputation of some halves leaves of the others (R119, R120): a half that is not recomputed keeps
its verdict unless its event's preview entry was replaced, which judges it afresh. -/

namespace Sys2Proof.Machine

/-- R119 step 4: an entry of the event of the half at a place, one of an ended event, has left the preview table. -/
def EntryReplaced (s t : State) (k : HalfPlace) : Prop :=
  ∃ (e : EventCriteria) (x : PreviewEntry), s.eventAt k = some e ∧ x ∈ s.access.previews ∧ x.event = e.event ∧
    x.ended s.guide.nowMinute = true ∧ x ∉ t.access.previews

/-- R119: an entry of an ended event that has left the table does not come back. -/
theorem PreviewWork.ended_mem {n : Option Nat} {a b : AccessUnit} (h : PreviewWork n a b) {x : PreviewEntry}
    (hx : x ∈ b.previews) (he : x.ended n = true) : x ∈ a.previews := by
  refine (h.live x hx).resolve_right fun hlive => ?_
  obtain ⟨m, hm, hle⟩ := (Option.any_eq_true _ _).mp he
  exact absurd (of_decide_eq_true hle) (Nat.not_le.mpr (hlive m hm))

theorem VerdictWork.eventAt {s t : State} (h : VerdictWork s t) (k : HalfPlace) : t.eventAt k = s.eventAt k := by
  obtain ⟨c, p⟩ := k
  unfold State.eventAt State.halfAt
  rcases ((h.ctxs c).half p).cases with ⟨hx, hy⟩ | ⟨a, b, hx, hy, hab⟩
  · rw [hx, hy]
  · have hcriteria : b.criteria = a.criteria := (congrArg Half.criteria hab.symm :)
    rw [hx, hy]
    simp only [Option.bind_some, Half.eventCriteria, hcriteria]

theorem VerdictWork.nowMinute {s t : State} (h : VerdictWork s t) : t.guide.nowMinute = s.guide.nowMinute := by
  rw [h.guide]

/-- R120: what the recomputation of the listed halves leaves. -/
structure Rejudges (ls : List HalfPlace) (s t : State) : Prop where
  work : VerdictWork s t
  previews : PreviewWork s.guide.nowMinute s.access t.access
  settles : Settles ls s t
  others : ∀ k : HalfPlace, k ∉ ls → t.halfAt k = s.halfAt k ∨ t.settledAt k ∧ EntryReplaced s t k

theorem Rejudges.nil (s : State) : Rejudges [] s s :=
  ⟨.refl s, .refl _ _, ⟨fun _ h => h, nofun, Nat.le_refl _⟩, fun _ _ => .inl rfl⟩

/-- R120: one recomputation after another; a half judged afresh by the first stays settled. -/
theorem Rejudges.trans {ls ms : List HalfPlace} {s u t : State} (h : Rejudges ls s u) (k : Rejudges ms u t) :
    Rejudges (ls ++ ms) s t := by
  have hlater := k.previews
  rw [h.work.nowMinute] at hlater
  refine ⟨h.work.trans k.work, h.previews.trans hlater, ⟨fun l hl => k.settles.kept l (h.settles.kept l hl),
    fun l hl => ?_, k.settles.stale.trans h.settles.stale⟩, fun l hl => ?_⟩
  · exact (List.mem_append.mp hl).elim (fun hl => k.settles.kept l (h.settles.done l hl)) (k.settles.done l)
  · obtain ⟨hls, hms⟩ := not_or.mp (mt List.mem_append.mpr hl)
    rcases k.others l hms with hsame | ⟨hsettled, e, x, he, hx, hxe, hend, hgone⟩
    · rw [hsame]
      refine (h.others l hls).imp_right fun ⟨hsettled, e, x, he, hx, hxe, hend, hgone⟩ => ?_
      exact ⟨k.settles.kept l hsettled, e, x, he, hx, hxe, hend, fun hmem => hgone (hlater.ended_mem hmem hend)⟩
    · rw [h.work.eventAt] at he
      rw [h.work.nowMinute] at hend
      exact .inr ⟨hsettled, e, x, he, h.previews.ended_mem hx hend, hxe, hend, hgone⟩

theorem Rejudges.foldl {f : State → HalfPlace → State} {d : Nat}
    (hf : ∀ (s : State) (l : HalfPlace), s.staleHalves < d → Rejudges [l] s (f s l)) (ls : List HalfPlace) {s : State}
    (hs : ls ≠ [] → s.staleHalves < d) : Rejudges ls s (ls.foldl f s) := by
  induction ls generalizing s with
  | nil => exact .nil s
  | cons l ls ih =>
    have hlt := hs (List.cons_ne_nil l ls)
    have hone := hf s l hlt
    exact hone.trans (ih fun _ => hone.settles.stale.trans_lt hlt)

/-- R120: with a depth above the number of halves that can replace an entry, the recomputation of one half leaves the others
as they were, but for those of the events whose entries were replaced, which it judges afresh. -/
theorem State.recomputeHalf_rejudges (d : Nat) (s : State) (l : HalfPlace) (hd : s.staleHalves < d) :
    Rejudges [l] s (State.recomputeHalf d s l) := by
  induction d generalizing s l with
  | zero => exact absurd hd (Nat.not_lt_zero _)
  | succ d ih =>
    refine ⟨s.recomputeHalf_work _ l, s.recomputeHalf_previews _ l, s.recomputeHalf_settles _ l hd, fun k hk => ?_⟩
    cases hl : s.halfAt l with
    | none =>
      rw [State.recomputeHalf_absent hl]
      exact .inl rfl
    | some h =>
      rw [State.recomputeHalf_present hl]
      have hj := s.judge_effect h.criteria
      have hat : (s.withVerdict l h (s.judge h.criteria)).halfAt k = s.halfAt k := by
        rw [State.withVerdict_halfAt, if_neg (Ne.symm (mt List.mem_singleton.mpr hk))]
      cases hr : (s.judge h.criteria).replaced with
      | none => exact .inl hat
      | some event =>
        have hfold := Rejudges.foldl (fun s l => ih s l) (s := s.withVerdict l h (s.judge h.criteria))
          ((s.withVerdict l h (s.judge h.criteria)).halvesOf event) fun hne => by
            obtain ⟨m, hm⟩ := List.exists_mem_of_ne_nil _ hne
            have hlt := State.withVerdict_staleHalves_lt hl hj hr hm
            omega
        obtain ⟨⟨x, hx, hxe, hend⟩, hgone⟩ := hj.replaced_entry hr
        by_cases hevent : k ∈ (s.withVerdict l h (s.judge h.criteria)).halvesOf event
        · obtain ⟨e, he, hee⟩ := State.mem_halvesOf.mp hevent
          exact .inr ⟨hfold.settles.done k hevent, e, x, (State.withVerdict_eventAt hl k).symm.trans he, hx,
            hxe.trans hee.symm, hend, fun hmem => hgone x (hfold.previews.ended_mem hmem hend) hxe⟩
        · refine (hfold.others k hevent).imp (fun hsame => hsame.trans hat) ?_
          rintro ⟨hsettled, e, y, he, hy, hye, hyend, hygone⟩
          exact ⟨hsettled, e, y, (State.withVerdict_eventAt hl k).symm.trans he, hj.ended_mem hy hyend, hye, hyend,
            hygone⟩

/-- R120: what recomputing the listed halves leaves. -/
theorem State.recompute_rejudges (s : State) (ls : List HalfPlace) : Rejudges ls s (s.recompute ls) :=
  Rejudges.foldl (State.recomputeHalf_rejudges recomputeDepth) ls
    fun _ => s.staleHalves_le.trans_lt (by decide)

end Sys2Proof.Machine
end

section
/-! PROOFS. KEY records that load halves (R85, R87, R89): the slots a load fills, the verdicts, and the gates that follow
(R84, R120). -/

namespace Sys2Proof.Machine

/-! ### The checks and the epoch of a KEY record (R85, R87) -/

theorem KeyBlock.half_eq_some {b : KeyBlock} {p : HalfParity} : b.half = some p ↔ b.parity = parityCode p := by
  unfold KeyBlock.half
  split <;> cases p <;> simp_all [parityCode]

/-- R85: the half blocks of a record that passed its checks: each names a half and criteria, no two the same half. -/
structure BlocksOk (bs : List KeyBlock) : Prop where
  half : ∀ b ∈ bs, ∃ p : HalfParity, b.half = some p
  criteria : ∀ b ∈ bs, ∃ cr : Criteria, b.criteria = some cr
  apart : (bs.map (·.parity)).Nodup

theorem KeyBlock.criteria_of_fieldsOk {b : KeyBlock} (h : b.fieldsOk = true) : ∃ cr : Criteria, b.criteria = some cr := by
  unfold KeyBlock.fieldsOk at h
  unfold KeyBlock.criteria
  split
  · exact ⟨_, rfl⟩
  · exact ⟨_, rfl⟩
  · exact ⟨_, rfl⟩
  · simp_all

theorem keyChecks_blocksOk {pass : Bool} {r : Record} (h : keyChecks pass r = none) : BlocksOk r.keyBlocks := by
  unfold keyChecks at h
  dsimp only at h
  split at h
  · cases h
  · split at h
    · cases h
    · split at h
      · cases h
      · next hhalf =>
        split at h
        · cases h
        · next hapart =>
          split at h
          · cases h
          · next hfields =>
            refine ⟨fun b hb => ?_, fun b hb => KeyBlock.criteria_of_fieldsOk ?_, by simpa using hapart⟩
            · simp only [List.any_eq_true, not_exists, not_and, Bool.not_eq_true, Option.isNone_eq_false_iff] at hhalf
              exact Option.isSome_iff_exists.mp (hhalf b hb)
            · simp only [List.any_eq_true, not_exists, not_and, Bool.not_eq_true, Bool.not_eq_false'] at hfields
              exact hfields b hb

theorem BlocksOk.tail {b : KeyBlock} {bs : List KeyBlock} (h : BlocksOk (b :: bs)) : BlocksOk bs :=
  ⟨fun x hx => h.half x (List.mem_cons_of_mem b hx), fun x hx => h.criteria x (List.mem_cons_of_mem b hx),
    (List.nodup_cons.mp h.apart).2⟩

/-- R85: no later block names the half of the first. -/
theorem BlocksOk.head {b : KeyBlock} {bs : List KeyBlock} (h : BlocksOk (b :: bs)) {p : HalfParity}
    (hp : b.half = some p) (x : KeyBlock) (hx : x ∈ bs) : x.half ≠ some p := by
  intro hxp
  refine (List.nodup_cons.mp h.apart).1 (List.mem_map.mpr ⟨x, hx, ?_⟩)
  exact (KeyBlock.half_eq_some.mp hxp).trans (KeyBlock.half_eq_some.mp hp).symm

theorem epochOrder_newer {n : Nat} {m : Option Nat} (h : m = none ∨ ∃ k : Nat, m = some k ∧
    1 ≤ (n + 65536 - k) % 65536 ∧ (n + 65536 - k) % 65536 ≤ 32767) : epochOrder n m = .newer := by
  rcases h with rfl | ⟨k, rfl, hlow, hhigh⟩
  · rfl
  · have hne : (n + 65536 - k) % 65536 ≠ 0 := by omega
    simp [epochOrder, hne, hhigh]

theorem epochOrder_equal (n : Nat) : epochOrder n (some n) = .equal := by
  simp [epochOrder]

/-! ### The slots a load fills (R89) -/

/-- What a load takes from a KEY record: its context, its epoch, its half blocks and their content keys. -/
structure KeyLoad where
  ctx : Fin 8
  epoch : Nat
  blocks : List KeyBlock
  keys : List (BitVec 128)

/-- The half places that a load fills. -/
def KeyLoad.places (l : KeyLoad) : List HalfPlace := loadedPlaces l.ctx l.blocks

theorem mem_loadedPlaces {c d : Fin 8} {p : HalfParity} {bs : List KeyBlock} :
    (d, p) ∈ loadedPlaces c bs ↔ d = c ∧ ∃ b ∈ bs, b.half = some p := by
  have hparity : p ∈ [HalfParity.even, .odd] := by cases p <;> simp
  simp only [loadedPlaces, List.mem_filterMap, List.any_eq_true, decide_eq_true_eq]
  constructor
  · rintro ⟨q, -, hq⟩
    split at hq
    · next hnamed =>
      cases hq
      exact ⟨rfl, hnamed⟩
    · cases hq
  · rintro ⟨rfl, hnamed⟩
    exact ⟨p, hparity, if_pos hnamed⟩

/-- R89: the half that block `k` of a record loads, before its verdict. -/
def KeyBlock.loads (b : KeyBlock) (key : BitVec 128) (cr : Criteria) (order now : Nat) : Half :=
  ⟨key, b.wrapped, cr, b.rating, .notEntitled, order, now⟩

/-- R89: what filling the slots of half blocks on context `c` leaves. -/
structure HalvesLoaded (c : Fin 8) (bs : List KeyBlock) (ks : List (BitVec 128)) (s t : State) : Prop where
  state : ∃ cs : Vector Context 8, t = { s with ctxs := cs, loadOrder := s.loadOrder + bs.length }
  others : otherContexts c s t
  life : (t.ctxs[c]).life = (s.ctxs[c]).life
  members : (t.ctxs[c]).members = (s.ctxs[c]).members
  parity : (t.ctxs[c]).parity = (s.ctxs[c]).parity
  kept : ∀ p : HalfParity, (∀ b ∈ bs, b.half ≠ some p) → (t.ctxs[c]).half p = (s.ctxs[c]).half p
  filled : ∀ (k : Nat) (b : KeyBlock) (p : HalfParity), bs[k]? = some b → b.half = some p →
    ∃ cr : Criteria, b.criteria = some cr ∧
      (t.ctxs[c]).half p = some (b.loads (ks.getD k 0) cr (s.loadOrder + k + 1) s.ticks.now)

/-- R89: a slot is filled, with the next load order. -/
def State.slotFilled (s : State) (c : Fin 8) (p : HalfParity) (x : Half) : State :=
  ({ s with loadOrder := s.loadOrder + 1 } : State).setHalf (c, p) (some x)

theorem State.slotFilled_get (s : State) (c d : Fin 8) (p : HalfParity) (x : Half) :
    (s.slotFilled c p x).ctxs[d] = if c = d then (s.ctxs[d]).setHalf p (some x) else s.ctxs[d] :=
  State.setHalf_get _ c d p _

theorem State.loadHalf_eq {s : State} {c : Fin 8} {b : KeyBlock} {p : HalfParity} {cr : Criteria} (hp : b.half = some p)
    (hcr : b.criteria = some cr) (key : BitVec 128) :
    s.loadHalf c b key = s.slotFilled c p (b.loads key cr (s.loadOrder + 1) s.ticks.now) := by
  simp only [State.loadHalf, hp, hcr, State.slotFilled, KeyBlock.loads]

/-- R89: one half block more, in front of the others. -/
theorem HalvesLoaded.cons {c : Fin 8} {b : KeyBlock} {bs : List KeyBlock} {ks : List (BitVec 128)} {s t : State}
    {p : HalfParity} {cr : Criteria} (hbs : BlocksOk (b :: bs)) (hp : b.half = some p) (hcr : b.criteria = some cr)
    (h : HalvesLoaded c bs ks.tail (s.slotFilled c p (b.loads (ks.getD 0 0) cr (s.loadOrder + 1) s.ticks.now)) t) :
    HalvesLoaded c (b :: bs) ks s t := by
  generalize hx : b.loads (ks.getD 0 0) cr (s.loadOrder + 1) s.ticks.now = x at h
  obtain ⟨hlife, hmembers, hparity⟩ := (s.ctxs[c]).setHalf_fields p (some x)
  have hctx : (s.slotFilled c p x).ctxs[c] = (s.ctxs[c]).setHalf p (some x) := by
    rw [State.slotFilled_get, if_pos rfl]
  refine ⟨?_, fun d hd => ?_, ?_, ?_, ?_, fun q hq => ?_, fun k y q hy hq => ?_⟩
  · obtain ⟨cs, hcs⟩ := h.state
    refine ⟨cs, hcs.trans ?_⟩
    rw [List.length_cons, Nat.add_comm bs.length, ← Nat.add_assoc]
    rfl
  · rw [h.others d hd, State.slotFilled_get, if_neg (Ne.symm hd)]
  · rw [h.life, hctx, hlife]
  · rw [h.members, hctx, hmembers]
  · rw [h.parity, hctx, hparity]
  · have hqp : q ≠ p := fun e => hq b List.mem_cons_self (e ▸ hp)
    rw [h.kept q fun y hy => hq y (List.mem_cons_of_mem b hy), hctx, Context.setHalf_other _ _ hqp]
  · cases k with
    | zero =>
      cases hy
      cases hp.symm.trans hq
      refine ⟨cr, hcr, ?_⟩
      rw [h.kept p (hbs.head hp), hctx, Context.setHalf_same, ← hx, Nat.add_zero]
    | succ k =>
      obtain ⟨yr, hyr, hhalf⟩ := h.filled k y q hy hq
      refine ⟨yr, hyr, hhalf.trans ?_⟩
      have horder : s.loadOrder + 1 + k + 1 = s.loadOrder + (k + 1) + 1 := by omega
      have hkey : ks.tail.getD k 0 = ks.getD (k + 1) 0 := by cases ks <;> rfl
      rw [← horder, ← hkey]
      rfl

theorem State.loadHalves_loaded (c : Fin 8) (bs : List KeyBlock) (ks : List (BitVec 128)) (s : State)
    (h : BlocksOk bs) : HalvesLoaded c bs ks s (s.loadHalves c bs ks) := by
  induction bs generalizing s ks with
  | nil => exact ⟨⟨_, rfl⟩, fun _ _ => rfl, rfl, rfl, rfl, fun _ _ => rfl, nofun⟩
  | cons b bs ih =>
    obtain ⟨p, hp⟩ := h.half b List.mem_cons_self
    obtain ⟨cr, hcr⟩ := h.criteria b List.mem_cons_self
    have hkey : ks.headD 0 = ks.getD 0 0 := by cases ks <;> rfl
    rw [State.loadHalves, State.loadHalf_eq hp hcr, hkey]
    exact .cons h hp hcr (ih ks.tail _ h.tail)

end Sys2Proof.Machine
end

section
/-! PROOFS. KEY records that load halves, continued: what a load leaves of the halves it names and of the others, and
which gates follow it (R84, R89, R120). -/

namespace Sys2Proof.Machine

/-! ### The governing half and the evaluations after a recomputation (R84, R120) -/

/-- R84: with the same governing slot and the same half in it the governing half is the same. -/
theorem Context.governing_eq_of {x y : Context} (hp : y.governing.map (·.1) = x.governing.map (·.1))
    (hh : ∀ g : HalfParity × Half, y.governing = some g → y.half g.1 = x.half g.1) : y.governing = x.governing := by
  cases hy : y.governing with
  | none =>
    rw [hy] at hp
    exact (Option.map_eq_none_iff.mp hp.symm).symm
  | some g =>
    obtain ⟨k, hk, hkg⟩ := Option.map_eq_some_iff.mp (hp.symm.trans (congrArg _ hy))
    have hhalf := (Context.governing_half hy).symm.trans ((hh g hy).trans (hkg ▸ Context.governing_half hk))
    rw [hk, ← Prod.ext hkg.symm (Option.some.inj hhalf)]

/-- R120: a recomputation leaves the slot that governs. -/
theorem VerdictFields.governing_slot {x y : Context} (h : VerdictFields x y) :
    y.governing.map (·.1) = x.governing.map (·.1) := by
  have hslot := congrArg (Option.map Prod.fst) h.governing
  rw [Option.map_map, Option.map_map] at hslot
  exact hslot

theorem State.evaluateChanged_follows {u before : State} {pick : Fin 8 → Bool} {c : Fin 8} (deferred : Bool)
    (hpick : pick c = true) (hv : (u.ctxs[c]).governingVerdict ≠ (before.ctxs[c]).governingVerdict) {x : Fin 6}
    (ha : (u.ctxs[c]).isActive = true) (hx : x ∈ (u.ctxs[c]).members) :
    gateFollows (u.evaluateChanged before deferred pick) x := by
  refine State.evaluateAll_follows _ _ _ ?_
  simp only [State.membersWhere, List.mem_filter, List.any_eq_true, Bool.and_eq_true, List.contains_iff_mem,
    mem_allOutputs, mem_allContexts, true_and, verdictChanged, decide_eq_true_eq]
  exact ⟨c, ⟨ha, hpick, Ne.symm hv⟩, hx⟩

theorem State.evaluateChanged_silent {u before : State} (deferred : Bool) (pick : Fin 8 → Bool)
    (h : ∀ c : Fin 8, (u.ctxs[c]).governing = (before.ctxs[c]).governing) :
    u.evaluateChanged before deferred pick = u := by
  have hsame (c : Fin 8) : verdictChanged before u c = false := by
    simp only [verdictChanged, Context.governingVerdict, h c, ne_eq, not_true_eq_false, decide_false]
  have hnone : u.membersWhere (fun c _ => pick c && verdictChanged before u c) = [] := by
    simp [State.membersWhere, hsame]
  rw [State.evaluateChanged, hnone]
  rfl

/-! ### The steps of a load (R89) -/

/-- R89: the slots are filled and the context has the record's epoch. -/
def State.keysLoaded (s : State) (l : KeyLoad) : State :=
  (s.loadHalves l.ctx l.blocks l.keys).modCtx l.ctx (fun x => { x with epoch := some l.epoch })

/-- R89 step 1: the loaded halves have their verdicts. -/
def State.keysJudged (s : State) (l : KeyLoad) : State := (s.keysLoaded l).recompute l.places

/-- Log entry 30: the gates of verdicts that moved follow, but for those of a context whose governing half changed. -/
def State.keysReported (s : State) (l : KeyLoad) : State :=
  (s.keysJudged l).evaluateChanged (s.keysLoaded l) false (fun d => d ≠ l.ctx ||
    !decide ((s.ctxs[l.ctx]).governingMark ≠ ((s.keysJudged l).ctxs[l.ctx]).governingMark))

/-- R89, R84: the gates follow a governing half that changed. -/
def State.keysFollowed (s : State) (l : KeyLoad) : State :=
  (s.keysReported l).evaluateIfGoverningChanged (s.ctxs[l.ctx]).governingMark l.ctx

theorem State.keysFollowed_work (s : State) (l : KeyLoad) : GateWork (s.keysJudged l) (s.keysFollowed l) :=
  (State.evaluateChanged_work _ _ _ _).trans (State.evaluateIfGoverningChanged_work _ _ _)

theorem State.keysReported_ctxs (s : State) (l : KeyLoad) : (s.keysReported l).ctxs = (s.keysJudged l).ctxs :=
  State.evaluateChanged_ctxs _ _ _ _

/-- R194: the governing half of a context, as an outcome detail tells it. -/
def Context.governingCode (c : Context) : Nat :=
  match c.governing with
  | none => 0
  | some (.even, _) => 2
  | some (.odd, _) => 3

theorem State.keyLoad_eq (s : State) (l : KeyLoad) : s.keyLoad l.ctx l.epoch l.blocks l.keys =
    (s.keysFollowed l, accepted (keyDetail l.ctx 1 l.blocks ((s.keysJudged l).ctxs[l.ctx]).governingCode)) := by
  rw [← (s.keysFollowed_work l).ctxs]
  unfold Context.governingCode
  refine Prod.ext rfl (congrArg (fun g => accepted (keyDetail l.ctx 1 l.blocks g)) ?_)
  show (match ((s.keysFollowed l).ctxs[l.ctx]).governing with
    | none => 0
    | some (p, _) => parityCode p) = _
  rcases ((s.keysFollowed l).ctxs[l.ctx]).governing with _ | ⟨_ | _, _⟩ <;> rfl

theorem State.keysLoaded_get (s : State) (l : KeyLoad) (d : Fin 8) : (s.keysLoaded l).ctxs[d] =
    if l.ctx = d then { (s.loadHalves l.ctx l.blocks l.keys).ctxs[d] with epoch := some l.epoch }
    else (s.loadHalves l.ctx l.blocks l.keys).ctxs[d] := State.modCtx_get _ l.ctx d _

theorem State.keysLoaded_epoch (s : State) (l : KeyLoad) : ((s.keysLoaded l).ctxs[l.ctx]).epoch = some l.epoch := by
  rw [State.keysLoaded_get, if_pos rfl]

theorem State.keysLoaded_loaded (s : State) (l : KeyLoad) (h : BlocksOk l.blocks) :
    HalvesLoaded l.ctx l.blocks l.keys s (s.keysLoaded l) := by
  have hload := s.loadHalves_loaded l.ctx l.blocks l.keys h
  obtain ⟨cs, hcs⟩ := hload.state
  have hctx := s.keysLoaded_get l l.ctx
  rw [if_pos rfl] at hctx
  have hhalf (p : HalfParity) : ((s.keysLoaded l).ctxs[l.ctx]).half p =
      ((s.loadHalves l.ctx l.blocks l.keys).ctxs[l.ctx]).half p := by
    rw [hctx]
    cases p <;> rfl
  refine ⟨?_, fun d hd => ?_, ?_, ?_, ?_, fun p hp => ?_, fun k b p hb hp => ?_⟩
  · rw [State.keysLoaded, hcs]
    exact ⟨_, rfl⟩
  · rw [State.keysLoaded_get, if_neg (Ne.symm hd), hload.others d hd]
  · rw [hctx]
    exact hload.life
  · rw [hctx]
    exact hload.members
  · rw [hctx]
    exact hload.parity
  · rw [hhalf, hload.kept p hp]
  · rw [hhalf]
    exact hload.filled k b p hb hp

theorem State.keysLoaded_frame (s : State) (l : KeyLoad) (h : BlocksOk l.blocks) :
    Frame [.contexts] s (s.keysLoaded l) := by
  obtain ⟨cs, hcs⟩ := (s.keysLoaded_loaded l h).state
  rw [hcs]
  exact ⟨by simp [onlyChanges, Area.forall_iff, Area.same], rfl⟩

theorem State.keysLoaded_halfAt {s : State} {l : KeyLoad} (h : BlocksOk l.blocks) {k : HalfPlace} (hk : k ∉ l.places) :
    (s.keysLoaded l).halfAt k = s.halfAt k := by
  obtain ⟨d, p⟩ := k
  have hload := s.keysLoaded_loaded l h
  unfold State.halfAt
  by_cases hd : d = l.ctx
  · subst hd
    exact hload.kept p fun b hb hp => hk (mem_loadedPlaces.mpr ⟨rfl, b, hb, hp⟩)
  · rw [hload.others d hd]

theorem State.keysJudged_rejudges (s : State) (l : KeyLoad) :
    Rejudges l.places (s.keysLoaded l) (s.keysJudged l) := (s.keysLoaded l).recompute_rejudges l.places

/-! ### What a load leaves -/

/-- R89: the end of a KEY command that loaded halves. -/
structure LoadEnd (l : KeyLoad) (s t : State) : Prop where
  checked : BlocksOk l.blocks
  ended : EndOf (s.keysFollowed l) t
  loadOrder : t.loadOrder = (s.keysFollowed l).loadOrder
  writer : t.writer = (s.keysFollowed l).writer

/-- R31, R32: a KEY record is answered after its load. -/
theorem State.finishRecord_loadEnd (s : State) {l : KeyLoad} (h : BlocksOk l.blocks) {f : Fetched}
    (ha : f.attached = true) (ws : List OwnReq) (out : Outcome) :
    LoadEnd l s ((s.keysFollowed l).finishRecord f ws out).settle := by
  refine ⟨h, State.finishRecord_end _ ha ws out, ?_, ?_⟩ <;> rw [State.finishRecord_attached _ ha] <;> simp

theorem LoadEnd.ctxs {l : KeyLoad} {s t : State} (h : LoadEnd l s t) : t.ctxs = (s.keysJudged l).ctxs := by
  rw [h.ended.ctxs, (s.keysFollowed_work l).ctxs]

theorem LoadEnd.access {l : KeyLoad} {s t : State} (h : LoadEnd l s t) : t.access = (s.keysJudged l).access := by
  rw [h.ended.access, (s.keysFollowed_work l).access]

theorem LoadEnd.settledAt {l : KeyLoad} {s t : State} (h : LoadEnd l s t) {k : HalfPlace}
    (hk : (s.keysJudged l).settledAt k) : t.settledAt k := by
  refine hk.congr h.ctxs h.access ?_ ?_
  · rw [h.ended.rights, (s.keysFollowed_work l).rights]
  · rw [h.ended.guide, (s.keysFollowed_work l).guide]

/-- R89, R120: from the filled slots on, verdicts alone change. -/
theorem LoadEnd.fields {l : KeyLoad} {s t : State} (h : LoadEnd l s t) (d : Fin 8) :
    VerdictFields ((s.keysLoaded l).ctxs[d]) (t.ctxs[d]) := by
  rw [h.ctxs]
  exact (s.keysJudged_rejudges l).work.ctxs d

theorem LoadEnd.epoch {l : KeyLoad} {s t : State} (h : LoadEnd l s t) : (t.ctxs[l.ctx]).epoch = some l.epoch := by
  rw [(h.fields l.ctx).epoch, State.keysLoaded_epoch]

theorem LoadEnd.other_epoch {l : KeyLoad} {s t : State} (h : LoadEnd l s t) {d : Fin 8} (hd : d ≠ l.ctx) :
    (t.ctxs[d]).epoch = (s.ctxs[d]).epoch := by
  rw [(h.fields d).epoch, (s.keysLoaded_loaded l h.checked).others d hd]

/-- R89: each half block has taken one load order. -/
theorem LoadEnd.orders {l : KeyLoad} {s t : State} (h : LoadEnd l s t) :
    t.loadOrder = s.loadOrder + l.blocks.length := by
  obtain ⟨cs, hcs⟩ := (s.keysLoaded_loaded l h.checked).state
  rw [h.loadOrder, (s.keysFollowed_work l).loadOrder, (s.keysJudged_rejudges l).work.loadOrder, hcs]

theorem LoadEnd.owned {l : KeyLoad} {s t : State} (h : LoadEnd l s t) : t.access.owned = s.access.owned := by
  rw [h.access, (s.keysJudged_rejudges l).work.owned, (s.keysLoaded_frame l h.checked).only .access (by decide)]

/-- R58: a load leaves the states, the members and the current parities of all contexts. -/
theorem LoadEnd.pool {l : KeyLoad} {s t : State} (h : LoadEnd l s t) (d : Fin 8) :
    (t.ctxs[d]).life = (s.ctxs[d]).life ∧ (t.ctxs[d]).members = (s.ctxs[d]).members ∧
      (t.ctxs[d]).parity = (s.ctxs[d]).parity := by
  have hload := s.keysLoaded_loaded l h.checked
  rw [(h.fields d).life, (h.fields d).members, (h.fields d).parity]
  by_cases hd : d = l.ctx
  · subst hd
    exact ⟨hload.life, hload.members, hload.parity⟩
  · rw [hload.others d hd]
    exact ⟨rfl, rfl, rfl⟩

theorem LoadEnd.isActive {l : KeyLoad} {s t : State} (h : LoadEnd l s t) (d : Fin 8) :
    (t.ctxs[d]).isActive = (s.ctxs[d]).isActive := by
  unfold Context.isActive
  rw [(h.pool d).1]

/-- R89: a half block has filled the slot of its parity, and its verdict is what its criteria give. -/
theorem LoadEnd.named {l : KeyLoad} {s t : State} (h : LoadEnd l s t) {k : Nat} {b : KeyBlock} {p : HalfParity}
    (hb : l.blocks[k]? = some b) (hp : b.half = some p) :
    ∃ x : Half, (t.ctxs[l.ctx]).half p = some x ∧ x.content = l.keys.getD k 0 ∧ x.wrapped = b.wrapped ∧
      b.criteria = some x.criteria ∧ x.rating = b.rating ∧ x.loaded = s.ticks.now ∧ x.order = s.loadOrder + k + 1 ∧
      halfJudged x t := by
  obtain ⟨cr, hcr, hfilled⟩ := (s.keysLoaded_loaded l h.checked).filled k b p hb hp
  have hverdict := (h.fields l.ctx).half p
  rw [hfilled] at hverdict
  obtain ⟨x, hx⟩ := Option.isSome_iff_exists.mp hverdict.isSome
  rw [hx] at hverdict
  have heq := hverdict.eq
  have hplace : (l.ctx, p) ∈ l.places := mem_loadedPlaces.mpr ⟨rfl, b, List.mem_of_getElem? hb, hp⟩
  have hsettled := h.settledAt ((s.keysJudged_rejudges l).settles.done _ hplace)
  exact ⟨x, hx, (congrArg Half.content heq :), (congrArg Half.wrapped heq :),
    hcr.trans (congrArg some (congrArg Half.criteria heq).symm :), (congrArg Half.rating heq :),
    (congrArg Half.loaded heq :), (congrArg Half.order heq :), (hsettled x hx).judged⟩

/-- R120: a half that no block names keeps its verdict unless its event's preview entry was replaced. -/
theorem LoadEnd.unnamed {l : KeyLoad} {s t : State} (h : LoadEnd l s t) {k : HalfPlace} (hk : k ∉ l.places) :
    t.halfAt k = s.halfAt k ∨ t.settledAt k ∧ EntryReplaced s t k := by
  have hkept := State.keysLoaded_halfAt (s := s) h.checked hk
  have hframe := s.keysLoaded_frame l h.checked
  have hat : t.halfAt k = (s.keysJudged l).halfAt k := by simp only [State.halfAt, h.ctxs]
  rcases (s.keysJudged_rejudges l).others k hk with hsame | ⟨hsettled, e, x, he, hx, hxe, hend, hgone⟩
  · exact .inl (hat.trans (hsame.trans hkept))
  · rw [State.eventAt, hkept] at he
    rw [hframe.only .access (by decide)] at hx
    rw [hframe.only .guide (by decide)] at hend
    rw [← h.access] at hgone
    exact .inr ⟨h.settledAt hsettled, e, x, he, hx, hxe, hend, hgone⟩

theorem LoadEnd.unnamed_verdict {l : KeyLoad} {s t : State} (h : LoadEnd l s t) {d : Fin 8} {p : HalfParity}
    (hk : (d, p) ∉ l.places) : VerdictOnly ((s.ctxs[d]).half p) ((t.ctxs[d]).half p) := by
  have hverdict := (h.fields d).half p
  have hkept : ((s.keysLoaded l).ctxs[d]).half p = (s.ctxs[d]).half p := State.keysLoaded_halfAt h.checked hk
  rwa [hkept] at hverdict

/-- R120: what a load leaves of a half that no block names. -/
theorem LoadEnd.kept {l : KeyLoad} {s t : State} (h : LoadEnd l s t) {d : Fin 8} {p : HalfParity}
    (hk : (d, p) ∉ l.places) {a b : Half} (ha : (s.ctxs[d]).half p = some a) (hb : (t.ctxs[d]).half p = some b) :
    b = { a with verdict := b.verdict } ∧ (b.verdict = a.verdict ∨ halfJudged b t ∧
      ∃ (e : EventCriteria) (x : PreviewEntry), a.criteria = .event e ∧ x ∈ s.access.previews ∧ x.event = e.event ∧
        x ∉ t.access.previews) := by
  have hverdict := h.unnamed_verdict hk
  rw [ha, hb] at hverdict
  refine ⟨hverdict.eq, (h.unnamed hk).imp (fun hsame => ?_) ?_⟩
  · cases hb.symm.trans (hsame.trans ha)
    rfl
  · rintro ⟨hsettled, e, x, he, hx, hxe, -, hgone⟩
    have hat : s.halfAt (d, p) = some a := ha
    rw [State.eventAt, hat] at he
    exact ⟨(hsettled b hb).judged, e, x, Half.eventCriteria_eq_some.mp he, hx, hxe, hgone⟩

/-! ### The gates that follow a load (R84, R120) -/

/-- R84: where the governing half changed, the gates of the members of an ACTIVE context follow. -/
theorem LoadEnd.governing_follows {l : KeyLoad} {s t : State} (h : LoadEnd l s t)
    (hm : (t.ctxs[l.ctx]).governingMark ≠ (s.ctxs[l.ctx]).governingMark) {x : Fin 6}
    (ha : (s.ctxs[l.ctx]).isActive = true) (hx : x ∈ (s.ctxs[l.ctx]).members) : gateFollows t x := by
  have hctxs : (s.keysReported l).ctxs = t.ctxs := (s.keysReported_ctxs l).trans h.ctxs.symm
  refine h.ended.gateFollows (State.evaluateIfGoverningChanged_follows ?_ ?_ ?_) <;> rw [hctxs]
  · exact hm
  · rw [h.isActive, ha]
  · rwa [(h.pool l.ctx).2.1]

/-- Log entry 30: the gates of another context whose governing verdict a replacement moved follow. -/
theorem LoadEnd.moved_follows {l : KeyLoad} {s t : State} (h : LoadEnd l s t) {d : Fin 8} (hd : d ≠ l.ctx)
    (hv : (t.ctxs[d]).governingVerdict ≠ (s.ctxs[d]).governingVerdict) {x : Fin 6}
    (ha : (s.ctxs[d]).isActive = true) (hx : x ∈ (s.ctxs[d]).members) : gateFollows t x := by
  have hmoved : gateFollows (s.keysReported l) x := by
    refine State.evaluateChanged_follows (c := d) false (by simp [hd]) ?_ ?_ ?_ <;> rw [← h.ctxs]
    · rwa [(s.keysLoaded_loaded l h.checked).others d hd]
    · rw [h.isActive, ha]
    · rwa [(h.pool d).2.1]
  exact h.ended.gateFollows (hmoved.evaluateIfGoverningChanged _ _)

/-- R84: where the load named no governing half, left the governing slot and replaced no preview entry, no gate is
evaluated. -/
theorem LoadEnd.unevaluated {l : KeyLoad} {s t : State} (h : LoadEnd l s t)
    (hslot : (t.ctxs[l.ctx]).governing.map (·.1) = (s.ctxs[l.ctx]).governing.map (·.1))
    (hunnamed : ∀ (g : HalfParity × Half) (b : KeyBlock), (t.ctxs[l.ctx]).governing = some g → b ∈ l.blocks →
      b.half ≠ some g.1)
    (hpreviews : ∀ x ∈ s.access.previews, x ∈ t.access.previews) : s.keysFollowed l = s.keysJudged l := by
  have hplace (d : Fin 8) (g : HalfParity × Half) (hg : (t.ctxs[d]).governing = some g) : (d, g.1) ∉ l.places := by
    intro hmem
    obtain ⟨rfl, b, hb, hp⟩ := mem_loadedPlaces.mp hmem
    exact hunnamed g b hg hb hp
  have hsame (d : Fin 8) (g : HalfParity × Half) (hg : (t.ctxs[d]).governing = some g) :
      (t.ctxs[d]).half g.1 = (s.ctxs[d]).half g.1 := by
    refine (h.unnamed (hplace d g hg)).resolve_right ?_
    rintro ⟨-, e, x, -, hx, -, -, hgone⟩
    exact hgone (hpreviews x hx)
  have hverdicts (d : Fin 8) : (t.ctxs[d]).governing = ((s.keysLoaded l).ctxs[d]).governing :=
    Context.governing_eq_of (h.fields d).governing_slot fun g hg =>
      (hsame d g hg).trans (State.keysLoaded_halfAt h.checked (hplace d g hg)).symm
  rw [h.ctxs] at hverdicts
  have hreported : s.keysReported l = s.keysJudged l := State.evaluateChanged_silent _ _ hverdicts
  have hgoverning := Context.governing_eq_of hslot (hsame l.ctx)
  rw [State.keysFollowed, hreported]
  refine State.evaluateIfGoverningChanged_silent (.inr ?_)
  rw [← h.ctxs, Context.governingMark, hgoverning, Context.governingMark]

theorem LoadEnd.silent {l : KeyLoad} {s t : State} (h : LoadEnd l s t) (hsilent : s.keysFollowed l = s.keysJudged l) :
    t.outs = s.outs ∧ t.writer = s.writer := by
  have hloaded := s.keysLoaded_frame l h.checked
  have hwork := (s.keysJudged_rejudges l).work
  rw [h.ended.outs, h.writer, hsilent, hwork.outs, hwork.writer]
  exact ⟨hloaded.only .outputs (by decide), hloaded.only .writer (by decide)⟩

/-! ### The frame and the notices of a load -/

theorem State.keysFollowed_frame (s : State) (l : KeyLoad) (h : BlocksOk l.blocks) :
    Frame [.contexts, .access, .outputs, .own, .writer] s (s.keysFollowed l) := by
  have hjudged : Frame [.contexts, .access] s (s.keysJudged l) :=
    (s.keysLoaded_frame l h).trans (s.keysJudged_rejudges l).work.toFrame (by decide) (by decide)
  exact hjudged.trans (s.keysFollowed_work l).toFrame (by decide) (by decide)

theorem State.keysFollowed_noticed (s : State) (l : KeyLoad) (h : BlocksOk l.blocks) : Noticed s (s.keysFollowed l) := by
  obtain ⟨cs, hcs⟩ := (s.keysLoaded_loaded l h).state
  have hport : (s.keysLoaded l).port = s.port := by rw [hcs]
  exact ((Noticed.of_port hport).trans (s.keysJudged_rejudges l).work.noticed).trans (s.keysFollowed_work l).noticed

end Sys2Proof.Machine
end

section
/-! PROOFS. KEY records that refresh halves (R88), and the obligation about KEY records (R85 to R89). -/

namespace Sys2Proof.Machine

/-! ### A refresh (R88) -/

/-- R88: the ageing timer of a half starts again. -/
def Half.restarted (h : Half) (now : Nat) : Half := { h with loaded := now }

/-- R88: what the restart of the ageing timers of the named halves leaves. -/
structure HalvesRestarted (c : Fin 8) (bs : List KeyBlock) (s t : State) : Prop where
  state : ∃ cs : Vector Context 8, t = { s with ctxs := cs }
  others : otherContexts c s t
  life : (t.ctxs[c]).life = (s.ctxs[c]).life
  members : (t.ctxs[c]).members = (s.ctxs[c]).members
  parity : (t.ctxs[c]).parity = (s.ctxs[c]).parity
  epoch : (t.ctxs[c]).epoch = (s.ctxs[c]).epoch
  half : ∀ p : HalfParity, (t.ctxs[c]).half p =
    if ∃ b ∈ bs, b.half = some p then ((s.ctxs[c]).half p).map (·.restarted s.ticks.now) else (s.ctxs[c]).half p

theorem State.refreshHalf_eq (s : State) (c : Fin 8) {b : KeyBlock} {p : HalfParity} (hp : b.half = some p) :
    s.refreshHalf c b = s.setHalf (c, p) (((s.ctxs[c]).half p).map (·.restarted s.ticks.now)) := by
  simp only [State.refreshHalf, hp]
  rfl

theorem Context.setHalf_epoch (c : Context) (p : HalfParity) (h : Option Half) : (c.setHalf p h).epoch = c.epoch := by
  cases p <;> rfl

/-- R88: one half block more, in front of the others. -/
theorem HalvesRestarted.cons {c : Fin 8} {b : KeyBlock} {bs : List KeyBlock} {s t : State} {p : HalfParity}
    (hp : b.half = some p) (h : HalvesRestarted c bs (s.refreshHalf c b) t) : HalvesRestarted c (b :: bs) s t := by
  rw [s.refreshHalf_eq c hp] at h
  generalize hx : ((s.ctxs[c]).half p).map (·.restarted s.ticks.now) = x at h
  obtain ⟨hlife, hmembers, hparity⟩ := (s.ctxs[c]).setHalf_fields p x
  have hctx : (s.setHalf (c, p) x).ctxs[c] = (s.ctxs[c]).setHalf p x := by rw [State.setHalf_get, if_pos rfl]
  refine ⟨?_, fun d hd => ?_, ?_, ?_, ?_, ?_, fun q => ?_⟩
  · obtain ⟨cs, hcs⟩ := h.state
    exact ⟨cs, hcs⟩
  · rw [h.others d hd, State.setHalf_get, if_neg (Ne.symm hd)]
  · rw [h.life, hctx, hlife]
  · rw [h.members, hctx, hmembers]
  · rw [h.parity, hctx, hparity]
  · rw [h.epoch, hctx, Context.setHalf_epoch]
  · have htail := h.half q
    rw [hctx] at htail
    rw [htail]
    simp only [List.exists_mem_cons_iff]
    by_cases hq : q = p
    · subst hq
      rw [Context.setHalf_same, ← hx, Option.map_map]
      simp only [hp, true_or, if_true]
      exact ite_self _
    · have hne : b.half ≠ some q := fun e => hq (Option.some.inj (e.symm.trans hp))
      simp only [Context.setHalf_other _ _ hq, hne, false_or]
      rfl

/-- R88: the ageing timers of the halves that the blocks name start again. -/
def State.halvesRestarted (s : State) (c : Fin 8) (bs : List KeyBlock) : State :=
  bs.foldl (fun s b => s.refreshHalf c b) s

theorem State.halvesRestarted_restarts (c : Fin 8) (bs : List KeyBlock) (s : State)
    (h : ∀ b ∈ bs, ∃ p : HalfParity, b.half = some p) : HalvesRestarted c bs s (s.halvesRestarted c bs) := by
  induction bs generalizing s with
  | nil => exact ⟨⟨_, rfl⟩, fun _ _ => rfl, rfl, rfl, rfl, rfl, fun p => by simp [State.halvesRestarted]⟩
  | cons b bs ih =>
    obtain ⟨p, hp⟩ := h b List.mem_cons_self
    exact .cons hp (ih _ fun x hx => h x (List.mem_cons_of_mem b hx))

theorem HalvesRestarted.frame {c : Fin 8} {bs : List KeyBlock} {s t : State} (h : HalvesRestarted c bs s t) :
    Frame [.contexts] s t := by
  obtain ⟨cs, rfl⟩ := h.state
  exact ⟨by simp [onlyChanges, Area.forall_iff, Area.same], rfl⟩

/-- R88: where every half is present with the block's wrapped key and every check is clean, the comparison succeeds. -/
theorem State.compareBlocks_match {s : State} {c : Fin 8} {bs : List KeyBlock} {fs : List EccFinding}
    (hclean : ∀ x ∈ fs, x = .clean) (hmatch : ∀ b ∈ bs, ∃ (p : HalfParity) (h : Half), b.half = some p ∧
      (s.ctxs[c]).half p = some h ∧ h.wrapped = b.wrapped) : s.compareBlocks c bs fs = (s, true) := by
  induction bs generalizing fs with
  | nil => rfl
  | cons b bs ih =>
    obtain ⟨p, h, hp, hh, hwrapped⟩ := hmatch b List.mem_cons_self
    have hat : s.halfAt (c, p) = some h := hh
    have hhead : fs.headD .clean = .clean := by
      cases fs with
      | nil => rfl
      | cons f fs => exact hclean f List.mem_cons_self
    have htail := ih (fs := fs.tail) (fun x hx => hclean x (List.mem_of_mem_tail hx)) fun x hx =>
      hmatch x (List.mem_cons_of_mem b hx)
    simp only [State.compareBlocks, hp, hat, hhead, State.eccCheck, hwrapped, decide_true, Bool.and_self, if_true, htail]

/-- R194: the outcome detail of a refresh. -/
theorem keyDetail_refresh (c : Fin 8) (bs : List KeyBlock) :
    keyDetail c 2 bs 0 = c.val * 16777216 + 2 * 65536 + parityFlags bs * 256 := by
  rw [keyDetail, Nat.add_zero]

theorem State.keyRefresh_match {s : State} {c : Fin 8} {bs : List KeyBlock} {fs : List EccFinding}
    (h : s.compareBlocks c bs fs = (s, true)) :
    s.keyRefresh c bs fs = (s.halvesRestarted c bs, accepted (keyDetail c 2 bs 0)) := by
  rw [State.keyRefresh, h]
  rfl

/-! ### KEY (R85 to R89) -/

/-- R89: the load that a KEY record is. -/
def keyLoadOf (u : KeyUnwrap) (r : Record) (c : Fin 8) : KeyLoad := ⟨c, r.b2 4, r.keyBlocks, u.content⟩

theorem exec_key (u : KeyUnwrap) (s : State) :
    exec (.key u) s = recordStep s .key (fun _ => true) (fun s f => s.keyRecord u f.bytes) := rfl

section Checked

variable {s : State} {u : KeyUnwrap} {r : Record} {c : Fin 8} (hchecks : keyChecks u.pass r = none)
  (hc : s.findContext (r.b2 0) (r.b1 2) = some c)
include hchecks hc

theorem State.keyRecord_newer (h : epochOrder (r.b2 4) (s.ctxs[c]).epoch = .newer) :
    s.keyRecord u r = s.keyLoad c (r.b2 4) r.keyBlocks u.content := by
  simp only [State.keyRecord, hchecks, hc, h]

theorem State.keyRecord_equal (h : epochOrder (r.b2 4) (s.ctxs[c]).epoch = .equal) :
    s.keyRecord u r = s.keyRefresh c r.keyBlocks u.ecc := by
  simp only [State.keyRecord, hchecks, hc, h]

end Checked

theorem State.finishRecord_settle_loadOrder (u : State) {f : Fetched} (ha : f.attached = true) (ws : List OwnReq)
    (out : Outcome) : (u.finishRecord f ws out).settle.loadOrder = u.loadOrder := by
  rw [State.finishRecord_attached u ha]
  simp

/-- Settles O30: a newer epoch is a load (`State.keysFollowed`), the same epoch with matching halves a refresh
(`State.halvesRestarted`). -/
theorem keyRecordLoadsOrRefreshes : Obligations.KeyRecordLoadsOrRefreshes := by
  unfold Obligations.KeyRecordLoadsOrRefreshes
  intro s f u c h hchecks hc
  have ⟨hf, ha, _⟩ := h
  have hbs := keyChecks_blocksOk hchecks
  rw [exec_key]
  refine ⟨fun hepoch => ?_, fun hepoch hclean hmatch => ?_⟩
  · have hkey := (State.keyRecord_newer (s := s.freePort) hchecks hc (epochOrder_newer hepoch)).trans
      (s.freePort.keyLoad_eq (keyLoadOf u f.bytes c))
    have hframe := s.freePort.keysFollowed_frame (keyLoadOf u f.bytes c) hbs
    have hend (ws : List OwnReq) (out : Outcome) := s.freePort.finishRecord_loadEnd (l := keyLoadOf u f.bytes c) hbs ha ws out
    refine ⟨_, recordStep_atHand h rfl hkey, ?_, (hend _ _).epoch, fun k b p => (hend _ _).named,
      fun d p hnamed => ?_, fun d hd => ?_, fun hm x v hx => (hend _ _).governing_follows hm hx.1 hx.2 v,
      fun x v ⟨d, hd, hactive, hmember, hv⟩ => (hend _ _).moved_follows hd hv hactive hmember v,
      fun hslot hunnamed hpreviews => (hend _ _).silent ((hend _ _).unevaluated hslot hunnamed hpreviews),
      (hend _ _).orders, ((hend _ _).pool c).1, ((hend _ _).pool c).2.1, ((hend _ _).pool c).2.2, (hend _ _).owned, ?_⟩
    · have hafter := State.finishRecord_after (s := s) ha (s.freePort.keysFollowed_noticed (keyLoadOf u f.bytes c) hbs)
        (hframe.only .config (by decide)) (hframe.only .intake (by decide)) .key
        (accepted (keyDetail c 1 f.bytes.keyBlocks ((s.freePort.keysJudged (keyLoadOf u f.bytes c)).ctxs[c]).governingCode))
      rw [(hend _ _).ctxs]
      exact hafter
    · have hplace : (d, p) ∉ (keyLoadOf u f.bytes c).places := fun hmem => by
        obtain ⟨hd, b, hb, hp⟩ := mem_loadedPlaces.mp hmem
        exact hnamed.elim (· hd) (fun hno => hno b hb hp)
      exact ⟨((hend _ _).unnamed_verdict hplace).isSome, fun a b => (hend _ _).kept hplace⟩
    · obtain ⟨hlife, hmembers, hparity⟩ := (hend _ _).pool d
      exact ⟨hlife, hmembers, hparity, (hend _ _).other_epoch hd⟩
    · exact State.finishRecord_frame hf ha hframe (by decide) (by decide) _ _
  · have hmatched : s.freePort.compareBlocks c f.bytes.keyBlocks u.ecc = (s.freePort, true) :=
      State.compareBlocks_match hclean fun b hb => by
        obtain ⟨p, hp⟩ := hbs.half b hb
        obtain ⟨x, hx, hwrapped⟩ := hmatch b p hb hp
        exact ⟨p, x, hp, hx, hwrapped⟩
    have horder : epochOrder (f.bytes.b2 4) (s.ctxs[c]).epoch = .equal := by rw [hepoch, epochOrder_equal]
    have hkey := (State.keyRecord_equal (s := s.freePort) hchecks hc horder).trans (State.keyRefresh_match hmatched)
    have hdone := State.halvesRestarted_restarts c f.bytes.keyBlocks s.freePort hbs.half
    generalize s.freePort.halvesRestarted c f.bytes.keyBlocks = t at hkey hdone
    have hend := t.finishRecord_end ha (t.scrubWrites f.slot .key) (accepted (keyDetail c 2 f.bytes.keyBlocks 0))
    obtain ⟨cs, hcs⟩ := hdone.state
    refine ⟨_, recordStep_atHand h rfl hkey, ?_, ?_⟩
    · rw [← keyDetail_refresh]
      exact State.finishRecord_answers_from ha (by rw [hcs]) (by rw [hcs]; rfl) (by rw [hcs]; rfl) .key _
    rw [hend.ctxs]
    refine ⟨hdone.half, hdone.epoch, hdone.parity, hdone.life, hdone.members, ?_, fun d hd => ?_, ?_⟩
    · rw [State.finishRecord_settle_loadOrder t ha, hcs]
      rfl
    · rw [hend.ctxs]
      exact hdone.others d hd
    · exact State.finishRecord_frame hf ha hdone.frame (by decide) (by decide) _ _

end Sys2Proof.Machine
end

section
/-! PROOFS. Package validity (R102) and the verdict of criteria (R118). -/

namespace Sys2Proof.Machine

theorem State.packageValid_iff (s : State) (p : Fin 64) : s.packageValid p.val = true ↔
    ∃ k : Package, s.rights.packages[p] = some k ∧ (k.expiry = none ∨ s.guide.clock = none ∨
      ∃ x c : Nat, k.expiry = some x ∧ s.guide.clock = some c ∧ c / 60 < x) := by
  simp only [State.packageValid, p.isLt, dif_pos, Fin.getElem_fin]
  cases s.rights.packages[p.val] with
  | none => simp
  | some k =>
    cases hx : k.expiry <;> cases hc : s.guide.clock <;> simp [hx, Guide.nowMinute, hc]

theorem State.judge_package (s : State) (p : Nat) :
    (s.judge (.package p)).verdict = if s.packageValid p then .entitled else .notEntitled := rfl

/-- R118: what entitles to an event. -/
theorem State.eventEntitled_iff (s : State) (e : EventCriteria) : (s.includedBy e || s.access.owns e.event) = true ↔
    (∃ p : Nat, e.including = some p ∧ s.packageValid p = true) ∨ ∃ x ∈ s.access.owned, x.event = e.event := by
  rw [Bool.or_eq_true, s.includedBy_iff, s.access.owns_iff]

theorem State.judge_event_entitled {s : State} {e : EventCriteria}
    (h : (∃ p : Nat, e.including = some p ∧ s.packageValid p = true) ∨ ∃ x ∈ s.access.owned, x.event = e.event) :
    (s.judge (.event e)).verdict = .entitled := by
  simp only [State.judge, (s.eventEntitled_iff e).mpr h, if_true]

theorem AccessUnit.judgePreview_verdict (a : AccessUnit) (e : EventCriteria) (t : Option Nat) :
    (a.judgePreview e t).verdict = .preview ∨ (a.judgePreview e t).verdict = .purchaseNeeded :=
  (a.judgePreview_effect e t).again.verdict

theorem State.judge_event_other {s : State} {e : EventCriteria}
    (hp : ¬ ∃ p : Nat, e.including = some p ∧ s.packageValid p = true) (ho : ∀ x ∈ s.access.owned, x.event ≠ e.event) :
    (s.judge (.event e)).verdict = .preview ∨ (s.judge (.event e)).verdict = .purchaseNeeded := by
  have hnot : ¬ (s.includedBy e || s.access.owns e.event) = true := fun h =>
    ((s.eventEntitled_iff e).mp h).elim hp fun ⟨x, hx, he⟩ => ho x hx he
  simp only [State.judge, if_neg hnot]
  exact s.access.judgePreview_verdict e s.guide.nowMinute

/-- Settles O34: the verdict of each kind of criteria by its own lemma. -/
theorem verdictsFollowCriteria : Obligations.VerdictsFollowCriteria := by
  unfold Obligations.VerdictsFollowCriteria
  refine fun s => ⟨rfl, fun p => ?_, fun e => ⟨State.judge_event_entitled, State.judge_event_other⟩⟩
  rw [State.judge_package, ← s.packageValid_iff p]
  cases s.packageValid p.val <;> simp

end Sys2Proof.Machine
end

section
/-! PROOFS. RIGHTS records, the journal (R103, R109, R111, R139, R140): what the appends of a record's items leave of the
purse and which notices they hand over. -/

namespace Sys2Proof.Machine

/-! ### Notices one after another (R182) -/

/-- The notices were handed over and nothing else that the Notice Writer or the DRAM port holds has changed. -/
structure Handed (ns : List Notice) (s t : State) : Prop where
  inputs : NoticeInputs (ns.foldl State.notify s) t
  port : t.port = (ns.foldl State.notify s).port

theorem Handed.nil {s t : State} (h : NoticeInputs s t) (hp : t.port = s.port) : Handed [] s t := ⟨h, hp⟩

theorem Handed.trans {ns ms : List Notice} {s t u : State} (h : Handed ns s t) (k : Handed ms t u) :
    Handed (ns ++ ms) s u := by
  obtain ⟨hinputs, rs, e1, e2⟩ := h.inputs.foldl ms
  refine ⟨?_, ?_⟩ <;> rw [List.foldl_append]
  · exact hinputs.trans k.inputs
  · rw [k.port, e2, e1, h.port]

/-- R182: one notice, after an operation that changed nothing the Notice Writer reads. -/
theorem Handed.one {s t : State} (n : Notice) (h : NoticeInputs s t) (hp : t.port = s.port) : Handed [n] s (t.notify n) :=
  Handed.trans (Handed.nil h hp) ⟨⟨rfl, rfl, rfl, rfl⟩, rfl⟩

theorem Handed.noticed {ns : List Notice} {s t : State} (h : Handed ns s t) : Noticed s t := by
  have hwork : GateWork s (ns.foldl State.notify s) := GateWork.foldl _ State.notify_work ns s
  exact hwork.noticed.trans (.of_port h.port)

/-! ### The append (R140) -/

/-- R144: the erase-ahead target is `x`. -/
def State.withTarget (s : State) (x : Option Target) : State := s.modPurse (fun p => { p with target := x })

theorem State.followPosition_eq (s : State) (old : Nat) : ∃ x : Option Target, s.followPosition old = s.withTarget x := by
  unfold State.followPosition State.retarget
  split
  · exact ⟨s.purse.target, rfl⟩
  · split
    · exact ⟨s.purse.target, rfl⟩
    · exact ⟨_, rfl⟩

theorem State.followCollect_eq (s : State) (k : JournalKind) : ∃ x : Option Target, s.followCollect k = s.withTarget x := by
  cases k with
  | collect => exact s.recheckTarget_eq
  | purchase | topup => exact ⟨s.purse.target, rfl⟩

/-- R140: an append joins its record to the purse, may find or check the target again, and hands over the JOURNAL
notice. -/
theorem State.append_eq (s : State) (e : Entry) : ∃ x : Option Target, s.append e =
    ((s.modPurse (fun p => p.join (s.journalRecord e))).withTarget x).notify (.journal (s.journalRecord e)) := by
  obtain ⟨x, hx⟩ := (s.modPurse (fun p => p.join (s.journalRecord e))).followPosition_eq s.purse.writePos
  obtain ⟨y, hy⟩ := ((s.modPurse (fun p => p.join (s.journalRecord e))).withTarget x).followCollect_eq e.kind
  refine ⟨y, ?_⟩
  simp only [State.append, hx, hy]
  rfl

section Raise

variable (p : Purse) (r : JournalRecord)

theorem Purse.raiseFloor_list : (p.raiseFloor r).list = p.list := by unfold Purse.raiseFloor; split <;> rfl
theorem Purse.raiseFloor_queue : (p.raiseFloor r).queue = p.queue := by unfold Purse.raiseFloor; split <;> rfl
theorem Purse.raiseFloor_balance : (p.raiseFloor r).balance = p.balance := by unfold Purse.raiseFloor; split <;> rfl

/-- R103: a TOPUP or COLLECT record raises the floor of its address kind. -/
theorem Purse.raiseFloor_floor (g : Bool) : (p.raiseFloor r).floor g =
    if g = decide (r.endMinute ≠ 0) then max (p.floor g) r.event else p.floor g := by
  unfold Purse.raiseFloor
  cases g <;> by_cases h : r.endMinute = 0 <;> simp [h, Purse.floor]

theorem Purse.raise_list : (p.raise r).list = p.list := by
  unfold Purse.raise
  cases r.kind <;> simp [Purse.raiseFloor_list]

theorem Purse.raise_queue : (p.raise r).queue = p.queue := by
  unfold Purse.raise
  cases r.kind <;> simp [Purse.raiseFloor_queue]

theorem Purse.raise_balance : (p.raise r).balance = p.balance := by
  unfold Purse.raise
  cases r.kind <;> simp [Purse.raiseFloor_balance]

theorem Purse.raise_floor (h : r.kind ≠ .purchase) (g : Bool) : (p.raise r).floor g = (p.raiseFloor r).floor g := by
  unfold Purse.raise
  cases hk : r.kind with
  | purchase => exact absurd hk h
  | topup | collect => rfl

theorem Purse.join_list : (p.join r).list = p.list ++ [r] := Purse.raise_list _ r
theorem Purse.join_queue : (p.join r).queue = p.queue ++ [r] := Purse.raise_queue _ r
theorem Purse.join_balance : (p.join r).balance = r.balanceAfter := Purse.raise_balance _ r

theorem Purse.join_floor (h : r.kind ≠ .purchase) (g : Bool) : (p.join r).floor g =
    if g = decide (r.endMinute ≠ 0) then max (p.floor g) r.event else p.floor g := by
  unfold Purse.join
  rw [Purse.raise_floor _ r h, Purse.raiseFloor_floor]
  rfl

end Raise

end Sys2Proof.Machine
end

section
/-! PROOFS. RIGHTS records, the items (R105, R108 to R113): what applying them in order leaves of the journal, the tables
and the profiles. -/

namespace Sys2Proof.Machine

/-! ### What an item says -/

/-- R109, R111: the kind, amount and up-to sequence of the record that an item appends. -/
def RightsItem.entered (it : RightsItem) : Option (JournalKind × Int × Nat) :=
  match it with
  | .topup a => some (.topup, a, 0)
  | .collect k => some (.collect, 0, k)
  | _ => none

/-- R108, R110, R112: the Rights Table after an item. -/
def RightsItem.onRights (r : Rights) (it : RightsItem) : Rights :=
  match it with
  | .packageSet p x => r.setPackage p (some ⟨x⟩)
  | .packageClear p => r.setPackage p none
  | .overdraft l => { r with overdraft := l }
  | .region c => { r with region := c }
  | .mask c => { r with mask := c }
  | .topup _ | .collect _ | .pinReset _ _ | .unknown _ => r

/-- R113: profile `q` after an item. -/
def RightsItem.onProfile (q : Fin 6) (x : Profile) (it : RightsItem) : Profile :=
  match it with
  | .pinReset n pin =>
    if n = q.val then { x with pin := (pinOf pin).getD x.pin, failures := 0, lockoutEnd := none } else x
  | _ => x

theorem RightsItem.appends_eq (it : RightsItem) : it.appends = it.entered.isSome := by cases it <;> rfl

theorem length_filterMap_entered (its : List RightsItem) :
    (its.filterMap RightsItem.entered).length = (its.filter RightsItem.appends).length := by
  rw [List.length_filterMap_eq_countP, List.countP_eq_length_filter, funext RightsItem.appends_eq]

/-! ### The purse after the appends of items (R103, R109, R111, R139, R140) -/

/-- The records `rs` are those that the items `its` of a RIGHTS record append to purse `p` at clock `clock`, and `q` is the
purse after them. -/
structure Appended (op : RightsOp) (clock : Nat) (its : List RightsItem) (rs : List JournalRecord) (p q : Purse) :
    Prop where
  list : q.list = p.list ++ rs
  queue : q.queue = p.queue ++ rs
  newest : q.newest = p.newest + rs.length
  entered : rs.map (fun r => (r.kind, r.amount, r.upTo)) = its.filterMap RightsItem.entered
  seqs : rs.map (·.seq) = (List.range rs.length).map (fun k => p.newest + 1 + k)
  carried : ∀ r ∈ rs, r.event = op.sequence ∧ r.endMinute = (if op.addressKind = 2 then 1 else 0) ∧ r.output = none ∧
    r.clock = clock
  balance : q.balance = p.balance + (rs.map (·.amount)).sum
  rises : p.floor op.group ≤ q.floor op.group
  floor : rs ≠ [] → op.sequence ≤ q.floor op.group

theorem Appended.none {op : RightsOp} {clock : Nat} {its : List RightsItem} (h : its.filterMap RightsItem.entered = [])
    (p : Purse) : Appended op clock its [] p p where
  list := (List.append_nil _).symm
  queue := (List.append_nil _).symm
  newest := rfl
  entered := h.symm
  seqs := rfl
  carried := by simp
  balance := by simp
  rises := le_rfl
  floor h := absurd rfl h

theorem Appended.trans {op : RightsOp} {clock : Nat} {its jts : List RightsItem} {rs qs : List JournalRecord}
    {p q r : Purse} (h : Appended op clock its rs p q) (k : Appended op clock jts qs q r) :
    Appended op clock (its ++ jts) (rs ++ qs) p r where
  list := by rw [k.list, h.list, List.append_assoc]
  queue := by rw [k.queue, h.queue, List.append_assoc]
  newest := by rw [k.newest, h.newest, List.length_append, Nat.add_assoc]
  entered := by rw [List.map_append, List.filterMap_append, h.entered, k.entered]
  seqs := by
    rw [List.map_append, h.seqs, k.seqs, h.newest, List.length_append, List.range_add, List.map_append, List.map_map]
    refine congrArg _ (List.map_congr_left fun n _ => ?_)
    simp only [Function.comp_apply]
    omega
  carried x hx := (List.mem_append.mp hx).elim (h.carried x) (k.carried x)
  balance := by rw [k.balance, h.balance, List.map_append, List.sum_append, Int.add_assoc]
  rises := h.rises.trans k.rises
  floor hne := by
    by_cases hq : qs = []
    · exact (h.floor fun hr => hne (by rw [hr, hq]; rfl)).trans k.rises
    · exact k.floor hq

/-- What the appends leave does not speak of the erase-ahead target. -/
theorem Appended.untargeted {op : RightsOp} {clock : Nat} {its : List RightsItem} {rs : List JournalRecord}
    {p q r : Purse} (h : Appended op clock its rs p q) (hr : r.untargeted = q.untargeted) :
    Appended op clock its rs p r where
  list := (congrArg Purse.list hr :).trans h.list
  queue := (congrArg Purse.queue hr :).trans h.queue
  newest := (congrArg Purse.newest hr :).trans h.newest
  entered := h.entered
  seqs := h.seqs
  carried := h.carried
  balance := (congrArg Purse.balance hr :).trans h.balance
  rises := h.rises.trans_eq (congrArg (Purse.floor · op.group) hr :).symm
  floor hne := (h.floor hne).trans_eq (congrArg (Purse.floor · op.group) hr :).symm

/-- R109, R111, R140: one item that appends. -/
theorem Appended.one (op : RightsOp) (s : State) {it : RightsItem} {kind : JournalKind} {amount : Int} {upTo : Nat}
    (hit : it.entered = some (kind, amount, upTo)) (hk : kind ≠ .purchase) :
    Appended op (s.guide.clock.getD 0) [it] [s.journalRecord (op.entry kind amount upTo)] s.purse
      (s.purse.join (s.journalRecord (op.entry kind amount upTo))) := by
  have hfloor := s.purse.join_floor (s.journalRecord (op.entry kind amount upTo)) hk op.group
  have hgroup : op.group = decide ((s.journalRecord (op.entry kind amount upTo)).endMinute ≠ 0) := by
    show op.group = decide ((if op.group then 1 else 0) ≠ 0)
    by_cases h : op.group = true <;> simp [h]
  rw [if_pos hgroup] at hfloor
  exact {
    list := s.purse.join_list _
    queue := s.purse.join_queue _
    newest := by
      rw [Purse.newest, s.purse.join_list, List.getLast?_concat]
      rfl
    entered := by
      simp only [List.filterMap_cons, hit]
      rfl
    seqs := rfl
    carried := by
      intro r hr
      rw [List.mem_singleton.mp hr]
      refine ⟨rfl, ?_, rfl, rfl⟩
      show (if op.group then 1 else 0) = _
      simp [RightsOp.group]
    balance := by
      rw [s.purse.join_balance, List.map_singleton, List.sum_singleton]
      rfl
    rises := hfloor ▸ le_max_left _ _
    floor := fun _ => hfloor ▸ le_max_right _ _ }

/-! ### The frames of an item's operations -/

theorem State.modRights_frame (s : State) (f : Rights → Rights) : Frame [.rights] s (s.modRights f) :=
  ⟨by simp [onlyChanges, Area.forall_iff, Area.same], rfl⟩

theorem State.modPurse_frame (s : State) (f : Purse → Purse) : Frame [.journal, .flashWork] s (s.modPurse f) :=
  ⟨by simp [onlyChanges, Area.forall_iff, Area.same], rfl⟩

theorem State.markChange_frame (s : State) : Frame [.flashWork] s s.markChange :=
  ⟨by simp [onlyChanges, Area.forall_iff, Area.same], rfl⟩

/-! ### The items of a record (R108 to R113) -/

/-- What items of a RIGHTS record can change: the Rights Table, the profiles, the journal and the notices. -/
abbrev itemAreas : List Area := [.own, .rights, .journal, .flashWork, .profiles, .writer]

/-- R108 to R113: what applying the items `its` leaves but for the Rights Table and the notices; `rs` are the records
appended. -/
structure RightsLeave (op : RightsOp) (its : List RightsItem) (rs : List JournalRecord) (s t : State) : Prop where
  frame : Frame itemAreas s t
  flashPort : t.flashPort = s.flashPort
  profiles : ∀ q : Fin 6, t.profiles[q] = its.foldl (RightsItem.onProfile q) s.profiles[q]
  purse : Appended op (s.guide.clock.getD 0) its rs s.purse t.purse
  target : rs = [] → t.purse.target = s.purse.target

/-- R108 to R113: what applying the items `its` leaves, also of the Rights Table, the settings store and the notices. -/
structure RightsApplied (op : RightsOp) (its : List RightsItem) (rs : List JournalRecord) (s t : State) : Prop extends
    RightsLeave op its rs s t where
  settings : t.settings = s.settings
  rights : t.rights = its.foldl RightsItem.onRights s.rights
  handed : Handed (rs.map Notice.journal) s t

theorem RightsApplied.nil (op : RightsOp) (s : State) : RightsApplied op [] [] s s where
  frame := .refl _ s
  flashPort := rfl
  profiles _ := rfl
  purse := .none rfl _
  target _ := rfl
  settings := rfl
  rights := rfl
  handed := .nil ⟨rfl, rfl, rfl, rfl⟩ rfl

theorem RightsApplied.trans {op : RightsOp} {its jts : List RightsItem} {rs qs : List JournalRecord} {s t u : State}
    (h : RightsApplied op its rs s t) (k : RightsApplied op jts qs t u) : RightsApplied op (its ++ jts) (rs ++ qs) s u where
  frame := h.frame.trans k.frame (List.Subset.refl _) (List.Subset.refl _)
  flashPort := k.flashPort.trans h.flashPort
  profiles q := by rw [k.profiles, h.profiles, List.foldl_append]
  purse := by
    have hguide : t.guide = s.guide := h.frame.only .guide (by decide)
    exact h.purse.trans (hguide ▸ k.purse)
  target hnil := by
    obtain ⟨hr, hq⟩ := List.append_eq_nil_iff.mp hnil
    exact (k.target hq).trans (h.target hr)
  settings := k.settings.trans h.settings
  rights := by rw [k.rights, h.rights, List.foldl_append]
  handed := by
    rw [List.map_append]
    exact h.handed.trans k.handed

/-! ### One item -/

/-- R109, R111: an item that appends leaves the tables and the profiles alone. -/
theorem RightsItem.tables_of_entered {it : RightsItem} (h : it.entered ≠ none) :
    (∀ r : Rights, r = it.onRights r) ∧ ∀ (q : Fin 6) (x : Profile), x = it.onProfile q x := by
  cases it with
  | topup | collect => exact ⟨fun _ => rfl, fun _ _ => rfl⟩
  | _ => exact absurd rfl h

theorem RightsApplied.append (op : RightsOp) (s : State) {it : RightsItem} {kind : JournalKind} {amount : Int} {upTo : Nat}
    (hit : it.entered = some (kind, amount, upTo)) (hk : kind ≠ .purchase) :
    RightsApplied op [it] [s.journalRecord (op.entry kind amount upTo)] s (s.append (op.entry kind amount upTo)) := by
  obtain ⟨hrights, hprofiles⟩ := RightsItem.tables_of_entered (it := it) (by simp [hit])
  obtain ⟨x, hx⟩ := s.append_eq (op.entry kind amount upTo)
  have hjoin := (s.modPurse_frame (fun p => p.join (s.journalRecord (op.entry kind amount upTo)))).trans
    (State.modPurse_frame _ (fun p => { p with target := x })) (List.Subset.refl _) (List.Subset.refl _)
  rw [hx]
  exact {
    frame := hjoin.trans (State.notify_frame _ _) (by decide) (by decide)
    flashPort := State.notify_flashPort _ _
    profiles := fun q => by
      rw [State.notify_profiles]
      exact hprofiles q _
    purse := by
      rw [State.notify_purse]
      exact (Appended.one op s hit hk).untargeted rfl
    target := fun h => nomatch h
    settings := State.notify_settings _ _
    rights := by
      rw [State.notify_rights]
      exact hrights _
    handed := .one _ ⟨rfl, rfl, rfl, rfl⟩ rfl }

/-- R108, R110, R112: an item that changes the Rights Table alone. -/
theorem RightsApplied.table (op : RightsOp) (s : State) {it : RightsItem} (hit : it.entered = none)
    (hp : ∀ (q : Fin 6) (x : Profile), x = it.onProfile q x) :
    RightsApplied op [it] [] s (s.modRights (fun r => it.onRights r)) where
  frame := (s.modRights_frame _).mono (by decide)
  flashPort := rfl
  profiles q := hp q _
  purse := .none (by simp [hit]) _
  target _ := rfl
  settings := rfl
  rights := rfl
  handed := .nil ⟨rfl, rfl, rfl, rfl⟩ rfl

/-- R113: each profile after a PIN_RESET item. -/
theorem State.pinReset_get (s : State) (n : Nat) (pin : List Byte) (q : Fin 6) :
    (s.pinReset n pin).profiles[q] = (RightsItem.pinReset n pin).onProfile q s.profiles[q] := by
  unfold State.pinReset outputOf
  by_cases hn : n < 6
  · rw [dif_pos hn]
    show (s.modProfile ⟨n, hn⟩ _).profiles[q] = _
    rw [State.modProfile_get]
    simp only [RightsItem.onProfile, Fin.ext_iff]
  · rw [dif_neg hn]
    have hne : n ≠ q.val := fun h => hn (h ▸ q.isLt)
    simp only [RightsItem.onProfile, if_neg hne]

theorem RightsApplied.pinReset (op : RightsOp) (s : State) (n : Nat) (pin : List Byte) :
    RightsApplied op [.pinReset n pin] [] s (s.pinReset n pin) := by
  have hother : ∃ ps : Vector Profile 6, s.pinReset n pin = { s with profiles := ps } := by
    unfold State.pinReset
    split <;> exact ⟨_, rfl⟩
  have hget := s.pinReset_get n pin
  obtain ⟨ps, hps⟩ := hother
  rw [hps] at hget ⊢
  exact {
    frame := ⟨by simp [onlyChanges, Area.forall_iff, Area.same], rfl⟩
    flashPort := rfl
    profiles := hget
    purse := .none rfl _
    target := fun _ => rfl
    settings := rfl
    rights := rfl
    handed := .nil ⟨rfl, rfl, rfl, rfl⟩ rfl }

/-- R108 to R113: one item. -/
theorem State.applyRight_applied (op : RightsOp) (s : State) (it : RightsItem) :
    ∃ rs : List JournalRecord, RightsApplied op [it] rs s (s.applyRight op it) := by
  cases it with
  | topup a => exact ⟨_, .append op s rfl (by decide)⟩
  | collect k => exact ⟨_, .append op s rfl (by decide)⟩
  | pinReset n pin => exact ⟨_, .pinReset op s n pin⟩
  | packageSet | packageClear | overdraft | region | mask | unknown => exact ⟨_, .table op s rfl fun _ _ => rfl⟩

/-- R108 to R113: the items in order. -/
theorem State.applyRights_items (op : RightsOp) (its : List RightsItem) (s : State) :
    ∃ rs : List JournalRecord, RightsApplied op its rs s (its.foldl (State.applyRight op) s) := by
  induction its generalizing s with
  | nil => exact ⟨_, .nil op s⟩
  | cons it its ih =>
    obtain ⟨rs, hone⟩ := s.applyRight_applied op it
    obtain ⟨qs, hrest⟩ := ih (s.applyRight op it)
    exact ⟨_, hone.trans hrest⟩

end Sys2Proof.Machine
end

section
/-! PROOFS. RIGHTS records, the checks (R104, R105) and the Rights Table (R107, R108, R110, R112): what passing the checks
says of a record's items, and what the items leave of each field. -/

namespace Sys2Proof.Machine

/-! ### The header (R104) -/

theorem State.rightsHeader_of_check {s : State} {pass : Bool} {op : RightsOp} (h : s.rightsCheck pass op = none) :
    s.rightsHeader pass op = none := by
  unfold State.rightsCheck at h
  split at h
  · cases h
  · assumption

theorem State.rightsCheck_header {s : State} {pass : Bool} {op : RightsOp} (h : s.rightsCheck pass op = none) :
    (op.addressKind = 1 ∨ op.addressKind = 2) ∧ s.rightsBar op.group < op.sequence := by
  have hheader := State.rightsHeader_of_check h
  unfold State.rightsHeader at hheader
  split_ifs at hheader with _ hkind _ hbar
  exact ⟨by omega, Nat.lt_of_not_le hbar⟩

theorem State.rightsCheck_items {s : State} {pass : Bool} {op : RightsOp} (h : s.rightsCheck pass op = none) :
    checkItems ⟨s.purse.balance, s.purse.newest⟩ 1 op.items = none := by
  rw [State.rightsCheck, State.rightsHeader_of_check h] at h
  exact (Option.or_eq_none_iff.mp h).1

/-! ### The items (R105) -/

theorem checkItems_cons {t : Trial} {k : Nat} {it : RightsItem} {rest : List RightsItem} :
    checkItems t k (it :: rest) = none ↔ ∃ t1 : Trial, it.check t = .ok t1 ∧ checkItems t1 (k + 1) rest = none := by
  rw [checkItems]
  cases it.check t <;> simp

theorem Trial.keep_eq_ok {t t1 : Trial} {b : Bool} : t.keep b = .ok t1 ↔ b = true ∧ t = t1 := by
  cases b <;> simp [Trial.keep]

/-- R109: the amount that an item adds to the balance. -/
def RightsItem.credit (it : RightsItem) : Int := it.entered.elim 0 (fun x => x.2.1)

/-- R105: the trial balance after an item, and its ceiling. -/
theorem RightsItem.check_balance {it : RightsItem} {t t1 : Trial} (h : it.check t = .ok t1) :
    t1.balance = t.balance + it.credit ∧ t1.balance ≤ max t.balance 1000000 := by
  have hkept (b : Bool) (hk : t.keep b = .ok t1) : t1.balance = t.balance + 0 ∧ t1.balance ≤ max t.balance 1000000 := by
    obtain ⟨-, rfl⟩ := Trial.keep_eq_ok.mp hk
    exact ⟨(Int.add_zero _).symm, le_max_left _ _⟩
  cases it with
  | topup a =>
    simp only [RightsItem.check] at h
    split_ifs at h with _ hle
    cases h
    exact ⟨rfl, le_max_of_le_right (Int.not_lt.mp hle)⟩
  | collect u =>
    simp only [RightsItem.check] at h
    split_ifs at h
    cases h
    exact ⟨(Int.add_zero _).symm, le_max_left _ _⟩
  | unknown => cases h
  | packageSet | packageClear | overdraft | region | pinReset | mask => exact hkept _ h

/-- R105: the balance after the credits of items that pass. -/
theorem checkItems_balance {t : Trial} {k : Nat} {its : List RightsItem} (h : checkItems t k its = none) :
    t.balance + ((its.filterMap RightsItem.entered).map (fun x => x.2.1)).sum ≤ max t.balance 1000000 := by
  induction its generalizing t k with
  | nil => simp
  | cons it its ih =>
    obtain ⟨t1, hit, hrest⟩ := checkItems_cons.mp h
    obtain ⟨hcredit, hceiling⟩ := RightsItem.check_balance hit
    have hsum : (((it :: its).filterMap RightsItem.entered).map (fun x => x.2.1)).sum =
        it.credit + ((its.filterMap RightsItem.entered).map (fun x => x.2.1)).sum := by
      unfold RightsItem.credit
      cases he : it.entered <;> simp [he]
    have hlater := ih hrest
    omega

/-- R105: the PIN_RESET items of a record that passes name a profile and a well-formed PIN. -/
theorem checkItems_pinReset {t : Trial} {k : Nat} {its : List RightsItem} (h : checkItems t k its = none) {n : Nat}
    {pin : List Byte} (hmem : .pinReset n pin ∈ its) : n ≤ 5 ∧ ∃ ds : List Nat, pinOf pin = some ds := by
  induction its generalizing t k with
  | nil => cases hmem
  | cons it its ih =>
    obtain ⟨t1, hit, hrest⟩ := checkItems_cons.mp h
    rcases List.mem_cons.mp hmem with rfl | hmem
    · have hfields := (Trial.keep_eq_ok.mp hit).1
      rw [Bool.and_eq_true, decide_eq_true_eq, Option.isSome_iff_exists] at hfields
      exact hfields
    · exact ih hrest hmem

/-! ### The Rights Table after the items (R107, R108, R110, R112) -/

theorem Rights.setPackage_get (r : Rights) (n : Nat) (k : Option Package) (p : Fin 64) :
    (r.setPackage n k).packages[p] = if n = p.val then k else r.packages[p] := by
  unfold Rights.setPackage
  split
  · simp only [Fin.getElem_fin, Vector.getElem_set]
  · next h =>
    have hne : n ≠ p.val := fun e => h (e ▸ p.isLt)
    rw [if_neg hne]

/-- R108: package entry `p` after an item. -/
def RightsItem.onPackage (p : Fin 64) (k : Option Package) (it : RightsItem) : Option Package :=
  match it with
  | .packageSet q x => if q = p.val then some ⟨x⟩ else k
  | .packageClear q => if q = p.val then none else k
  | _ => k

/-- R110: the overdraft limit after an item. -/
def RightsItem.onOverdraft (k : Nat) (it : RightsItem) : Nat :=
  match it with
  | .overdraft l => l
  | _ => k

/-- R112: the region code after an item. -/
def RightsItem.onRegion (k : Nat) (it : RightsItem) : Nat :=
  match it with
  | .region c => c
  | _ => k

/-- R112: the mask ceiling after an item. -/
def RightsItem.onMask (k : Nat) (it : RightsItem) : Nat :=
  match it with
  | .mask c => c
  | _ => k

theorem RightsItem.onRights_package (r : Rights) (it : RightsItem) (p : Fin 64) :
    (it.onRights r).packages[p] = it.onPackage p r.packages[p] := by
  cases it with
  | packageSet | packageClear => exact Rights.setPackage_get _ _ _ _
  | _ => rfl

/-- An item leaves the sequences alone, and of the other fields each depends on itself alone. -/
theorem RightsItem.onRights_fields (r : Rights) (it : RightsItem) :
    (it.onRights r).unitSeq = r.unitSeq ∧ (it.onRights r).groupSeq = r.groupSeq ∧
      (it.onRights r).overdraft = it.onOverdraft r.overdraft ∧ (it.onRights r).region = it.onRegion r.region ∧
      (it.onRights r).mask = it.onMask r.mask := by
  cases it with
  | packageSet | packageClear =>
    simp only [RightsItem.onRights, Rights.setPackage]
    split <;> exact ⟨rfl, rfl, rfl, rfl, rfl⟩
  | _ => exact ⟨rfl, rfl, rfl, rfl, rfl⟩

section Folded

variable (its : List RightsItem) (r : Rights)

theorem foldl_onRights_package (p : Fin 64) :
    (its.foldl RightsItem.onRights r).packages[p] = its.foldl (RightsItem.onPackage p) r.packages[p] :=
  (List.foldl_hom (fun r : Rights => r.packages[p]) fun r it => (it.onRights_package r p).symm).symm

theorem foldl_onRights_overdraft :
    (its.foldl RightsItem.onRights r).overdraft = its.foldl RightsItem.onOverdraft r.overdraft := by
  refine (List.foldl_hom Rights.overdraft fun r it => ?_).symm
  obtain ⟨-, -, hfield, -⟩ := it.onRights_fields r
  exact hfield.symm

theorem foldl_onRights_region :
    (its.foldl RightsItem.onRights r).region = its.foldl RightsItem.onRegion r.region := by
  refine (List.foldl_hom Rights.region fun r it => ?_).symm
  obtain ⟨-, -, -, hfield, -⟩ := it.onRights_fields r
  exact hfield.symm

theorem foldl_onRights_mask : (its.foldl RightsItem.onRights r).mask = its.foldl RightsItem.onMask r.mask := by
  refine (List.foldl_hom Rights.mask fun r it => ?_).symm
  obtain ⟨-, -, -, -, hfield⟩ := it.onRights_fields r
  exact hfield.symm

theorem foldl_onRights_sequences :
    (its.foldl RightsItem.onRights r).unitSeq = r.unitSeq ∧ (its.foldl RightsItem.onRights r).groupSeq = r.groupSeq := by
  induction its generalizing r with
  | nil => exact ⟨rfl, rfl⟩
  | cons it its ih =>
    obtain ⟨hunit, hgroup, -⟩ := it.onRights_fields r
    exact ⟨(ih _).1.trans hunit, (ih _).2.trans hgroup⟩

end Folded

theorem Rights.store_packages (r : Rights) (op : RightsOp) : (r.store op).packages = r.packages := by
  unfold Rights.store; split <;> rfl
theorem Rights.store_overdraft (r : Rights) (op : RightsOp) : (r.store op).overdraft = r.overdraft := by
  unfold Rights.store; split <;> rfl
theorem Rights.store_region (r : Rights) (op : RightsOp) : (r.store op).region = r.region := by
  unfold Rights.store; split <;> rfl
theorem Rights.store_mask (r : Rights) (op : RightsOp) : (r.store op).mask = r.mask := by
  unfold Rights.store; split <;> rfl

/-- R107 step 2: the record's sequence is stored for its address kind alone. -/
theorem Rights.store_sequences (r : Rights) {op : RightsOp} (h : op.addressKind = 1 ∨ op.addressKind = 2) :
    (r.store op).unitSeq = (if op.addressKind = 1 then op.sequence else r.unitSeq) ∧
      (r.store op).groupSeq = (if op.addressKind = 2 then op.sequence else r.groupSeq) := by
  unfold Rights.store RightsOp.group
  rcases h with h | h <;> simp [h]

/-! ### A REGION item that changes the code (R112, R115) -/

theorem regionMoves_cons {code : Nat} {it : RightsItem} {rest : List RightsItem} : regionMoves code (it :: rest) ↔
    (∃ c : Nat, it = .region c ∧ c ≠ code) ∨ regionMoves (it.onRegion code) rest := by
  constructor
  · rintro ⟨k, c, hk, hc⟩
    cases k with
    | zero => exact .inl ⟨c, Option.some.inj hk, hc⟩
    | succ k => exact .inr ⟨k, c, hk, hc⟩
  · rintro (⟨c, rfl, hc⟩ | ⟨k, c, hk, hc⟩)
    · exact ⟨0, c, rfl, hc⟩
    · exact ⟨k + 1, c, hk, hc⟩

theorem regionChanges_iff (code : Nat) (its : List RightsItem) : regionChanges code its = true ↔ regionMoves code its := by
  induction its generalizing code with
  | nil =>
    refine iff_of_false Bool.false_ne_true ?_
    rintro ⟨k, c, hk, -⟩
    cases hk
  | cons it its ih =>
    rw [regionMoves_cons, ← ih]
    cases it <;> simp [regionChanges, RightsItem.onRegion]

end Sys2Proof.Machine
end

section
/-! PROOFS. RIGHTS records, the verdicts and gates that follow (R115), and the obligation about RIGHTS records (R104 to
R115). -/

namespace Sys2Proof.Machine

/-! ### Verdicts and gates (R115) -/

/-- R115 step 2: the members of the ACTIVE contexts whose governing verdict the recomputation moved. -/
def State.movedViewers (s : State) : List (Fin 6) :=
  (s.recompute allHalves).membersWhere (fun c _ => verdictChanged s (s.recompute allHalves) c)

theorem State.mem_movedViewers {s : State} {x : Fin 6} :
    x ∈ s.movedViewers ↔ verdictMoved s (s.recompute allHalves) x := by
  have hfields (c : Fin 8) := (s.recompute_work allHalves).ctxs c
  have hactive (c : Fin 8) : ((s.recompute allHalves).ctxs[c]).isActive = (s.ctxs[c]).isActive := by
    simp only [Context.isActive, (hfields c).life]
  simp only [State.movedViewers, State.membersWhere, List.mem_filter, List.any_eq_true, Bool.and_eq_true,
    List.contains_iff_mem, mem_allOutputs, mem_allContexts, true_and, verdictChanged, decide_eq_true_eq, hactive,
    (hfields _).members, verdictMoved]
  exact exists_congr fun c => ⟨fun ⟨⟨ha, hv⟩, hm⟩ => ⟨ha, hm, hv.symm⟩, fun ⟨ha, hm, hv⟩ => ⟨⟨ha, hv.symm⟩, hm⟩⟩

theorem State.rightsFollow_work (s : State) (region : Bool) :
    GateWork (s.recompute allHalves) (s.rightsFollow region) := by
  have hmoved := (s.recompute allHalves).evaluateAll_work .verdict false s.movedViewers
  unfold State.rightsFollow
  cases region with
  | false => exact hmoved
  | true => exact hmoved.trans (State.evaluateAll_work _ _ _ _)

/-- R115: the gates of moved verdicts follow, and all gates after a change of the region code. -/
theorem State.rightsFollow_follows (s : State) {region : Bool} {x : Fin 6} (h : x ∈ s.movedViewers ∨ region = true) :
    gateFollows (s.rightsFollow region) x := by
  have hmoved (hx : x ∈ s.movedViewers) :
      gateFollows ((s.recompute allHalves).evaluateAll .verdict false s.movedViewers) x :=
    State.evaluateAll_follows _ _ _ hx
  cases region with
  | false => exact hmoved (h.resolve_right Bool.false_ne_true)
  | true =>
    by_cases hx : x ∈ s.movedViewers
    · exact (hmoved hx).evaluateAll _ _ _
    · intro v hv
      have htune := hv
      rw [State.rightsFollow, if_pos rfl, ((State.evaluateAll_work _ _ _ _).outs x).tune] at htune
      refine State.evaluateAll_follows _ _ _ ?_ v hv
      simp only [State.tunedBut, List.mem_filter, mem_allOutputs, true_and, Bool.and_eq_true, Bool.not_eq_true']
      exact ⟨Option.isSome_iff_exists.mpr ⟨v, htune⟩, Bool.eq_false_iff.mpr (mt List.contains_iff_mem.mp hx)⟩

theorem State.rightsFollow_others (s : State) {x : Fin 6} (hx : x ∉ s.movedViewers) :
    (s.rightsFollow false).outs[x] = s.outs[x] := by
  refine (State.evaluateAll_others (s.recompute allHalves) .verdict false hx).trans ?_
  rw [(s.recompute_work allHalves).outs]

/-! ### The record's own effects (R107, R114) -/

/-- R107 steps 1 to 4: the items are applied, the sequence is stored, the settings store is marked, RIGHTS_CHANGED is handed
over. -/
def State.rightsStored (s : State) (op : RightsOp) : State :=
  (((op.items.foldl (State.applyRight op) s).modRights (fun r => r.store op)).markChange).notify
    (((op.items.foldl (State.applyRight op) s).modRights (fun r => r.store op)).markChange.rightsNotice op)

/-- R107, R115: verdicts and gates have followed. -/
def State.rightsFollowed (s : State) (op : RightsOp) : State :=
  (s.rightsStored op).rightsFollow (regionChanges s.rights.region op.items)

theorem State.rightsFollowed_work (s : State) (op : RightsOp) :
    GateWork ((s.rightsStored op).recompute allHalves) (s.rightsFollowed op) := State.rightsFollow_work _ _

theorem State.rightsRecord_passed {s : State} {pass : Bool} {op : RightsOp} (h : s.rightsCheck pass op = none) :
    s.rightsRecord pass op = (s.rightsFollowed op,
      accepted (op.items.length * 256 + (op.items.filter RightsItem.appends).length)) := by
  simp only [State.rightsRecord, h]
  rfl

/-- R107, R114: what a RIGHTS record leaves before verdicts and gates follow. -/
structure RightsStored (op : RightsOp) (rs : List JournalRecord) (s t : State) : Prop extends
    RightsLeave op op.items rs s t where
  settings : t.settings = s.settings.marked
  rights : t.rights = (op.items.foldl RightsItem.onRights s.rights).store op
  handed : Handed (rs.map Notice.journal ++ [t.rightsNotice op]) s t

theorem State.rightsStored_stored (s : State) (op : RightsOp) :
    ∃ rs : List JournalRecord, RightsStored op rs s (s.rightsStored op) := by
  obtain ⟨rs, happlied⟩ := State.applyRights_items op op.items s
  unfold State.rightsStored
  generalize op.items.foldl (State.applyRight op) s = u at happlied
  have hmarked : Frame [.rights, .flashWork] u ((u.modRights (fun r => r.store op)).markChange) :=
    (u.modRights_frame _).trans (State.markChange_frame _) (by decide) (by decide)
  have hnotice : ∀ n : Notice, ((u.modRights (fun r => r.store op)).markChange.notify n).rightsNotice op =
      (u.modRights (fun r => r.store op)).markChange.rightsNotice op := by simp [State.rightsNotice]
  refine ⟨rs, {
    frame := (happlied.frame.trans hmarked (List.Subset.refl _) (by decide)).trans (State.notify_frame _ _)
      (List.Subset.refl _) (by decide)
    flashPort := (State.notify_flashPort _ _).trans happlied.flashPort
    profiles := ?_, purse := ?_, target := ?_, settings := ?_, rights := ?_, handed := ?_ }⟩
  · rw [State.notify_profiles]
    exact happlied.profiles
  · rw [State.notify_purse]
    exact happlied.purse
  · rw [State.notify_purse]
    exact happlied.target
  · rw [State.notify_settings, State.markChange_settings, ← happlied.settings]
    rfl
  · rw [State.notify_rights, ← happlied.rights]
    rfl
  · rw [hnotice]
    exact happlied.handed.trans (.one _ ⟨rfl, rfl, rfl, rfl⟩ rfl)

/-! ### The record is answered (R31, R32) -/

theorem Purse.eq_of_untargeted {p q : Purse} (h : q.untargeted = p.untargeted) : { q with target := p.target } = p := by
  obtain ⟨_, _, _, _, _, _, _, _, _⟩ := p
  obtain ⟨_, _, _, _, _, _, _, _, _⟩ := q
  simp_all [Purse.untargeted]

/-- R137: the end of a record leaves the purse, but for the target, and the flash arbiter has its choice. -/
theorem State.finishRecord_flash (u : State) {f : Fetched} (ha : f.attached = true) (ws : List OwnReq) (out : Outcome) :
    (u.finishRecord f ws out).settle.purse.untargeted = u.purse.untargeted ∧
      flashFollows u.flashPort u.settings u.purse (u.finishRecord f ws out).settle := by
  have hpurse := (u.finishRecord f ws out).settle_purse
  have hflash := (u.finishRecord f ws out).settle_flashFollows
  rw [State.finishRecord_attached u ha] at hpurse hflash ⊢
  simp only [State.modIntake_purse, State.issueAll_purse, State.modIntake_flashPort, State.issueAll_flashPort,
    State.modIntake_settings, State.issueAll_settings] at hpurse hflash
  exact ⟨hpurse, hflash⟩

/-! ### What the record leaves -/

section Follow

variable {op : RightsOp} {rs : List JournalRecord} {s : State} (h : RightsStored op rs s (s.rightsStored op))

include h

theorem RightsStored.followed_noticed : Noticed s (s.rightsFollowed op) :=
  (h.handed.noticed.trans (State.recompute_work _ _).noticed).trans (s.rightsFollowed_work op).noticed

theorem RightsStored.followed_frame : Frame (itemAreas ++ [.contexts, .access, .outputs]) s (s.rightsFollowed op) :=
  (h.frame.trans (State.recompute_work _ _).toFrame (cs := itemAreas ++ [.contexts, .access]) (by decide)
    (by decide)).trans (s.rightsFollowed_work op).toFrame (by decide) (by decide)

/-- R114: the JOURNAL notices and RIGHTS_CHANGED come before every other notice. -/
theorem RightsStored.followed_own : ∃ qs : List OwnReq, (s.rightsFollowed op).port.own =
    ((rs.map Notice.journal ++ [(s.rightsStored op).rightsNotice op]).foldl State.notify s).port.own ++ qs := by
  obtain ⟨qs, hport, -⟩ := ((State.recompute_work (s.rightsStored op) allHalves).noticed.trans
    (s.rightsFollowed_work op).noticed).port
  exact ⟨qs, by rw [hport, h.handed.port]⟩

end Follow

/-- R107, R115: the end of a RIGHTS command whose record passed its checks. -/
structure RightsEnd (op : RightsOp) (rs : List JournalRecord) (s t : State) : Prop where
  stored : RightsStored op rs s (s.rightsStored op)
  ended : EndOf (s.rightsFollowed op) t
  purse : t.purse.untargeted = (s.rightsStored op).purse.untargeted
  flash : flashFollows s.flashPort s.settings.marked (s.rightsStored op).purse t
  own : ∃ rest : List OwnReq, t.port.ownAll = (s.rightsFollowed op).port.own ++ rest

theorem RightsStored.finishRecord_end {op : RightsOp} {rs : List JournalRecord} {s : State}
    (h : RightsStored op rs s (s.rightsStored op)) {f : Fetched} (ha : f.attached = true)
    (hserving : s.port.serving = none) (k : Kind) (out : Outcome) : RightsEnd op rs s
      ((s.rightsFollowed op).finishRecord f ((s.rightsFollowed op).scrubWrites f.slot k) out).settle := by
  have hverdicts := (s.rightsStored op).recompute_work allHalves
  have hgates := s.rightsFollowed_work op
  obtain ⟨hpurse, hflash⟩ := (s.rightsFollowed op).finishRecord_flash ha
    ((s.rightsFollowed op).scrubWrites f.slot k) out
  rw [hgates.purse, hverdicts.purse] at hpurse hflash
  rw [hgates.flashPort, hverdicts.flashPort, h.flashPort, hgates.settings, hverdicts.settings, h.settings] at hflash
  obtain ⟨qs, hport, -⟩ := h.followed_noticed.port
  have hanswers := State.finishRecord_answers (u := s.rightsFollowed op) ha (by rw [hport]; exact hserving) k out
  exact ⟨h, State.finishRecord_end _ ha _ _, hpurse, hflash, ⟨_, hanswers.1.trans (List.append_assoc _ _ _)⟩⟩

section End

variable {op : RightsOp} {rs : List JournalRecord} {s t : State}

theorem RightsEnd.rights (h : RightsEnd op rs s t) :
    t.rights = (op.items.foldl RightsItem.onRights s.rights).store op := by
  rw [h.ended.rights, (State.rightsFollowed_work _ _).rights, (State.recompute_work _ _).rights, h.stored.rights]

theorem RightsEnd.profiles (h : RightsEnd op rs s t) (q : Fin 6) :
    t.profiles[q] = op.items.foldl (RightsItem.onProfile q) s.profiles[q] := by
  rw [h.ended.profiles, (State.rightsFollowed_work _ _).profiles, (State.recompute_work _ _).profiles, h.stored.profiles]

theorem RightsEnd.appended (h : RightsEnd op rs s t) :
    Appended op (s.guide.clock.getD 0) op.items rs s.purse t.purse := h.stored.purse.untargeted h.purse

theorem RightsEnd.ctxs (h : RightsEnd op rs s t) : t.ctxs = ((s.rightsStored op).recompute allHalves).ctxs := by
  rw [h.ended.ctxs, (State.rightsFollowed_work _ _).ctxs]

theorem RightsEnd.access (h : RightsEnd op rs s t) : t.access = ((s.rightsStored op).recompute allHalves).access := by
  rw [h.ended.access, (State.rightsFollowed_work _ _).access]

/-- The items leave the contexts alone. -/
theorem RightsStored.ctxs (h : RightsStored op rs s t) : t.ctxs = s.ctxs := (h.frame.only .contexts (by decide)).1

theorem RightsEnd.owned (h : RightsEnd op rs s t) : t.access.owned = s.access.owned := by
  have haccess : (s.rightsStored op).access = s.access := h.stored.frame.only .access (by decide)
  rw [h.access, (State.recompute_work _ _).owned, haccess]

/-- R115 step 1: every verdict is what its criteria give. -/
theorem RightsEnd.judged (h : RightsEnd op rs s t) : halvesJudged s t := by
  refine halvesJudged_of_settled (fun c => ?_) fun l => ((s.rightsStored op).recompute_settles l).congr h.ctxs h.access ?_ ?_
  · rw [h.ctxs, ← h.stored.ctxs]
    exact ((s.rightsStored op).recompute_work allHalves).ctxs c
  · rw [h.ended.rights, (State.rightsFollowed_work _ _).rights]
  · rw [h.ended.guide, (State.rightsFollowed_work _ _).guide]

theorem RightsEnd.verdictMoved_iff (h : RightsEnd op rs s t) {x : Fin 6} :
    verdictMoved s t x ↔ x ∈ (s.rightsStored op).movedViewers := by
  rw [State.mem_movedViewers, verdictMoved, verdictMoved, h.ctxs, h.stored.ctxs]

/-- R115 steps 2 and 3. -/
theorem RightsEnd.gates (h : RightsEnd op rs s t) :
    gatesFollow (fun x => verdictMoved s t x ∨ regionMoves s.rights.region op.items) t := by
  intro x v hx hv
  rw [h.verdictMoved_iff, ← regionChanges_iff] at hx
  exact h.ended.gateFollows (State.rightsFollow_follows _ hx) v hv

theorem RightsEnd.others (h : RightsEnd op rs s t) {x : Fin 6} (hv : ¬ verdictMoved s t x)
    (hr : ¬ regionMoves s.rights.region op.items) : t.outs[x] = s.outs[x] := by
  have houts : (s.rightsStored op).outs = s.outs := h.stored.frame.only .outputs (by decide)
  rw [h.verdictMoved_iff] at hv
  rw [← regionChanges_iff, Bool.not_eq_true] at hr
  rw [h.ended.outs, State.rightsFollowed, hr, State.rightsFollow_others _ hv, houts]

/-- R114: RIGHTS_CHANGED tells what the record left, and only the JOURNAL notices come before it. -/
theorem RightsEnd.notices (h : RightsEnd op rs s t) : ∃ rest : List OwnReq, t.port.ownAll =
    ((rs.map Notice.journal ++ [t.rightsNotice op]).foldl State.notify s).port.own ++ rest := by
  have hrights := h.rights.trans h.stored.rights.symm
  have hbalance := h.appended.balance.trans h.stored.purse.balance.symm
  have hnewest := h.appended.newest.trans h.stored.purse.newest.symm
  have hnotice : (s.rightsStored op).rightsNotice op = t.rightsNotice op := by
    simp only [State.rightsNotice, hrights, hbalance, hnewest]
  obtain ⟨qs, hqs⟩ := h.stored.followed_own
  obtain ⟨ps, hps⟩ := h.own
  exact ⟨qs ++ ps, by rw [hps, hqs, hnotice, List.append_assoc]⟩

/-- R137: the flash arbiter's choice, with the target that the appends left. -/
theorem RightsEnd.flashTarget (h : RightsEnd op rs s t) : ∃ x : Option Target, (rs = [] → x = s.purse.target) ∧
    flashFollows s.flashPort s.settings.marked { t.purse with target := x } t := by
  refine ⟨(s.rightsStored op).purse.target, h.stored.target, ?_⟩
  rw [Purse.eq_of_untargeted h.purse]
  exact h.flash

/-- R107 step 2: the record's sequence is stored for its address kind alone. -/
theorem RightsEnd.sequences (h : RightsEnd op rs s t) (hkind : op.addressKind = 1 ∨ op.addressKind = 2) :
    t.rights.unitSeq = (if op.addressKind = 1 then op.sequence else s.rights.unitSeq) ∧
      t.rights.groupSeq = (if op.addressKind = 2 then op.sequence else s.rights.groupSeq) := by
  obtain ⟨hunit, hgroup⟩ := foldl_onRights_sequences op.items s.rights
  rw [h.rights, ← hunit, ← hgroup]
  exact Rights.store_sequences _ hkind

theorem RightsEnd.packages (h : RightsEnd op rs s t) (p : Fin 64) :
    t.rights.packages[p] = op.items.foldl (RightsItem.onPackage p) s.rights.packages[p] := by
  rw [h.rights, Rights.store_packages, foldl_onRights_package]

theorem RightsEnd.limits (h : RightsEnd op rs s t) :
    t.rights.overdraft = op.items.foldl RightsItem.onOverdraft s.rights.overdraft ∧
      t.rights.region = op.items.foldl RightsItem.onRegion s.rights.region ∧
      t.rights.mask = op.items.foldl RightsItem.onMask s.rights.mask := by
  rw [h.rights, Rights.store_overdraft, Rights.store_region, Rights.store_mask, foldl_onRights_overdraft,
    foldl_onRights_region, foldl_onRights_mask]
  exact ⟨rfl, rfl, rfl⟩

/-- R105: top-ups raise no balance above the ceiling. -/
theorem RightsEnd.ceiling (h : RightsEnd op rs s t)
    (hitems : checkItems ⟨s.purse.balance, s.purse.newest⟩ 1 op.items = none) :
    t.purse.balance ≤ max s.purse.balance 1000000 := by
  have hbalance := checkItems_balance hitems
  rw [← h.appended.entered, List.map_map] at hbalance
  rw [h.appended.balance]
  exact hbalance

end End

/-! ### RIGHTS (R104 to R115) -/

theorem exec_rights (u : RightsUnwrap) (s : State) : exec (.rights u) s =
    recordStep s .rights (fun _ => true) (fun s f => s.rightsRecord u.pass (f.bytes.rightsOp u.items)) := rfl

/-- R107: a RIGHTS record that passes its checks is applied and answered. -/
theorem exec_rights_passed {s : State} {f : Fetched} {u : RightsUnwrap} {op : RightsOp} (h : atHand s .rights f)
    (hop : op = f.bytes.rightsOp u.items) (hcheck : s.rightsCheck u.pass op = none) :
    ∃ (t : State) (rs : List JournalRecord), exec (.rights u) s = .next t ∧
      answeredAfter f .rights ⟨.accepted, op.items.length * 256 + rs.length⟩ s t ∧ RightsEnd op rs s.freePort t ∧
      onlyChanges [.own, .intake, .contexts, .outputs, .rights, .access, .journal, .flashWork, .profiles, .writer] s t := by
  have ⟨hf, ha, _⟩ := h
  obtain ⟨rs, hstored⟩ := s.freePort.rightsStored_stored op
  have hframe := hstored.followed_frame
  have heffect := State.rightsRecord_passed (s := s.freePort) hcheck
  have hlength : (op.items.filter RightsItem.appends).length = rs.length := by
    rw [← length_filterMap_entered, ← hstored.purse.entered, List.length_map]
  rw [hlength] at heffect
  subst hop
  rw [exec_rights]
  exact ⟨_, rs, recordStep_atHand h rfl heffect,
    State.finishRecord_after ha hstored.followed_noticed (hframe.only .config (by decide))
      (hframe.only .intake (by decide)) .rights _,
    hstored.finishRecord_end ha rfl .rights _,
    State.finishRecord_frame hf ha hframe (by decide) (by decide) _ _⟩

/-- Settles O38: the items are applied one by one (`RightsStored`), then verdicts and gates follow and the record is
answered (`RightsEnd`). -/
theorem rightsRecordAppliesItems : Obligations.RightsRecordAppliesItems := by
  unfold Obligations.RightsRecordAppliesItems
  intro s f u op h hop hcheck
  obtain ⟨hkind, hbar⟩ := State.rightsCheck_header hcheck
  have hitems := State.rightsCheck_items hcheck
  obtain ⟨t, rs, hstep, hanswer, hend, hchanges⟩ := exec_rights_passed h hop hcheck
  obtain ⟨hunit, hgroup⟩ := hend.sequences hkind
  obtain ⟨hoverdraft, hregion, hmask⟩ := hend.limits
  have happended := hend.appended
  exact ⟨t, rs, hstep, hanswer, hunit, hgroup, hbar, hend.packages, hoverdraft, hregion, hmask, hend.profiles,
    fun _ _ => checkItems_pinReset hitems, happended.list, happended.queue, happended.entered, happended.seqs,
    happended.carried, happended.balance, hend.ceiling hitems, happended.floor, hend.notices, hend.owned,
    hend.flashTarget, hend.judged, hend.gates, fun _ => hend.others, hchanges⟩

end Sys2Proof.Machine
end

section
/-! PROOFS. The price of an event (R128). -/

namespace Sys2Proof.Machine

/-! ### The price by the time (R128) -/

/-- R128 step 3: the price of a late purchase: what remains of the base price, rounded up, but not below a quarter. -/
def EventCriteria.latePrice (e : EventCriteria) (now : Nat) : Nat :=
  max ((e.price * (e.start + e.duration - now) + e.duration - 1) / e.duration) ((e.price + 3) / 4)

theorem EventCriteria.priceAt_ended {e : EventCriteria} {now : Nat} (h : e.start + e.duration ≤ now) :
    e.priceAt now = none := by
  have helapsed : min (now - e.start) e.duration = e.duration := by omega
  simp only [EventCriteria.priceAt, helapsed, if_true]

theorem EventCriteria.priceAt_full {e : EventCriteria} {now : Nat} (hd : 1 ≤ e.duration)
    (hlive : now < e.start + e.duration) (h : e.late = false ∨ now ≤ e.start) : e.priceAt now = some e.price := by
  have hlater : min (now - e.start) e.duration ≠ e.duration := by omega
  have hfull : (!e.late || decide (min (now - e.start) e.duration = 0)) = true := by
    rcases h with h | h
    · simp [h]
    · simp [Nat.sub_eq_zero_of_le h]
  simp only [EventCriteria.priceAt, if_neg hlater, if_pos hfull]

theorem EventCriteria.priceAt_late {e : EventCriteria} {now : Nat} (hstart : e.start < now)
    (hlive : now < e.start + e.duration) (h : e.late = true) : e.priceAt now = some (e.latePrice now) := by
  have helapsed : min (now - e.start) e.duration = now - e.start := by omega
  have hlater : now - e.start ≠ e.duration := by omega
  have hbegun : now - e.start ≠ 0 := by omega
  have hremain : e.duration - (now - e.start) = e.start + e.duration - now := by omega
  simp [EventCriteria.priceAt, EventCriteria.latePrice, helapsed, hlater, hbegun, h, hremain]

/-- R128 step 3: a late price is the least amount that covers both the share of the time that remains and a quarter. -/
theorem EventCriteria.latePrice_le_iff {e : EventCriteria} (hd : 1 ≤ e.duration) (now x : Nat) : e.latePrice now ≤ x ↔
    e.price ≤ 4 * x ∧ e.price * (e.start + e.duration - now) ≤ x * e.duration := by
  have hshare : (e.price * (e.start + e.duration - now) + e.duration - 1) / e.duration ≤ x ↔
      e.price * (e.start + e.duration - now) ≤ x * e.duration := by
    rw [← Nat.ceilDiv_eq_add_pred_div, ceilDiv_le_iff_le_mul hd, Nat.mul_comm x]
  have hquarter : (e.price + 3) / 4 ≤ x ↔ e.price ≤ 4 * x := by omega
  rw [EventCriteria.latePrice, max_le_iff, hshare, hquarter, and_comm]

/-- R128: a late price does not exceed the base price. -/
theorem EventCriteria.latePrice_le_price {e : EventCriteria} {now : Nat} (hd : 1 ≤ e.duration) (hstart : e.start < now) :
    e.latePrice now ≤ e.price :=
  (e.latePrice_le_iff hd now e.price).mpr ⟨by omega, Nat.mul_le_mul_left _ (by omega)⟩

/-! ### The price now (R128) -/

theorem State.priceNow_unset {s : State} (h : s.guide.clock = none) (e : EventCriteria) : s.priceNow e = none := by
  simp [State.priceNow, Guide.nowMinute, h]

theorem State.priceNow_set {s : State} {c : Nat} (h : s.guide.clock = some c) (e : EventCriteria) :
    s.priceNow e = e.priceAt (c / 60) := by
  simp [State.priceNow, Guide.nowMinute, h]

/-- Settles O33: the late price is the least amount with its two bounds (`EventCriteria.latePrice_le_iff`). -/
theorem priceFallsWithTimeAboveQuarter : Obligations.PriceFallsWithTimeAboveQuarter := by
  unfold Obligations.PriceFallsWithTimeAboveQuarter
  intro e now hd
  refine ⟨EventCriteria.priceAt_ended, EventCriteria.priceAt_full hd, fun hstart hlive hlate => ?_,
    fun _ h => State.priceNow_unset h e, fun _ _ h => State.priceNow_set h e⟩
  obtain ⟨hquarter, hshare⟩ := (EventCriteria.latePrice_le_iff hd now _).mp le_rfl
  exact ⟨e.latePrice now, EventCriteria.priceAt_late hstart hlive hlate, EventCriteria.latePrice_le_price hd hstart,
    hquarter, hshare, fun x hx hshared => (EventCriteria.latePrice_le_iff hd now x).mpr ⟨hx, hshared⟩⟩

end Sys2Proof.Machine
end

section
/-! PROOFS. The preview steps of a verdict (R119): what each step gives, and the bounds of the preview table (R122). -/

namespace Sys2Proof.Machine

/-! ### The entry that is replaced first (R119 step 4) -/

theorem PreviewEntry.before_iff (x y : PreviewEntry) : x.before y = true ↔
    x.endMinute < y.endMinute ∨ x.endMinute = y.endMinute ∧ x.event ≤ y.event := by
  simp [PreviewEntry.before]

theorem PreviewEntry.before_refl (x : PreviewEntry) : x.before x = true := (x.before_iff x).mpr (.inr ⟨rfl, le_rfl⟩)

theorem PreviewEntry.before_trans {x y z : PreviewEntry} (h : x.before y = true) (k : y.before z = true) :
    x.before z = true := by
  rw [PreviewEntry.before_iff] at *
  omega

theorem PreviewEntry.before_of_not {x y : PreviewEntry} (h : ¬ x.before y = true) : y.before x = true := by
  rw [PreviewEntry.before_iff] at *
  omega

theorem firstReplaceable_before {es : List PreviewEntry} {x y : PreviewEntry} (h : firstReplaceable es = some x)
    (hy : y ∈ es) : x.before y = true := by
  induction es generalizing x with
  | nil => cases hy
  | cons e es ih =>
    unfold firstReplaceable at h
    split at h
    · next hnone =>
      cases h
      rw [firstReplaceable_eq_none hnone] at hy
      exact List.mem_singleton.mp hy ▸ PreviewEntry.before_refl _
    · next b hb =>
      rcases List.mem_cons.mp hy with rfl | hy
      · split at h <;> cases h
        · exact PreviewEntry.before_refl _
        · next hlast => exact PreviewEntry.before_of_not hlast
      · split at h <;> cases h
        · next hfirst => exact PreviewEntry.before_trans hfirst (ih hb hy)
        · exact ih hb hy

/-- R119 step 4: of the entries of ended events the one that ended first is replaced, of equal ends the lower event. -/
theorem AccessUnit.replaceable_first {a : AccessUnit} {m : Nat} {x y : PreviewEntry}
    (h : a.replaceable (some m) = some x) (hy : y ∈ a.previews) (hend : y.endMinute ≤ m) :
    x.endMinute < y.endMinute ∨ x.endMinute = y.endMinute ∧ x.event ≤ y.event :=
  (x.before_iff y).mp (firstReplaceable_before h (List.mem_filter.mpr ⟨hy, decide_eq_true hend⟩))

/-- R119: an event in PREVIEW has an entry that has used less than its allowance. -/
theorem PreviewSettled.entry {a : AccessUnit} {e : EventCriteria} {t : Option Nat} {v : Verdict}
    (h : PreviewSettled a e t v) (hv : v = .preview) :
    ∃ x ∈ a.previews, x.event = e.event ∧ x.seconds < e.preview * 60 := by
  cases h with
  | barred | refused => cases hv
  | listed _ x hx =>
    obtain ⟨hmem, hevent⟩ := AccessUnit.entryOf_some hx
    refine ⟨x, hmem, hevent, ?_⟩
    by_contra hused
    rw [if_neg hused] at hv
    cases hv

/-! ### Each step of R119 -/

section Steps

variable {a : AccessUnit} {e : EventCriteria} {t : Option Nat} {j : Judged} (h : PreviewEffect a e t j)

include h

/-- R119 step 1. -/
theorem PreviewEffect.of_barred (hb : e.barred t) : j = ⟨a, .purchaseNeeded, none⟩ := by
  cases h with
  | settled h => rw [h.of_barred hb]
  | entered hn | replaced hn => exact absurd hb hn

/-- R119 step 2. -/
theorem PreviewEffect.of_listed (hb : ¬ e.barred t) {x : PreviewEntry} (hx : a.entryOf e.event = some x) :
    j = ⟨a, if x.seconds < e.preview * 60 then .preview else .purchaseNeeded, none⟩ := by
  cases h with
  | settled h =>
    cases h with
    | barred hbarred => exact absurd hbarred hb
    | listed _ y hy => rw [Option.some.inj (hx.symm.trans hy)]
    | refused _ absent => cases hx.symm.trans absent
  | entered _ absent | replaced _ absent => cases hx.symm.trans absent

/-- R119 step 3. -/
theorem PreviewEffect.of_room (hb : ¬ e.barred t) (habsent : a.entryOf e.event = none) (hroom : a.previews.length < 16) :
    j = ⟨a.entering e, .preview, none⟩ := by
  cases h with
  | settled h =>
    cases h with
    | barred hbarred => exact absurd hbarred hb
    | listed _ x hx => cases hx.symm.trans habsent
    | refused _ _ full => omega
  | entered => rfl
  | replaced _ _ full => omega

/-- R119 steps 4 and 5. -/
theorem PreviewEffect.of_full (hb : ¬ e.barred t) (habsent : a.entryOf e.event = none) (hfull : 16 ≤ a.previews.length) :
    (a.replaceable t = none ∧ j = ⟨a, .purchaseNeeded, none⟩) ∨
      ∃ old : PreviewEntry, a.replaceable t = some old ∧ j = ⟨a.replacing old.event e, .preview, some old.event⟩ := by
  cases h with
  | settled h =>
    cases h with
    | barred hbarred => exact absurd hbarred hb
    | listed _ x hx => cases hx.symm.trans habsent
    | refused _ _ _ kept => exact .inl ⟨kept, rfl⟩
  | entered _ _ room => omega
  | replaced _ _ _ old hold => exact .inr ⟨old, hold, rfl⟩

/-- R119 step 5: while no entry is of an ended event, a full table has no room. -/
theorem PreviewEffect.of_live (hb : ¬ e.barred t) (habsent : a.entryOf e.event = none) (hfull : 16 ≤ a.previews.length)
    (hlive : ∀ (x : PreviewEntry) (m : Nat), x ∈ a.previews → t = some m → m < x.endMinute) :
    j = ⟨a, .purchaseNeeded, none⟩ := by
  rcases h.of_full hb habsent hfull with ⟨-, hj⟩ | ⟨old, hold, -⟩
  · exact hj
  · obtain ⟨hmem, m, ht, hle⟩ := AccessUnit.replaceable_some hold
    exact absurd (hlive old m hmem ht) (Nat.not_lt.mpr hle)

/-- R119 step 4: an entry of an ended event makes room. -/
theorem PreviewEffect.of_ended (hb : ¬ e.barred t) (habsent : a.entryOf e.event = none) (hfull : 16 ≤ a.previews.length)
    {x : PreviewEntry} {m : Nat} (hx : x ∈ a.previews) (ht : t = some m) (hend : x.endMinute ≤ m) :
    ∃ old ∈ a.previews, j = ⟨a.replacing old.event e, .preview, some old.event⟩ := by
  rcases h.of_full hb habsent hfull with ⟨hnone, -⟩ | ⟨old, hold, hj⟩
  · exact absurd (AccessUnit.replaceable_none hnone hx ht) (Nat.not_lt.mpr hend)
  · exact ⟨old, (AccessUnit.replaceable_some hold).1, hj⟩

/-- R119 step 4: which entry is replaced. -/
theorem PreviewEffect.replaced_first {old : Nat} (hr : j.replaced = some old) :
    ∃ (x : PreviewEntry) (m : Nat), x ∈ a.previews ∧ x.event = old ∧ t = some m ∧ x.endMinute ≤ m ∧
      ∀ y ∈ a.previews, y.endMinute ≤ m → x.endMinute < y.endMinute ∨ x.endMinute = y.endMinute ∧ x.event ≤ y.event := by
  cases h with
  | settled | entered => cases hr
  | replaced _ _ _ x hx =>
    cases hr
    obtain ⟨hmem, m, rfl, hle⟩ := AccessUnit.replaceable_some hx
    exact ⟨x, m, hmem, rfl, rfl, hle, fun y hy hend => AccessUnit.replaceable_first hx hy hend⟩

/-! ### The table after a verdict (R119, R122) -/

theorem PreviewEffect.length_le (hn : a.previews.length ≤ 16) : j.access.previews.length ≤ 16 := by
  cases h with
  | settled => exact hn
  | entered _ _ room => simpa [AccessUnit.entering] using room
  | replaced => simpa [AccessUnit.replacing] using hn

theorem PreviewEffect.nodup (hn : (a.previews.map (·.event)).Nodup) : (j.access.previews.map (·.event)).Nodup := by
  cases h with
  | settled => exact hn
  | entered hb absent => exact (AccessUnit.entering_work hb absent).nodup hn
  | replaced hb absent _ _ hold => exact (AccessUnit.replacing_work hb absent hold).nodup hn

theorem PreviewEffect.allowed (hv : j.verdict = .preview) :
    ∃ x ∈ j.access.previews, x.event = e.event ∧ x.seconds < e.preview * 60 := h.again.entry hv

end Steps

theorem AccessUnit.entryOf_eq_none {a : AccessUnit} {event : Nat} (h : ∀ x ∈ a.previews, x.event ≠ event) :
    a.entryOf event = none := by
  simpa [AccessUnit.entryOf] using h

/-- R119: in a table without repeated events an entry is that of its event. -/
theorem AccessUnit.entryOf_eq_some {a : AccessUnit} (hn : (a.previews.map (·.event)).Nodup) {x : PreviewEntry}
    (hx : x ∈ a.previews) : a.entryOf x.event = some x := by
  cases hentry : a.entryOf x.event with
  | none => exact absurd rfl (AccessUnit.entryOf_none hentry hx)
  | some y => rw [AccessUnit.entryOf_unique hn hentry hx rfl]

/-- Settles O35: the steps of R119 one by one, from what judging an event can give (`AccessUnit.judgePreview_effect`). -/
theorem previewTableHoldsSixteenEvents : Obligations.PreviewTableHoldsSixteenEvents := by
  unfold Obligations.PreviewTableHoldsSixteenEvents
  intro a e now j hlength hnodup hj
  have heffect : PreviewEffect a e now j := hj ▸ a.judgePreview_effect e now
  refine ⟨heffect.length_le hlength, heffect.nodup hnodup, hj ▸ a.judgePreview_owned e now, heffect.allowed,
    fun hb => heffect.of_barred ((e.barred_iff now).mpr hb), fun hpos hlive => ?_, fun _ => heffect.replaced_first⟩
  have hb : ¬ e.barred now := by
    rw [e.barred_iff]
    rintro (hzero | ⟨m, hm, hend⟩)
    · omega
    · exact absurd (hlive m hm) (Nat.not_lt.mpr hend)
  refine ⟨fun x hx hevent => heffect.of_listed hb (hevent ▸ AccessUnit.entryOf_eq_some hnodup hx), fun hnone => ?_⟩
  have habsent := AccessUnit.entryOf_eq_none hnone
  refine ⟨heffect.of_room hb habsent, fun hfull => ⟨?_, heffect.of_live hb habsent hfull.ge⟩⟩
  rintro ⟨x, m, hx, hm, hend⟩
  obtain ⟨old, hold, rfl⟩ := heffect.of_ended hb habsent hfull.ge hx hm hend
  exact ⟨rfl, old, hold, rfl, rfl⟩

end Sys2Proof.Machine
end

section
/-! PROOFS. PREVIEW_EXHAUSTION (R124): what it makes of the halves, which PREVIEW_END notices it hands over, and whose gates
follow. -/

namespace Sys2Proof.Machine

/-! ### The exhausted halves (R124) -/

/-- R124: a half whose preview has run out. -/
def Half.spent (h : Half) : Half := { h with verdict := .purchaseNeeded }

theorem State.exhaustHalf_halfAt (s : State) (l k : HalfPlace) :
    (s.exhaustHalf l).halfAt k = if l = k then (s.halfAt k).map Half.spent else s.halfAt k := by
  rw [State.exhaustHalf, State.halfAt_setHalf]
  split
  · next h => rw [h]; rfl
  · rfl

theorem State.exhaustHalf_frame (s : State) (l : HalfPlace) : Frame [.contexts] s (s.exhaustHalf l) := by
  rw [State.exhaustHalf, State.setHalf]
  exact s.modCtx_frame l.1 _

/-- R124: of a context, only the half's verdict changes. -/
theorem State.exhaustHalf_work (s : State) (l : HalfPlace) : VerdictWork s (s.exhaustHalf l) := by
  cases hl : s.halfAt l with
  | some h =>
    rw [State.exhaustHalf, hl]
    exact s.setVerdict_work l h .purchaseNeeded s.access hl rfl
  | none =>
    have hsame : s.exhaustHalf l = s := by
      obtain ⟨c, p⟩ := l
      have hctx : (s.ctxs[c]).setHalf p none = s.ctxs[c] := by
        cases p
        · exact congrArg (fun h => { s.ctxs[c] with even := h }) hl.symm
        · exact congrArg (fun h => { s.ctxs[c] with odd := h }) hl.symm
      rw [State.exhaustHalf, hl, State.setHalf, State.modCtx, Option.map_none, hctx]
      simp
    rw [hsame]
    exact .refl s

/-- R124: the exhausted halves of an event are PURCHASE_NEEDED; its notices and gates are still to follow. -/
def State.halvesExhausted (s : State) (event seconds : Nat) : State :=
  (s.exhaustedHalves event seconds).foldl State.exhaustHalf s

theorem State.halvesExhausted_work (s : State) (event seconds : Nat) : VerdictWork s (s.halvesExhausted event seconds) :=
  VerdictWork.foldl _ State.exhaustHalf_work _ s

theorem State.halvesExhausted_frame (s : State) (event seconds : Nat) :
    Frame [.contexts] s (s.halvesExhausted event seconds) :=
  Frame.foldl _ State.exhaustHalf_frame _ s

theorem State.foldl_exhaustHalf_halfAt (ls : List HalfPlace) (s : State) (k : HalfPlace) :
    (ls.foldl State.exhaustHalf s).halfAt k = if k ∈ ls then (s.halfAt k).map Half.spent else s.halfAt k := by
  induction ls generalizing s with
  | nil => simp
  | cons l ls ih =>
    have htwice : ((s.halfAt k).map Half.spent).map Half.spent = (s.halfAt k).map Half.spent := by
      rw [Option.map_map]
      rfl
    rw [List.foldl_cons, ih, State.exhaustHalf_halfAt]
    by_cases hl : l = k
    · simp [hl, htwice]
    · simp [hl, Ne.symm hl]

theorem State.mem_exhaustedHalves {s : State} {event seconds : Nat} {l : HalfPlace} :
    l ∈ s.exhaustedHalves event seconds ↔ ∃ h : Half, s.halfAt l = some h ∧ h.exhaustedAt event seconds = true := by
  simp [State.exhaustedHalves, mem_allHalves, Option.any_eq_true]

/-- R124: each half after the exhaustion. -/
theorem State.halvesExhausted_halfAt (s : State) (event seconds : Nat) (k : HalfPlace) :
    (s.halvesExhausted event seconds).halfAt k =
      (s.halfAt k).map (fun h => if h.exhaustedAt event seconds then h.spent else h) := by
  rw [State.halvesExhausted, State.foldl_exhaustHalf_halfAt]
  cases hk : s.halfAt k with
  | none => simp
  | some h =>
    have hmem : k ∈ s.exhaustedHalves event seconds ↔ h.exhaustedAt event seconds = true := by
      simp [State.mem_exhaustedHalves, hk]
    by_cases he : h.exhaustedAt event seconds = true
    · simp [hmem.mpr he, he]
    · simp [mt hmem.mp he, he]

/-! ### The contexts whose governing half is exhausted (R124) -/

/-- R124 step 1: the ACTIVE contexts whose governing half is exhausted. -/
def State.exhaustedContexts (s : State) (event seconds : Nat) : List (Fin 8) :=
  allContexts.filter (fun c =>
    (s.ctxs[c]).isActive && (s.ctxs[c]).governing.any (fun g => g.2.exhaustedAt event seconds))

theorem State.governedBy_exhausted (s : State) (c : Fin 8) (event seconds : Nat) :
    s.governedBy c (s.exhaustedHalves event seconds) =
      (s.ctxs[c]).governing.any (fun g => g.2.exhaustedAt event seconds) := by
  unfold State.governedBy
  cases hg : (s.ctxs[c]).governing with
  | none => rfl
  | some g =>
    have hhalf : s.halfAt (c, g.1) = some g.2 := Context.governing_half hg
    rw [Option.any_some, Option.any_some, Bool.eq_iff_iff, List.contains_iff_mem, State.mem_exhaustedHalves, hhalf]
    simp

theorem State.mem_exhaustedContexts {s : State} {event seconds : Nat} {c : Fin 8} :
    c ∈ s.exhaustedContexts event seconds ↔ (s.ctxs[c]).isActive = true ∧
      ∃ g : HalfParity × Half, (s.ctxs[c]).governing = some g ∧ g.2.exhaustedAt event seconds = true := by
  simp only [State.exhaustedContexts, List.mem_filter, mem_allContexts, true_and, Bool.and_eq_true, Option.any_eq_true]

/-- The members of the ACTIVE contexts that a test picks. -/
theorem State.mem_membersWhere {s : State} {pick : Fin 8 → Context → Bool} {x : Fin 6} : x ∈ s.membersWhere pick ↔
    ∃ c : Fin 8, (s.ctxs[c]).isActive = true ∧ pick c s.ctxs[c] = true ∧ x ∈ (s.ctxs[c]).members := by
  simp only [State.membersWhere, List.mem_filter, mem_allOutputs, true_and, List.any_eq_true, mem_allContexts,
    Bool.and_eq_true, List.contains_iff_mem, and_assoc]

/-- R124: whose gates follow an exhaustion, seen in a state that differs from `s` in verdicts alone. -/
theorem State.mem_exhaustedMembers {s u : State} (h : ∀ c : Fin 8, VerdictFields s.ctxs[c] u.ctxs[c])
    {event seconds : Nat} {x : Fin 6} :
    x ∈ u.membersWhere (fun c _ => (s.exhaustedContexts event seconds).contains c) ↔
      exhaustedViewer s event seconds x := by
  have hactive (c : Fin 8) : (u.ctxs[c]).isActive = (s.ctxs[c]).isActive := by simp only [Context.isActive, (h c).life]
  simp only [State.mem_membersWhere, hactive, (h _).members, List.contains_iff_mem, State.mem_exhaustedContexts,
    exhaustedViewer]
  constructor
  · rintro ⟨c, ha, ⟨-, g, hg, he⟩, hm⟩
    exact ⟨c, g, ha, hm, hg, he⟩
  · rintro ⟨c, g, ha, hm, hg, he⟩
    exact ⟨c, ha, ⟨ha, g, hg, he⟩, hm⟩

/-! ### The PREVIEW_END notices (R124 step 1) -/

/-- Notices handed over for each of a list, where those of one do not depend on the notices before them. -/
theorem State.foldl_notifies {α : Type} {f : State → α → State} {g : State → α → List Notice}
    (hf : ∀ s a, f s a = (g s a).foldl State.notify s) (hg : ∀ s n, g (s.notify n) = g s) (l : List α) (s : State) :
    l.foldl f s = (l.flatMap (g s)).foldl State.notify s := by
  have hkeeps (ns : List Notice) (s : State) : g (ns.foldl State.notify s) = g s := by
    induction ns generalizing s with
    | nil => rfl
    | cons n ns ih => rw [List.foldl_cons, ih, hg]
  induction l generalizing s with
  | nil => rfl
  | cons a l ih => rw [List.foldl_cons, ih, hf, hkeeps, List.flatMap_cons, List.foldl_append]

/-- R124 step 1: the PREVIEW_END notice of an output, if it is tuned. -/
def State.previewEndNotice (s : State) (event seconds : Nat) (o : Fin 6) : Option Notice :=
  (s.outs[o]).tune.map (fun v => .previewEnd o.val v.window.val v.service event seconds)

theorem State.previewEnd_eq (s : State) (event seconds : Nat) (o : Fin 6) :
    s.previewEnd o event seconds = (s.previewEndNotice event seconds o).toList.foldl State.notify s := by
  unfold State.previewEnd State.previewEndNotice
  cases (s.outs[o]).tune <;> rfl

theorem State.previewEndNotice_notify (s : State) (event seconds : Nat) (n : Notice) :
    (s.notify n).previewEndNotice event seconds = s.previewEndNotice event seconds := by
  funext o
  rw [State.previewEndNotice, State.notify_outs, State.previewEndNotice]

/-- R124 step 1: the PREVIEW_END notices of a context's members. -/
def State.contextEndNotices (s : State) (event seconds : Nat) (c : Fin 8) : List Notice :=
  (s.ctxs[c]).members.filterMap (s.previewEndNotice event seconds)

theorem State.previewEnds_eq (s : State) (cs : List (Fin 8)) (event seconds : Nat) :
    s.previewEnds cs event seconds = (cs.flatMap (s.contextEndNotices event seconds)).foldl State.notify s := by
  refine State.foldl_notifies (g := fun s => s.contextEndNotices event seconds) (fun u c => ?_) (fun u n => ?_) cs s
  · rw [State.foldl_notifies (g := fun u o => (u.previewEndNotice event seconds o).toList)
      (fun u => u.previewEnd_eq event seconds) (fun u n => by rw [u.previewEndNotice_notify event seconds n]),
      State.contextEndNotices, List.filterMap_eq_flatMap_toList]
  · funext c
    rw [State.contextEndNotices, State.notify_ctxs, u.previewEndNotice_notify, State.contextEndNotices]

theorem previewEndNotices_eq (s : State) (event seconds : Nat) : previewEndNotices s event seconds =
    (s.exhaustedContexts event seconds).flatMap (s.contextEndNotices event seconds) := rfl

/-- The notices do not depend on verdicts. -/
theorem VerdictWork.contextEndNotices {s t : State} (h : VerdictWork s t) (event seconds : Nat) :
    t.contextEndNotices event seconds = s.contextEndNotices event seconds := by
  have hnotice : t.previewEndNotice event seconds = s.previewEndNotice event seconds := by
    funext o
    rw [State.previewEndNotice, h.outs, State.previewEndNotice]
  funext c
  rw [State.contextEndNotices, (h.ctxs c).members, hnotice, State.contextEndNotices]

/-- R124: without a viewer there is no notice. -/
theorem previewEndNotices_eq_nil {s : State} {event seconds : Nat} (h : ∀ o : Fin 6, ¬ exhaustedViewer s event seconds o) :
    previewEndNotices s event seconds = [] := by
  refine List.flatMap_eq_nil_iff.mpr fun c hc => ?_
  obtain ⟨ha, g, hg, he⟩ := State.mem_exhaustedContexts.mp hc
  have hmembers : (s.ctxs[c]).members = [] :=
    List.eq_nil_iff_forall_not_mem.mpr fun o hm => h o ⟨c, g, ha, hm, hg, he⟩
  rw [hmembers, List.filterMap_nil]

/-! ### The exhaustion (R124) -/

/-- R124: the halves are exhausted and the PREVIEW_END notices handed over; the gates are still to follow. -/
def State.previewsEnded (s : State) (event seconds : Nat) : State :=
  (previewEndNotices s event seconds).foldl State.notify (s.halvesExhausted event seconds)

theorem State.previewsEnded_notices (s : State) (event seconds : Nat) :
    GateWork (s.halvesExhausted event seconds) (s.previewsEnded event seconds) :=
  GateWork.foldl _ State.notify_work _ _

theorem State.previewsEnded_fields (s : State) (event seconds : Nat) (c : Fin 8) :
    VerdictFields s.ctxs[c] (s.previewsEnded event seconds).ctxs[c] := by
  rw [(s.previewsEnded_notices event seconds).ctxs]
  exact (s.halvesExhausted_work event seconds).ctxs c

theorem State.previewsEnded_outs (s : State) (event seconds : Nat) : (s.previewsEnded event seconds).outs = s.outs := by
  rw [State.previewsEnded, State.foldl_notify_outs, (s.halvesExhausted_work event seconds).outs]

theorem State.previewsEnded_handed (s : State) (event seconds : Nat) :
    Handed (previewEndNotices s event seconds) s (s.previewsEnded event seconds) := by
  have hwork := s.halvesExhausted_work event seconds
  have hinputs : NoticeInputs s (s.halvesExhausted event seconds) :=
    ⟨hwork.cfg, by rw [hwork.ticks], by rw [hwork.guide], hwork.writer⟩
  exact (Handed.nil hinputs hwork.port).trans ⟨⟨rfl, rfl, rfl, rfl⟩, rfl⟩

theorem State.previewsEnded_frame (s : State) (event seconds : Nat) :
    Frame [.contexts, .own, .writer] s (s.previewsEnded event seconds) :=
  (s.halvesExhausted_frame event seconds).trans (Frame.foldl _ State.notify_frame _ _) (by decide) (by decide)

/-- R124: the outputs whose gates follow. -/
def State.exhaustedViewers (s : State) (event seconds : Nat) : List (Fin 6) :=
  (s.previewsEnded event seconds).membersWhere (fun c _ => (s.exhaustedContexts event seconds).contains c)

theorem State.mem_exhaustedViewers {s : State} {event seconds : Nat} {x : Fin 6} :
    x ∈ s.exhaustedViewers event seconds ↔ exhaustedViewer s event seconds x :=
  State.mem_exhaustedMembers (s.previewsEnded_fields event seconds)

/-- R124: the exhaustion is its halves, its notices, then its gates. -/
theorem State.exhaust_eq (s : State) (x : PreviewEntry) : s.exhaust x =
    (s.previewsEnded x.event x.seconds).evaluateAll .verdict false (s.exhaustedViewers x.event x.seconds) := by
  have hcontexts : allContexts.filter (fun c => (s.ctxs[c]).isActive &&
      s.governedBy c (s.exhaustedHalves x.event x.seconds)) = s.exhaustedContexts x.event x.seconds := by
    simp only [State.governedBy_exhausted]
    rfl
  have hends : (s.halvesExhausted x.event x.seconds).previewEnds (s.exhaustedContexts x.event x.seconds) x.event
      x.seconds = s.previewsEnded x.event x.seconds := by
    rw [State.previewEnds_eq, (s.halvesExhausted_work x.event x.seconds).contextEndNotices, State.previewsEnded,
      previewEndNotices_eq]
  simp only [State.exhaust, hcontexts]
  rw [State.exhaustedViewers, ← hends]
  rfl

theorem State.exhaust_work (s : State) (x : PreviewEntry) :
    GateWork (s.previewsEnded x.event x.seconds) (s.exhaust x) := by
  rw [State.exhaust_eq]
  exact State.evaluateAll_work _ _ _ _

theorem State.exhaust_frame (s : State) (x : PreviewEntry) :
    Frame [.contexts, .own, .writer, .outputs] s (s.exhaust x) :=
  (s.previewsEnded_frame x.event x.seconds).trans (s.exhaust_work x).toFrame (by decide) (by decide)

/-- R124: the halves of an event whose allowance is used up are PURCHASE_NEEDED, the others as they were. -/
theorem State.exhaust_halfAt (s : State) (x : PreviewEntry) (k : HalfPlace) : (s.exhaust x).halfAt k =
    (s.halfAt k).map (fun h => if h.exhaustedAt x.event x.seconds then h.spent else h) := by
  rw [← State.halvesExhausted_halfAt, State.halfAt, (s.exhaust_work x).ctxs,
    (s.previewsEnded_notices x.event x.seconds).ctxs, State.halfAt]

theorem State.exhaust_fields (s : State) (x : PreviewEntry) (c : Fin 8) :
    VerdictFields s.ctxs[c] (s.exhaust x).ctxs[c] := by
  rw [(s.exhaust_work x).ctxs]
  exact s.previewsEnded_fields x.event x.seconds c

/-- R124 step 1: the PREVIEW_END notices come first, also seen from a state before that had the same ring and requests. -/
theorem State.exhaust_own {s u : State} (h : NoticeInputs s u) (hp : u.port = s.port) (x : PreviewEntry) :
    ∃ rest : List OwnReq, (∀ r ∈ rest, r.what.ofNotices = true) ∧ (u.exhaust x).port.ownAll =
      ((previewEndNotices u x.event x.seconds).foldl State.notify s).port.ownAll ++ rest := by
  obtain ⟨rest, hown, hrest⟩ := (u.exhaust_work x).ownAll
  have hhanded := (Handed.nil h hp).trans (u.previewsEnded_handed x.event x.seconds)
  exact ⟨rest, hrest, by rw [hown, hhanded.port, List.nil_append]⟩

/-- R124 step 2: the gates of the viewers follow. -/
theorem State.exhaust_follows {s : State} {x : PreviewEntry} {o : Fin 6} (h : exhaustedViewer s x.event x.seconds o) :
    gateFollows (s.exhaust x) o := by
  rw [State.exhaust_eq]
  exact State.evaluateAll_follows _ _ _ (State.mem_exhaustedViewers.mpr h)

theorem State.exhaust_others {s : State} {x : PreviewEntry} {o : Fin 6} (h : ¬ exhaustedViewer s x.event x.seconds o) :
    (s.exhaust x).outs[o] = s.outs[o] := by
  rw [State.exhaust_eq, State.evaluateAll_others _ _ _ (mt State.mem_exhaustedViewers.mp h), State.previewsEnded_outs]

/-- R124: without a viewer nothing is handed over. -/
theorem State.exhaust_unseen {s : State} {x : PreviewEntry} (h : ∀ o : Fin 6, ¬ exhaustedViewer s x.event x.seconds o) :
    handedOver [] s (s.exhaust x) := by
  have hviewers : s.exhaustedViewers x.event x.seconds = [] :=
    List.eq_nil_iff_forall_not_mem.mpr fun o ho => h o (State.mem_exhaustedViewers.mp ho)
  have hhanded := s.previewsEnded_handed x.event x.seconds
  rw [previewEndNotices_eq_nil h] at hhanded
  rw [State.exhaust_eq, hviewers]
  exact ⟨hhanded.inputs.writer, congrArg Port.ownAll hhanded.port⟩

/-! ### PREVIEW_EXHAUSTION (R124; log entry 3) -/

/-- The exhaustion of the event is taken from those that fell due. -/
def State.exhaustionTaken (s : State) (event : Nat) : State :=
  { s with ticks := { s.ticks with exhaustDue := s.ticks.exhaustDue.filter (· ≠ event) } }

theorem State.exhaustionTaken_frame (s : State) (event : Nat) : Frame [.time] s (s.exhaustionTaken event) :=
  ⟨by simp [onlyChanges, Area.forall_iff, Area.same, State.exhaustionTaken], rfl⟩

theorem exec_previewExhaustion {s : State} {event : Nat} {x : PreviewEntry}
    (hdue : s.ticks.exhaustDue.contains event = true)
    (hx : s.access.previews.find? (fun y => y.event = event) = some x) :
    exec (.previewExhaustion event) s = .next ((s.exhaustionTaken event).exhaust x).settle := by
  have hexec : exec (.previewExhaustion event) s = execPreviewExhaustion event s := rfl
  simp only [hexec, execPreviewExhaustion, if_pos hdue, hx, done]
  rfl

/-- Settles O36: the exhaustion is its halves, its notices, then its gates (`State.exhaust_eq`). -/
theorem previewExhaustionEndsPreview : Obligations.PreviewExhaustionEndsPreview := by
  unfold Obligations.PreviewExhaustionEndsPreview
  intro s event x hdue hx
  obtain ⟨-, rfl⟩ := AccessUnit.entryOf_some hx
  let u := s.exhaustionTaken x.event
  have hhalf (c : Fin 8) (p : HalfParity) : ((u.exhaust x).settle.ctxs[c]).half p =
      ((s.ctxs[c]).half p).map (fun h => if h.exhaustedAt x.event x.seconds then h.spent else h) := by
    rw [State.settle_ctxs]
    exact u.exhaust_halfAt x (c, p)
  have hframe : Frame [.time, .own, .contexts, .outputs, .writer] s (u.exhaust x) :=
    (s.exhaustionTaken_frame x.event).trans (u.exhaust_frame x) (by decide) (by decide)
  obtain ⟨rest, hrest, hown⟩ := State.exhaust_own (s := s) (u := u) ⟨rfl, rfl, rfl, rfl⟩ rfl x
  refine ⟨_, exec_previewExhaustion hdue hx, fun c p h hh => ?_, fun c p hh => ?_, fun c => ?_, ⟨rest, hrest, ?_⟩,
    fun o v ho hv => ?_, fun o ho => ?_, fun hnone => ?_, ?_, hframe.settle⟩
  · rw [hhalf, hh]
    rfl
  · rw [hhalf, hh]
    rfl
  · have hfields := u.exhaust_fields x c
    rw [State.settle_ctxs]
    exact ⟨hfields.life, hfields.members, hfields.parity, hfields.epoch⟩
  · rw [State.settle_ownAll]
    exact hown
  · exact (State.settle_end (u.exhaust x)).gateFollows (State.exhaust_follows (s := u) ho) v hv
  · rw [State.settle_outs]
    exact State.exhaust_others (s := u) ho
  · exact ((State.exhaust_unseen (s := u) hnone).of_inputs ⟨rfl, rfl, rfl, rfl⟩ rfl).settle
  · rw [State.settle_ticks]
    exact (u.exhaust_frame x).only .time (by decide)

end Sys2Proof.Machine
end

section
/-! PROOFS. BUY records (R130 to R132, R140, R129): the checks that a record passes, what the append and the ownership leave,
and the verdicts and gates that follow (R120). -/

namespace Sys2Proof.Machine

/-! ### The PIN of a purchase (R130 check 6, R155) -/

/-- R155: a PIN comparison that passes leaves the profiles but for the failure count of its own, and the settings store. -/
structure PinPassed (q : Fin 6) (s u : State) : Prop where
  eq : ∃ (ps : Vector Profile 6) (x : Settings), u = { s with profiles := ps, settings := x }
  others : otherProfiles q s u

theorem PinPassed.refl (q : Fin 6) (s : State) : PinPassed q s s := ⟨⟨s.profiles, s.settings, rfl⟩, fun _ _ => rfl⟩

theorem State.pinMatched_passed (s : State) (q : Fin 6) : PinPassed q s (s.pinMatched q) := by
  unfold State.pinMatched
  split
  · exact .refl q s
  · refine ⟨⟨_, _, rfl⟩, fun x hx => ?_⟩
    rw [State.markChange_profiles, State.modProfile_get, if_neg (Ne.symm hx)]

theorem State.comparePin_match {s : State} {q : Fin 6} {pin : List Byte} (hopen : (s.profiles[q]).lockoutEnd = none)
    (hpin : pinOf pin = some (s.profiles[q]).pin) (kind : Nat) (o : Option Nat) :
    s.comparePin q pin kind o = (s.pinMatched q, none) := by
  simp only [State.comparePin, hopen, if_pos hpin]

/-- R130 check 6: the PIN is not needed, or it matches that of a profile that is not locked. -/
theorem State.purchasePin_passed {s : State} {o : Fin 6} {op : BuyOp}
    (h : (s.profiles[s.profileOf o]).purchasePin = false ∨ (s.profiles[s.profileOf o]).lockoutEnd = none ∧
      pinOf op.pin = some (s.profiles[s.profileOf o]).pin) :
    ∃ u : State, s.purchasePin o op = (u, none) ∧ PinPassed (s.profileOf o) s u := by
  by_cases hneeded : (s.profiles[s.profileOf o]).purchasePin = true
  · obtain ⟨hopen, hpin⟩ := h.resolve_left (by rw [hneeded]; exact Bool.noConfusion)
    exact ⟨_, by rw [State.purchasePin, if_pos hneeded, State.comparePin_match hopen hpin], s.pinMatched_passed _⟩
  · exact ⟨s, by rw [State.purchasePin, if_neg hneeded], .refl _ s⟩

section Passed

variable {q : Fin 6} {s u : State} (h : PinPassed q s u)

include h

theorem PinPassed.frame : Frame [.profiles, .flashWork] s u := by
  obtain ⟨⟨ps, x, rfl⟩, -⟩ := h
  exact ⟨by simp [onlyChanges, Area.forall_iff, Area.same], rfl⟩

theorem PinPassed.purse : u.purse = s.purse := by
  obtain ⟨⟨ps, x, rfl⟩, -⟩ := h
  rfl

theorem PinPassed.noticed : Noticed s u := by
  obtain ⟨⟨ps, x, rfl⟩, -⟩ := h
  exact .of_port rfl

theorem PinPassed.journalRecord (e : Entry) : u.journalRecord e = s.journalRecord e := by
  obtain ⟨⟨ps, x, rfl⟩, -⟩ := h
  rfl

end Passed

/-! ### The checks of a BUY record (R130, R131) -/

theorem State.namedOutput_ok {s : State} {n : Nat} {o : Fin 6} (h : outputOf n = some o)
    (he : (s.outCfg o).enabled = true) : s.namedOutput n = .ok o := by
  simp only [State.namedOutput, h, if_pos he]

/-- R131: checks 7 to 10. -/
theorem State.buyPriced_passed {s : State} {o : Fin 6} {e : EventCriteria} {price confirm : Nat}
    (hconfirm : price = confirm) (hcredit : -(s.rights.overdraft : Int) ≤ s.purse.balance - price)
    (hroom : s.access.owned.length < 64) (happend : s.purse.appendFails 0 = none) :
    s.buyPriced o e price confirm = s.purchase o e price := by
  have hallowed : ¬ (!s.debitAllowed price) = true := by simpa [State.debitAllowed] using hcredit
  rw [State.buyPriced, if_neg (not_not.mpr hconfirm), if_neg hallowed,
    if_neg (c := ownedSize ≤ _) (Nat.not_le.mpr hroom), happend]

/-- R130: checks 1 to 5; the PIN and the price are still to be checked. -/
theorem State.buyRecord_offered {s : State} {o : Fin 6} {op : BuyOp} {e : EventCriteria} {price clock : Nat}
    (ho : outputOf op.output = some o) (he : (s.outCfg o).enabled = true) (hclock : s.guide.clock = some clock)
    (hoffered : s.offeredEvent o = some e) (hevent : e.event = op.event) (hprice : s.priceNow e = some price)
    (howned : ∀ x ∈ s.access.owned, x.event ≠ e.event) :
    s.buyRecord op = afterPin (s.purchasePin o op) (fun t => t.buyPriced o e price op.confirm) := by
  have hfind : s.access.owned.find? (fun x => x.event = op.event) = none := by simpa [← hevent] using howned
  simp only [State.buyRecord, State.namedOutput_ok ho he, hclock, State.buyOffered, hoffered, ne_eq, hevent,
    not_true_eq_false, if_false, hprice, hfind]

/-! ### The append and the ownership (R132 steps 1 to 3) -/

/-- R126: the owned-events table with one entry more. -/
def State.owning (s : State) (x : OwnedEntry) : State :=
  { s with access := { s.access with owned := s.access.owned ++ [x] } }

/-- R132: the purchase is appended and the event owned. -/
def State.debited (s : State) (o : Fin 6) (e : EventCriteria) (price : Nat) : State :=
  (s.append (purchaseEntry o e price)).owning
    ⟨e.event, e.start + e.duration, (s.append (purchaseEntry o e price)).purse.newest⟩

/-- R132: PURCHASED is handed over as well; verdicts and gates are still to follow. -/
def State.purchased (s : State) (o : Fin 6) (e : EventCriteria) (price : Nat) : State :=
  (s.debited o e price).notify ((s.debited o e price).purchasedNotice o e price)

/-- R120: verdicts and gates follow a purchase as they follow a RIGHTS record without a region change (R115). -/
theorem State.recomputeAndEvaluate_eq (s : State) : s.recomputeAndEvaluate false = s.rightsFollow false := rfl

/-- R132: the purchase is made, then verdicts and gates follow. -/
theorem State.purchase_eq (s : State) (o : Fin 6) (e : EventCriteria) (price : Nat) : s.purchase o e price =
    ((s.purchased o e price).rightsFollow false, accepted (s.append (purchaseEntry o e price)).purse.newest) := by
  rw [← State.recomputeAndEvaluate_eq]
  rfl

theorem Purse.join_newest (p : Purse) (r : JournalRecord) : (p.join r).newest = r.seq := by
  rw [Purse.newest, p.join_list, List.getLast?_concat]

/-- R140: the purse after the append of a purchase. -/
theorem State.append_purse (s : State) (e : Entry) :
    (s.append e).purse.untargeted = (s.purse.join (s.journalRecord e)).untargeted := by
  obtain ⟨x, hx⟩ := s.append_eq e
  rw [hx, State.notify_purse]
  rfl

theorem State.append_newest (s : State) (e : Entry) : (s.append e).purse.newest = s.purse.newest + 1 := by
  have hnewest : (s.append e).purse.newest = (s.purse.join (s.journalRecord e)).newest :=
    (congrArg Purse.newest (s.append_purse e) :)
  rw [hnewest, Purse.join_newest]
  rfl

theorem State.append_frame (s : State) (e : Entry) : Frame [.journal, .flashWork, .own, .writer] s (s.append e) := by
  obtain ⟨x, hx⟩ := s.append_eq e
  rw [hx]
  exact ((s.modPurse_frame _).trans (State.modPurse_frame _ _) (List.Subset.refl _) (List.Subset.refl _)).trans
    (State.notify_frame _ _) (by decide) (by decide)

theorem State.append_noticed (s : State) (e : Entry) : Noticed s (s.append e) := by
  obtain ⟨x, hx⟩ := s.append_eq e
  have hjoined : Noticed s ((s.modPurse (fun p => p.join (s.journalRecord e))).withTarget x) := .of_port rfl
  rw [hx]
  exact hjoined.trans (State.notify_work _ _).noticed

/-- R132: a purchase is no TOPUP or COLLECT: it raises neither floors nor the watermark. -/
theorem Purse.join_purchase (p : Purse) {r : JournalRecord} (h : r.kind = .purchase) : p.join r = { p with
    list := p.list ++ [r]
    queue := p.queue ++ [r]
    erased := if p.writePos % 128 = 0 then p.erased.set (sectorOf p.writePos) false else p.erased
    writePos := nextPlace p.writePos
    balance := r.balanceAfter } := by
  simp only [Purse.join, Purse.raise, h]

theorem State.owning_frame (s : State) (x : OwnedEntry) : Frame [.access] s (s.owning x) :=
  ⟨by simp [onlyChanges, Area.forall_iff, Area.same, State.owning], rfl⟩

/-- R130 check 6, R132: what the PIN comparison against profile `q`, the append and the ownership leave. -/
structure Purchased (q o : Fin 6) (e : EventCriteria) (price : Nat) (s t : State) : Prop where
  frame : Frame [.journal, .flashWork, .own, .writer, .access, .profiles] s t
  noticed : Noticed s t
  purse : t.purse.untargeted = (s.purse.join (s.journalRecord (purchaseEntry o e price))).untargeted
  owned : t.access.owned = s.access.owned ++ [⟨e.event, e.start + e.duration, s.purse.newest + 1⟩]
  profiles : otherProfiles q s t

theorem State.purchased_frame (s : State) (o : Fin 6) (e : EventCriteria) (price : Nat) :
    Frame [.journal, .flashWork, .own, .writer, .access] s (s.purchased o e price) :=
  ((s.append_frame _).trans (State.owning_frame _ _) (by decide) (by decide)).trans (State.notify_frame _ _)
    (List.Subset.refl _) (by decide)

theorem State.purchased_noticed (s : State) (o : Fin 6) (e : EventCriteria) (price : Nat) :
    Noticed s (s.purchased o e price) := by
  have howning : Noticed (s.append (purchaseEntry o e price)) (s.debited o e price) := .of_port rfl
  exact ((s.append_noticed _).trans howning).trans (State.notify_work _ _).noticed

theorem PinPassed.purchased {q : Fin 6} {s u : State} (h : PinPassed q s u) (o : Fin 6) (e : EventCriteria)
    (price : Nat) : Purchased q o e price s (u.purchased o e price) where
  frame := h.frame.trans (u.purchased_frame o e price) (by decide) (by decide)
  noticed := h.noticed.trans (u.purchased_noticed o e price)
  purse := by
    rw [← h.purse, ← h.journalRecord, State.purchased, State.notify_purse]
    exact u.append_purse _
  owned := by
    have haccess : (u.append (purchaseEntry o e price)).access = s.access :=
      ((u.append_frame _).only .access (by decide)).trans (h.frame.only .access (by decide))
    rw [State.purchased, State.notify_access, State.debited, State.owning, haccess, State.append_newest, h.purse]
  profiles x hx := by
    have hprofiles : (u.purchased o e price).profiles = u.profiles :=
      (u.purchased_frame o e price).only .profiles (by decide)
    rw [hprofiles]
    exact h.others x hx

/-! ### Verdicts and gates at the end of a command (R120) -/

section Follow

variable {s w t : State} (h : EndOf (w.rightsFollow false) t) (hctxs : w.ctxs = s.ctxs)

include h

theorem EndOf.followed_ctxs : t.ctxs = (w.recompute allHalves).ctxs := by
  rw [h.ctxs, (State.rightsFollow_work _ _).ctxs]

theorem EndOf.followed_access : t.access = (w.recompute allHalves).access := by
  rw [h.access, (State.rightsFollow_work _ _).access]

theorem EndOf.followed_profiles : t.profiles = w.profiles := by
  rw [h.profiles, (State.rightsFollow_work _ _).profiles, (State.recompute_work _ _).profiles]

include hctxs

theorem EndOf.followed_judged : halvesJudged s t := by
  refine halvesJudged_of_settled (fun c => ?_) fun l =>
    (w.recompute_settles l).congr h.followed_ctxs h.followed_access ?_ ?_
  · rw [h.followed_ctxs, ← hctxs]
    exact (w.recompute_work allHalves).ctxs c
  · rw [h.rights, (State.rightsFollow_work _ _).rights]
  · rw [h.guide, (State.rightsFollow_work _ _).guide]

theorem EndOf.followed_moved {x : Fin 6} : verdictMoved s t x ↔ x ∈ w.movedViewers := by
  rw [State.mem_movedViewers, verdictMoved, verdictMoved, h.followed_ctxs, hctxs]

theorem EndOf.followed_gates : gatesFollow (verdictMoved s t) t := by
  intro x v hx hv
  exact h.gateFollows (w.rightsFollow_follows (.inl ((h.followed_moved hctxs).mp hx))) v hv

theorem EndOf.followed_others (houts : w.outs = s.outs) {x : Fin 6} (hx : ¬ verdictMoved s t x) :
    t.outs[x] = s.outs[x] := by
  rw [h.outs, w.rightsFollow_others (mt (h.followed_moved hctxs).mpr hx), houts]

end Follow

/-! ### BUY (R130 to R132) -/

theorem State.buyRecord_passed {s : State} {o : Fin 6} {op : BuyOp} {e : EventCriteria} {price clock : Nat}
    (ho : outputOf op.output = some o) (he : (s.outCfg o).enabled = true) (hclock : s.guide.clock = some clock)
    (hoffered : s.offeredEvent o = some e) (hevent : e.event = op.event) (hprice : s.priceNow e = some price)
    (howned : ∀ x ∈ s.access.owned, x.event ≠ e.event)
    (hpin : (s.profiles[s.profileOf o]).purchasePin = false ∨ (s.profiles[s.profileOf o]).lockoutEnd = none ∧
      pinOf op.pin = some (s.profiles[s.profileOf o]).pin)
    (hconfirm : price = op.confirm) (hcredit : -(s.rights.overdraft : Int) ≤ s.purse.balance - price)
    (hroom : s.access.owned.length < 64) (happend : s.purse.appendFails 0 = none) :
    ∃ w : State, s.buyRecord op = (w.rightsFollow false, accepted (s.purse.newest + 1)) ∧
      Purchased (s.profileOf o) o e price s w := by
  obtain ⟨u, hu, hpassed⟩ := State.purchasePin_passed hpin
  refine ⟨u.purchased o e price, ?_, hpassed.purchased o e price⟩
  have hrights : u.rights = s.rights := hpassed.frame.only .rights (by decide)
  have haccess : u.access = s.access := hpassed.frame.only .access (by decide)
  rw [State.buyRecord_offered ho he hclock hoffered hevent hprice howned, hu]
  show u.buyPriced o e price op.confirm = _
  rw [State.buyPriced_passed hconfirm (by rwa [hrights, hpassed.purse]) (by rwa [haccess]) (by rwa [hpassed.purse]),
    State.purchase_eq, State.append_newest, hpassed.purse]

theorem exec_buy (s : State) :
    exec .buy s = recordStep s .buy (fun _ => true) (fun s f => s.buyRecord f.bytes.buyOp) := rfl

/-- R132, R32: a BUY record that passed every check is answered after its notices. -/
theorem exec_buy_passed {s w : State} {f : Fetched} {q o : Fin 6} {e : EventCriteria} {price : Nat} {out : Outcome}
    (h : atHand s .buy f) (hrecord : s.freePort.buyRecord f.bytes.buyOp = (w.rightsFollow false, out))
    (hmade : Purchased q o e price s.freePort w) : ∃ t : State, exec .buy s = .next t ∧
      answeredAfter f .buy out s t ∧ EndOf (w.rightsFollow false) t ∧ t.purse.untargeted = w.purse.untargeted ∧
      onlyChanges [.own, .intake, .contexts, .outputs, .access, .journal, .flashWork, .profiles, .writer] s t := by
  have ⟨hf, ha, _⟩ := h
  have hverdicts := w.recompute_work allHalves
  have hgates := w.rightsFollow_work false
  have hnoticed := (hmade.noticed.trans hverdicts.noticed).trans hgates.noticed
  have hframe := (hmade.frame.trans hverdicts.toFrame
    (cs := [.own, .contexts, .access, .journal, .flashWork, .profiles, .writer]) (by decide) (by decide)).trans
    hgates.toFrame (cs := [.own, .contexts, .outputs, .access, .journal, .flashWork, .profiles, .writer])
    (by decide) (by decide)
  obtain ⟨hpurse, -⟩ := (w.rightsFollow false).finishRecord_flash ha
    ((w.rightsFollow false).scrubWrites f.slot .buy) out
  rw [hgates.purse, hverdicts.purse] at hpurse
  rw [exec_buy]
  exact ⟨_, recordStep_atHand h rfl hrecord,
    State.finishRecord_after ha hnoticed (hframe.only .config (by decide)) (hframe.only .intake (by decide)) .buy out,
    State.finishRecord_end _ ha _ _, hpurse, State.finishRecord_frame hf ha hframe (by decide) (by decide) _ _⟩

/-- R140: what a purchase leaves of the purse, whatever the erase-ahead target. -/
theorem Purse.purchase_fields {p q : Purse} {r : JournalRecord} (hr : r.kind = .purchase)
    (h : q.untargeted = (p.join r).untargeted) :
    q.list = p.list ++ [r] ∧ q.queue = p.queue ++ [r] ∧ q.balance = r.balanceAfter ∧
      q.writePos = nextPlace p.writePos ∧ q.watermark = p.watermark ∧ q.floorUnit = p.floorUnit ∧
      q.floorGroup = p.floorGroup := by
  rw [p.join_purchase hr] at h
  exact ⟨(congrArg Purse.list h :), (congrArg Purse.queue h :), (congrArg Purse.balance h :),
    (congrArg Purse.writePos h :), (congrArg Purse.watermark h :), (congrArg Purse.floorUnit h :),
    (congrArg Purse.floorGroup h :)⟩

/-- Settles O37: the purchase is made (`Purchased`), then verdicts and gates follow and the record is answered
(`exec_buy_passed`). -/
theorem buyDebitsAndOwns : Obligations.BuyDebitsAndOwns := by
  unfold Obligations.BuyDebitsAndOwns
  intro s f o e price clock h ho he hclock hoffered hevent hprice howned hpin hconfirm hcredit hroom happend
  obtain ⟨w, hrecord, hmade⟩ := State.buyRecord_passed (s := s.freePort) ho he hclock hoffered hevent hprice howned hpin
    hconfirm hcredit hroom happend
  obtain ⟨t, hstep, hanswer, hend, hpurse, hchanges⟩ := exec_buy_passed h hrecord hmade
  obtain ⟨hlist, hqueue, hbalance, hplace, hwatermark, hunit, hgroup⟩ :=
    Purse.purchase_fields rfl (hpurse.trans hmade.purse)
  have hctxs : w.ctxs = s.ctxs := (hmade.frame.only .contexts (by decide)).1
  have houts : w.outs = s.outs := hmade.frame.only .outputs (by decide)
  have hclock' : s.guide.clock.getD 0 = clock := by rw [hclock, Option.getD_some]
  refine ⟨t, s.freePort.journalRecord (purchaseEntry o e price), hstep, hanswer, ?_, hlist, hqueue, hbalance, hplace,
    hwatermark, hunit, hgroup, ?_, hend.followed_judged hctxs, hend.followed_gates hctxs,
    fun x hx => hend.followed_others hctxs houts hx, ?_, hchanges⟩
  · rw [← hclock']
    rfl
  · rw [hend.followed_access, (w.recompute_work allHalves).owned]
    exact hmade.owned
  · intro x hx
    rw [hend.followed_profiles]
    exact hmade.profiles x hx

end Sys2Proof.Machine
end

section
/-! PROOFS. The ledger: configuration, rights, journal, profiles and the two memories, all that the invariants of
memories, balance and profiles read; and the operations of every block that leave it alone. -/

namespace Sys2Proof.Machine

/-! ### The ledger -/

/-- The ledger: configuration, rights, journal, profiles, DRAM and flash. -/
def State.ledger (s : State) : Image × Rights × Purse × Vector Profile 6 × Memory × Memory :=
  (s.cfg, s.rights, s.purse.untargeted, s.profiles, s.dram, s.flash)

/-- The kinds of state that the ledger reads. -/
def ledgerAreas : List Area := [.config, .rights, .journal, .profiles, .dram, .flash]

theorem State.ledger_eq_iff {s t : State} : t.ledger = s.ledger ↔ t.cfg = s.cfg ∧ t.rights = s.rights ∧
    t.purse.untargeted = s.purse.untargeted ∧ t.profiles = s.profiles ∧ t.dram = s.dram ∧ t.flash = s.flash := by
  simp only [State.ledger, Prod.mk.injEq]

theorem onlyChanges.ledger {as : List Area} {s t : State} (h : onlyChanges as s t) (ha : ∀ a ∈ ledgerAreas, a ∉ as) :
    t.ledger = s.ledger :=
  State.ledger_eq_iff.mpr ⟨h .config (ha _ (by decide)), h .rights (ha _ (by decide)), h .journal (ha _ (by decide)),
    h .profiles (ha _ (by decide)), h .dram (ha _ (by decide)), h .flash (ha _ (by decide))⟩

theorem Frame.ledger {as : List Area} {s t : State} (h : Frame as s t) (ha : ∀ a ∈ ledgerAreas, a ∉ as) :
    t.ledger = s.ledger := h.only.ledger ha

theorem GateWork.ledger {s t : State} (h : GateWork s t) : t.ledger = s.ledger := h.toFrame.ledger (by decide)

theorem VerdictWork.ledger {s t : State} (h : VerdictWork s t) : t.ledger = s.ledger := h.toFrame.ledger (by decide)

theorem TablesOnly.ledger {s t : State} (h : TablesOnly s t) : t.ledger = s.ledger := h.frame.ledger (by decide)

/-- An operation done for each of a list leaves the ledger alone if each one does. -/
theorem State.foldl_ledger {α : Type} {f : State → α → State} (h : ∀ s a, (f s a).ledger = s.ledger) (l : List α)
    (s : State) : (l.foldl f s).ledger = s.ledger := by
  induction l generalizing s with
  | nil => rfl
  | cons a l ih => exact (ih (f s a)).trans (h s a)

section Ledger

variable (s : State)

@[simp] theorem State.notify_ledger (n : Notice) : (s.notify n).ledger = s.ledger := (s.notify_work n).ledger

@[simp] theorem State.count_ledger (o : Fin 6) (f : OutputCounters → OutputCounters) :
    (s.count o f).ledger = s.ledger := (s.count_frame o f).ledger (by decide)

@[simp] theorem State.answer_ledger (u : UpReq) (d : List Byte) : (s.answer u d).ledger = s.ledger :=
  (s.answer_frame u d).ledger (by decide)

theorem State.withPart_ledger (p : PartState) : ({ s with part := p } : State).ledger = s.ledger := rfl
@[simp] theorem State.modOut_ledger (o : Fin 6) (f : Output → Output) : (s.modOut o f).ledger = s.ledger := rfl
@[simp] theorem State.modCtx_ledger (c : Fin 8) (f : Context → Context) : (s.modCtx c f).ledger = s.ledger := rfl
@[simp] theorem State.modRing_ledger (k : Fin 4) (f : Ring → Ring) : (s.modRing k f).ledger = s.ledger := rfl
@[simp] theorem State.modWriter_ledger (f : Writer → Writer) : (s.modWriter f).ledger = s.ledger := rfl
@[simp] theorem State.modGuideCounters_ledger (f : GuideCounters → GuideCounters) :
    (s.modGuideCounters f).ledger = s.ledger := rfl
@[simp] theorem State.modIntake_ledger (f : Intake → Intake) : (s.modIntake f).ledger = s.ledger := rfl
@[simp] theorem State.setHalf_ledger (l : HalfPlace) (h : Option Half) : (s.setHalf l h).ledger = s.ledger := rfl
@[simp] theorem State.freePort_ledger : s.freePort.ledger = s.ledger := rfl
@[simp] theorem State.markChange_ledger : s.markChange.ledger = s.ledger := rfl

@[simp] theorem State.settle_ledger : s.settle.ledger = s.ledger := by
  simp [State.ledger_eq_iff, State.settle_purse]

@[simp] theorem State.evaluate_ledger (c : GateCause) (d : Bool) (o : Fin 6) : (s.evaluate c d o).ledger = s.ledger :=
  (s.evaluate_work c d o).ledger

@[simp] theorem State.evaluateAll_ledger (c : GateCause) (d : Bool) (os : List (Fin 6)) :
    (s.evaluateAll c d os).ledger = s.ledger := (s.evaluateAll_work c d os).ledger

@[simp] theorem State.evaluateChanged_ledger (before : State) (d : Bool) (pick : Fin 8 → Bool) :
    (s.evaluateChanged before d pick).ledger = s.ledger := (s.evaluateChanged_work before d pick).ledger

@[simp] theorem State.evaluateTuned_ledger (c : GateCause) (o : Fin 6) : (s.evaluateTuned c o).ledger = s.ledger :=
  (s.evaluateTuned_work c o).ledger

@[simp] theorem State.evaluateIfGoverningChanged_ledger (m : Option (HalfParity × Nat)) (c : Fin 8) :
    (s.evaluateIfGoverningChanged m c).ledger = s.ledger := (s.evaluateIfGoverningChanged_work m c).ledger

@[simp] theorem State.recompute_ledger (ls : List HalfPlace) : (s.recompute ls).ledger = s.ledger :=
  (s.recompute_work ls).ledger

@[simp] theorem State.retarget_ledger : s.retarget.ledger = s.ledger := by
  unfold State.retarget
  split <;> rfl

/-! ### The Path Unit and Intake -/

@[simp] theorem State.arrive_ledger (r : Request) : (s.arrive r).ledger = s.ledger := by
  unfold State.arrive State.presentOrHold
  split <;> rfl

theorem State.upstream_ledger (r : Request) : (s.upstream r).ledger = s.ledger := by
  unfold State.upstream
  split
  · rfl
  · rfl
  all_goals exact s.arrive_ledger r

theorem State.cellRead_ledger (u : UpReq) (o : Fin 6) (ecc : EccFinding) (atOnce : Bool) :
    (s.cellRead u o ecc atOnce).ledger = s.ledger := by
  have hjudged (x : Reading) : (s.freePort.cellProcedure x ecc).state.ledger = s.ledger :=
    (State.cellProcedure_outcome s.freePort x ecc).work.frame.ledger (by decide)
  have hanswered (t : State) (e : ReadEvent) (d : List Byte) : (t.answerRead o e u d).ledger = t.ledger :=
    (t.answerRead_frame o e u d).ledger (by decide)
  unfold State.cellRead
  dsimp only
  split
  · simp [State.partialRead]
  · split
    · unfold State.holdRead
      split <;> rfl
    · split
      · exact (hanswered _ _ _).trans (hjudged _)
      · exact hjudged _

theorem State.fetchDone_ledger (f : Fetched) : (s.fetchDone f).ledger = s.ledger := by
  unfold State.fetchDone
  split <;> rfl

@[simp] theorem State.select_ledger : s.select.ledger = s.ledger := s.select_frame.ledger (by decide)

theorem State.finishRecord_ledger (f : Fetched) (ws : List OwnReq) (out : Outcome) :
    (s.finishRecord f ws out).ledger = s.ledger := by
  unfold State.finishRecord
  split
  · rfl
  · exact State.select_ledger _

theorem State.countBadLength_ledger (k : Kind) (a : Bool) : (s.countBadLength k a).ledger = s.ledger := by
  cases k <;> cases a <;> rfl

theorem State.outcomeDone_ledger (n : Fin 256) : (s.outcomeDone n).ledger = s.ledger := State.select_ledger _

/-! ### Guide Tables -/

theorem State.servicesRecord_ledger (version : Nat) (items : List ServiceItem) :
    (s.servicesRecord version items).1.ledger = s.ledger := by
  unfold State.servicesRecord
  split
  · rfl
  · exact (State.evaluateAll_ledger _ _ _ _).trans (State.applyItems_applied items s).tables.ledger

theorem State.eventsRecord_ledger (f : Fetched) : (s.eventsRecord f).1.ledger = s.ledger := by
  have hissued (t : State) (rs : List OwnReq) : (t.issueFor f rs).ledger = t.ledger := by
    unfold State.issueFor
    split <;> rfl
  have hrefused {r : Record} {x : State × Outcome} (h : s.eventsCheck r = some x) : x.1.ledger = s.ledger := by
    unfold State.eventsCheck at h
    split_ifs at h
    · cases h; rfl
    · cases h; rfl
    · split at h
      · cases h; rfl
      · split_ifs at h
        cases h; rfl
  unfold State.eventsRecord
  split
  · next h => exact hrefused h
  · exact (State.evaluateAll_ledger _ _ _ _).trans (hissued _ _)

/-! ### The Context Pool and the Key Store -/

theorem State.tuneView_ledger (op : TuneOp) : (s.tuneView op).1.ledger = s.ledger := by
  unfold State.tuneView
  split
  · rfl
  · split
    · rfl
    · next o _ =>
      unfold State.applyView
      split
      · rfl
      · split
        · rfl
        · next hu =>
          have hob := State.obtainBy_obtained ((s.obtainView_eq o _ _).symm.trans hu)
          exact ((State.enterSeeking_frame _ _ _ _ _).ledger (by decide)).trans
            ((State.leaveOld_tables _ _ _).ledger.trans hob.tables.ledger)

theorem State.tuneStage_ledger (op : TuneOp) : (s.tuneStage op).1.ledger = s.ledger := by
  unfold State.tuneStage
  split
  · rfl
  · next e w _ =>
    split
    · rfl
    · next hu => exact (State.obtainBy_obtained ((s.obtainStage_eq _ _).symm.trans hu)).tables.ledger

theorem State.release_ledger (n : Nat) : (s.release n).1.ledger = s.ledger := by
  have hidle (o : Fin 6) : (s.moveToIdle o).ledger = s.ledger := by
    unfold State.moveToIdle
    split <;> rfl
  unfold State.release
  split
  · rfl
  · split
    · exact hidle _
    · rfl

theorem State.clearPool_ledger : s.clearPool.ledger = s.ledger := by
  rw [State.clearPool_eq]
  rfl

theorem State.compareBlocks_ledger (c : Fin 8) (bs : List KeyBlock) (fs : List EccFinding) :
    (s.compareBlocks c bs fs).1.ledger = s.ledger := by
  have hcheck (t : State) (p : HalfParity) (f : EccFinding) : (t.eccCheck c p true f).1.ledger = t.ledger := by
    cases f with
    | clean => rfl
    | singleBit => exact (t.countCorrected_frame c).ledger (by decide)
    | uncorrectable => exact (t.keyFault_judge c p true).frame.ledger (by decide)
  induction bs generalizing s fs with
  | nil => rfl
  | cons b bs ih =>
    unfold State.compareBlocks
    split
    · rfl
    · split
      · rfl
      · dsimp only
        split
        · exact (ih _ _).trans (hcheck _ _ _)
        · exact hcheck _ _ _

theorem State.keyRefresh_ledger (c : Fin 8) (bs : List KeyBlock) (fs : List EccFinding) :
    (s.keyRefresh c bs fs).1.ledger = s.ledger := by
  have hcompare := s.compareBlocks_ledger c bs fs
  have hrefresh (t : State) (b : KeyBlock) : (t.refreshHalf c b).ledger = t.ledger := by
    unfold State.refreshHalf
    split <;> rfl
  unfold State.keyRefresh
  split
  · next h =>
    rw [h] at hcompare
    exact (State.foldl_ledger hrefresh bs _).trans hcompare
  · next h =>
    rw [h] at hcompare
    exact hcompare

theorem State.loadHalves_ledger (c : Fin 8) (bs : List KeyBlock) (ks : List (BitVec 128)) :
    (s.loadHalves c bs ks).ledger = s.ledger := by
  have hload (t : State) (b : KeyBlock) (k : BitVec 128) : (t.loadHalf c b k).ledger = t.ledger := by
    unfold State.loadHalf
    split <;> rfl
  induction bs generalizing s ks with
  | nil => rfl
  | cons b bs ih => exact (ih _ _).trans (hload _ _ _)

theorem State.keyRecord_ledger (u : KeyUnwrap) (r : Record) : (s.keyRecord u r).1.ledger = s.ledger := by
  unfold State.keyRecord
  split
  · rfl
  · split
    · rfl
    · split
      · simp [State.keyLoad, State.loadHalves_ledger]
      · exact s.keyRefresh_ledger _ _ _
      · rfl

/-! ### The Notice Writer -/

theorem State.writeStats_ledger : s.writeStats.ledger = s.ledger := by
  have houtput (t : State) (o : Fin 6) : (t.statsOutput o).ledger = t.ledger := by
    unfold State.statsOutput
    split <;> simp
  have hring (t : State) (k : Fin 4) : (t.statsRing k).ledger = t.ledger := by
    unfold State.statsRing
    split <;> simp
  simp only [State.writeStats, State.statsGuide, State.modGuideCounters_ledger, State.notify_ledger]
  exact (State.foldl_ledger hring _ _).trans (State.foldl_ledger houtput _ s)

theorem State.statsFallDue_ledger : s.statsFallDue.ledger = s.ledger := by
  unfold State.statsFallDue
  split
  · rfl
  · split
    · exact s.writeStats_ledger
    · rfl

theorem State.consumerWritten_ledger (r : Request) : (s.consumerWritten r).ledger = s.ledger := by
  unfold State.consumerWritten State.handConsumer
  split
  · rfl
  · unfold State.takeConsumer State.retryStats
    split
    · exact State.writeStats_ledger _
    · rfl

/-! ### Power and part states -/

theorem State.linkReset_ledger {s : State} (h : s.part.running = true) (c : Bool) :
    (s.linkReset c).ledger = s.ledger := by
  rw [State.linkReset_eq h]
  exact (State.linkReset_frame h c).ledger (by decide)

theorem State.powerStandby_ledger (a : Nat) : (s.powerStandby a).1.ledger = s.ledger := by
  have hforce (t : State) : t.forceSettings.ledger = t.ledger := by
    unfold State.forceSettings
    split <;> rfl
  unfold State.powerStandby
  split
  · rfl
  · split
    · rfl
    · exact (State.withPart_ledger _ .standby).trans ((hforce _).trans s.clearPool_ledger)

theorem State.powerWake_ledger (a : Nat) : (s.powerWake a).1.ledger = s.ledger := by
  unfold State.powerWake
  split
  · rfl
  · split <;> rfl

theorem State.enterFault_ledger : s.enterFault.ledger = s.ledger := by
  rw [State.enterFault_eq]
  exact (State.presentAll_frame _ _).ledger (by decide)

theorem State.startStatistics_ledger : s.startStatistics.ledger = s.ledger := by
  unfold State.startStatistics
  split <;> rfl

end Ledger

end Sys2Proof.Machine
end

section
/-! PROOFS. The invariants of memories, balance and profiles (R129, R110, R136, R139, R153), operation by operation:
what keeps them, whether or not the balance stays. -/

namespace Sys2Proof.Machine

/-! ### Operations that keep the ledger sound -/

/-- The two memories, the purse and the profiles stay as sound as they are; and where `b` is set, the balance stays. -/
structure Kept (b : Bool) (s t : State) : Prop where
  memories : MemoriesOk s → MemoriesOk t
  purse : PurseOk s → PurseOk t
  profiles : ProfilesOk s → ProfilesOk t
  balance : b = true → t.purse.balance = s.purse.balance

theorem Kept.refl (b : Bool) (s : State) : Kept b s s := ⟨id, id, id, fun _ => rfl⟩

theorem Kept.trans {b : Bool} {s t u : State} (h : Kept b s t) (k : Kept b t u) : Kept b s u :=
  ⟨k.memories ∘ h.memories, k.purse ∘ h.purse, k.profiles ∘ h.profiles, fun hb => (k.balance hb).trans (h.balance hb)⟩

/-- An operation done for each of a list keeps what each one keeps. -/
theorem Kept.foldl {b : Bool} {α : Type} {f : State → α → State} (h : ∀ s a, Kept b s (f s a)) (l : List α)
    (s : State) : Kept b s (l.foldl f s) := by
  induction l generalizing s with
  | nil => exact .refl b s
  | cons a l ih => exact (h s a).trans (ih (f s a))

theorem Kept.of_ledger {b : Bool} {s t : State} (h : t.ledger = s.ledger) : Kept b s t := by
  obtain ⟨hcfg, hrights, hpurse, hprofiles, hdram, hflash⟩ := State.ledger_eq_iff.mp h
  have hbalance : t.purse.balance = s.purse.balance := (congrArg Purse.balance hpurse :)
  have hqueue : t.purse.queue = s.purse.queue := (congrArg Purse.queue hpurse :)
  refine ⟨?_, ?_, ?_, fun _ => hbalance⟩
  · unfold MemoriesOk
    rw [hdram, hflash]
    exact id
  · unfold PurseOk
    rw [hbalance, hqueue, hrights, hcfg]
    exact id
  · unfold ProfilesOk
    rw [hprofiles, hcfg]
    exact id

/-- A change of DRAM that keeps its canonical form. -/
theorem State.dramWrite_kept (b : Bool) (s : State) (a : Nat) (bs : List Byte) : Kept b s (s.dramWrite a bs) :=
  ⟨fun ⟨hdram, hflash⟩ => ⟨Memory.writeBytes_wf bs a hdram, hflash⟩, id, id, fun _ => rfl⟩

theorem State.flashWrite_kept (b : Bool) (s : State) (a : Nat) (bs : List Byte) : Kept b s (s.flashWrite a bs) :=
  ⟨fun ⟨hdram, hflash⟩ => ⟨hdram, Memory.writeBytes_wf bs a hflash⟩, id, id, fun _ => rfl⟩

theorem State.flashErase_kept (b : Bool) (s : State) (k : Nat) : Kept b s (s.flashErase k) :=
  ⟨fun ⟨hdram, hflash⟩ => ⟨hdram, Memory.clear_wf _ _ hflash⟩, id, id, fun _ => rfl⟩

theorem State.completeWrite_kept (b : Bool) (s : State) (u : UpReq) : Kept b s (s.completeWrite u) :=
  ((Kept.of_ledger s.freePort_ledger).trans (State.dramWrite_kept b _ _ _)).trans
    (.of_ledger (State.answer_ledger _ _ _))

theorem State.completeOwn_kept (b : Bool) (s : State) (r : OwnReq) : Kept b s (s.completeOwn r) :=
  (Kept.of_ledger s.freePort_ledger).trans (State.dramWrite_kept b _ _ _)

/-! ### Profiles (R153) -/

/-- A change of profiles that keeps every one in range. -/
theorem Kept.of_profiles {b : Bool} {s : State} {ps : Vector Profile 6}
    (h : ∀ q : Fin 6, (s.profiles[q]).InRange → (ps[q]).InRange) : Kept b s { s with profiles := ps } :=
  ⟨id, id, fun ⟨hprofiles, hrest⟩ => ⟨fun q => h q (hprofiles q), hrest⟩, fun _ => rfl⟩

theorem State.modProfile_kept (b : Bool) (s : State) (q : Fin 6) {f : Profile → Profile}
    (h : (s.profiles[q]).InRange → (f s.profiles[q]).InRange) : Kept b s (s.modProfile q f) := by
  refine Kept.of_profiles (ps := (s.modProfile q f).profiles) fun x hx => ?_
  rw [State.modProfile_get]
  split
  · next hq =>
    subst hq
    exact h hx
  · exact hx

/-- R193: the digits of a PIN field are a PIN. -/
theorem pinOf_inRange {f : List Byte} {pin : List Nat} (h : pinOf f = some pin) : pinInRange pin := by
  unfold pinOf at h
  dsimp only at h
  split at h
  · next hok =>
    obtain ⟨hlow, hhigh, hdigits, -⟩ := hok
    cases h
    refine ⟨by rwa [List.length_map], by rwa [List.length_map], fun d hd => ?_⟩
    obtain ⟨x, hx, rfl⟩ := List.mem_map.mp hd
    have := hdigits x hx
    omega
  · cases h

theorem pinOf_getD_inRange (f : List Byte) {pin : List Nat} (h : pinInRange pin) : pinInRange ((pinOf f).getD pin) := by
  cases hf : pinOf f with
  | none => exact h
  | some ds => exact pinOf_inRange hf

section Fields

variable {p : Profile} (h : p.InRange)

include h

theorem Profile.InRange.used : p.minutesUsed ≤ 1440 := by
  obtain ⟨-, -, -, hused, -⟩ := h
  exact hused

theorem Profile.InRange.seconds : p.accumulator ≤ 59 := by
  obtain ⟨-, -, -, -, hsum, -⟩ := h
  exact hsum

theorem Profile.InRange.pin : pinInRange p.pin := by
  obtain ⟨-, -, -, -, -, hpin, -⟩ := h
  exact hpin

theorem Profile.InRange.counted : p.failures ≤ 5 := by
  obtain ⟨-, -, -, -, -, -, hfailures⟩ := h
  exact hfailures

/-- R155, R156: a failure count of at most 5, whatever the end of the lockout. -/
theorem Profile.InRange.withFailures {n : Nat} (hn : n ≤ 5) (e : Option Nat) :
    Profile.InRange { p with failures := n, lockoutEnd := e } := by
  obtain ⟨hceiling, hwindow, hbudget, hused, hsum, hpin, -⟩ := h
  exact ⟨hceiling, hwindow, hbudget, hused, hsum, hpin, hn⟩

/-- R113, R160: a PIN, whatever becomes of failures and lockout. -/
theorem Profile.InRange.withPin {pin : List Nat} (hp : pinInRange pin) :
    Profile.InRange { p with pin := pin } := by
  obtain ⟨hceiling, hwindow, hbudget, hused, hsum, -, hfailures⟩ := h
  exact ⟨hceiling, hwindow, hbudget, hused, hsum, hp, hfailures⟩

/-- R165, R167: what a profile has of the budget day. -/
theorem Profile.InRange.withDay {used sum : Nat} (hu : used ≤ 1440) (hs : sum ≤ 59) (warned : Bool) :
    Profile.InRange { p with minutesUsed := used, accumulator := sum, warned := warned } := by
  obtain ⟨hceiling, hwindow, hbudget, -, -, hpin, hfailures⟩ := h
  exact ⟨hceiling, hwindow, hbudget, hu, hs, hpin, hfailures⟩

/-- R162: an edit whose fields passed their checks. -/
theorem Profile.InRange.edit {op : ProfileOp} (hok : op.fieldsOk = true) : (p.edit op).InRange := by
  obtain ⟨hceiling, hwindow, hbudget, hused, hsum, hpin, hfailures⟩ := h
  simp only [ProfileOp.fieldsOk, ProfileOp.windowOk, Bool.and_eq_true, Bool.or_eq_true, Bool.not_eq_true',
    decide_eq_true_eq] at hok
  obtain ⟨⟨⟨hc, hw⟩, hb⟩, -⟩ := hok
  refine ⟨?_, ?_, ?_, hused, hsum, ?_, ?_⟩ <;> simp only [Profile.edit]
  · split
    · next hn => exact hc.resolve_left (by simp [hn])
    · exact hceiling
  · split
    · next hn =>
      split
      · next hf =>
        rintro a b ⟨⟩
        obtain ⟨⟨ha, hb⟩, hne⟩ := (hw.resolve_left (by simp [hn, hf]))
        exact ⟨ha, hb, hne⟩
      · exact windowInRange_none
    · exact hwindow
  · split
    · next hn =>
      split
      · next hf =>
        rintro a ⟨⟩
        exact hb.resolve_left (by simp [hn, hf])
      · rintro a ⟨⟩
    · exact hbudget
  · split
    · exact pinOf_getD_inRange _ hpin
    · exact hpin
  · split
    · exact Nat.zero_le 5
    · exact hfailures

theorem Profile.InRange.apply {op : ProfileOp} (hok : op.fieldsOk = true) (m : Option Nat) :
    (p.apply op m).InRange := by
  unfold Profile.apply
  split
  · exact h.edit hok
  · exact h.edit hok

/-- R113: a profile after an item of a RIGHTS record. -/
theorem Profile.InRange.onProfile (q : Fin 6) (it : RightsItem) : (it.onProfile q p).InRange := by
  cases it with
  | pinReset n pin =>
    show (if n = q.val then _ else p).InRange
    split
    · exact (h.withFailures (Nat.zero_le 5) none).withPin (pinOf_getD_inRange pin h.pin)
    · exact h
  | _ => exact h

end Fields

/-- R154: the factory settings of a profile. -/
theorem FactoryProfile.InRange.profile {f : FactoryProfile} (h : f.InRange) {pin : List Nat} (hp : pinInRange pin) :
    (f.profile pin).InRange := by
  obtain ⟨hceiling, hwindow, hbudget⟩ := h
  exact ⟨hceiling, hwindow, hbudget, Nat.zero_le _, Nat.zero_le _, hp, Nat.zero_le _⟩

/-- R150: the locked defaults. -/
theorem lockedProfile_inRange {pin : List Nat} (hp : pinInRange pin) : (lockedProfile pin).InRange :=
  ⟨Nat.zero_le _, windowInRange_none, by rintro b ⟨⟩; exact Nat.zero_le _, Nat.zero_le _, Nat.zero_le _, hp,
    Nat.zero_le _⟩

/-- R150, R153: a profile of a good settings sector. -/
theorem settingsProfile_inRange {b : List Byte} {q : Nat} (h : settingsProfileOk b q = true) (now : Nat) :
    (settingsProfile b now q).InRange := by
  simp only [settingsProfileOk, Bool.and_eq_true, Bool.or_eq_true, Bool.not_eq_true', decide_eq_true_eq] at h
  obtain ⟨⟨⟨⟨⟨⟨hceiling, hwindow⟩, hbudget⟩, hused⟩, hfailures⟩, -⟩, hpin⟩ := h
  obtain ⟨pin, hpin⟩ := Option.isSome_iff_exists.mp hpin
  refine ⟨hceiling, ?_, ?_, hused, Nat.zero_le _, ?_, ?_⟩ <;> simp only [settingsProfile]
  · split
    · next hf =>
      rintro x y ⟨⟩
      obtain ⟨⟨hx, hy⟩, hne⟩ := hwindow.resolve_left (by simp [hf])
      exact ⟨hx, hy, hne⟩
    · exact windowInRange_none
  · split
    · next hf =>
      rintro x ⟨⟩
      exact hbudget.resolve_left (by simp [hf])
    · rintro x ⟨⟩
  · rw [hpin]
    exact pinOf_inRange hpin
  · split
    · exact Nat.zero_le 5
    · exact hfailures

/-- R197: the factory profiles of an image, as it is corrected. -/
theorem imageFactoryProfile_inRange (b : List Byte) (q : Nat) : (imageFactoryProfile b q).InRange := by
  refine ⟨?_, ?_, ?_⟩ <;> simp only [imageFactoryProfile]
  · split
    · assumption
    · exact Nat.zero_le 15
  · split
    · next hw =>
      obtain ⟨-, hstart, hstop, hne⟩ := hw
      rintro x y ⟨⟩
      exact ⟨hstart, hstop, hne⟩
    · exact windowInRange_none
  · split
    · rintro x ⟨⟩
      split
      · assumption
      · exact Nat.zero_le 1440
    · rintro x ⟨⟩

/-! ### PIN comparisons and profile records (R155 to R166) -/

theorem State.pinMatched_kept (b : Bool) (s : State) (q : Fin 6) : Kept b s (s.pinMatched q) := by
  unfold State.pinMatched
  split
  · exact .refl b s
  · exact (s.modProfile_kept b q fun hq => hq.withFailures (Nat.zero_le 5) _).trans
      (.of_ledger (State.markChange_ledger _))

theorem State.pinFailed_kept (b : Bool) (s : State) (q : Fin 6) (kind : Nat) (o : Option Nat) :
    Kept b s (s.pinFailed q kind o).1 := by
  have hcounted : Kept b s
      (s.modProfile q (fun p => { p with failures := min 5 ((s.profiles[q]).failures + 1) })).markChange :=
    (s.modProfile_kept b q fun hq => hq.withFailures (Nat.min_le_left 5 _) _).trans
      (.of_ledger (State.markChange_ledger _))
  unfold State.pinFailed
  dsimp only
  split
  · refine hcounted.trans ?_
    refine (State.modProfile_kept b _ q fun hq => ?_).trans (.of_ledger (State.notify_ledger _ _))
    exact hq.withFailures hq.counted _
  · exact hcounted

theorem State.comparePin_kept (b : Bool) (s : State) (q : Fin 6) (pin : List Byte) (kind : Nat) (o : Option Nat) :
    Kept b s (s.comparePin q pin kind o).1 := by
  unfold State.comparePin
  split
  · exact .refl b s
  · split
    · exact s.pinMatched_kept b q
    · exact s.pinFailed_kept b q kind o

/-- What follows a PIN comparison keeps what both keep. -/
theorem afterPin_kept {b : Bool} {s : State} {r : State × Option Outcome} {go : State → State × Outcome}
    (hr : Kept b s r.1) (hgo : ∀ t : State, Kept b t (go t).1) : Kept b s (afterPin r go).1 := by
  unfold afterPin
  split
  · exact hr
  · exact hr.trans (hgo r.1)

theorem State.pinUnlockEvent_kept (b : Bool) (s : State) (op : PinOp) : Kept b s (s.pinUnlockEvent op).1 := by
  unfold State.pinUnlockEvent
  split
  · exact .refl b s
  · split
    · exact .refl b s
    · split
      · exact .refl b s
      · exact afterPin_kept (s.comparePin_kept b _ _ _ _) fun t => .of_ledger (State.evaluate_ledger _ _ _ _)

theorem State.pinUnlockPeriod_kept (b : Bool) (s : State) (op : PinOp) : Kept b s (s.pinUnlockPeriod op).1 := by
  unfold State.pinUnlockPeriod
  split
  · exact .refl b s
  · split
    · exact .refl b s
    · exact afterPin_kept (s.comparePin_kept b _ _ _ _) fun t => .of_ledger (State.evaluateTuned_ledger _ _ _)

theorem State.pinChange_kept (b : Bool) (s : State) (op : PinOp) : Kept b s (s.pinChange op).1 := by
  unfold State.pinChange
  split
  · exact .refl b s
  · split
    · exact .refl b s
    · split
      · exact .refl b s
      · next pin hpin =>
        exact afterPin_kept (s.comparePin_kept b _ _ _ _) fun t =>
          (t.modProfile_kept b _ fun hq => hq.withPin (pinOf_inRange hpin)).trans
            (.of_ledger (State.markChange_ledger _))

theorem State.profileRecord_kept (b : Bool) (s : State) (op : ProfileOp) : Kept b s (s.profileRecord op).1 := by
  unfold State.profileRecord
  split
  · exact .refl b s
  · split
    · exact .refl b s
    · next hok =>
      have hfields : op.fieldsOk = true := by
        cases hf : op.fieldsOk with
        | true => rfl
        | false => exact absurd (by simp [hf]) hok
      exact afterPin_kept (s.comparePin_kept b _ _ _ _) fun t =>
        (t.modProfile_kept b _ fun hq => hq.apply hfields _).trans
          (.of_ledger ((State.evaluateAll_ledger _ _ _ _).trans (State.markChange_ledger _)))

theorem State.endLockout_kept (b : Bool) (s : State) (q : Fin 6) : Kept b s (s.endLockout q) :=
  (s.modProfile_kept b q fun hq => hq.withFailures (Nat.zero_le 5) none).trans (.of_ledger (State.markChange_ledger _))

theorem State.markMetering_ledger (s : State) : s.markMetering.ledger = s.ledger := rfl

theorem State.withTicks_ledger (s : State) (k : Ticks) : ({ s with ticks := k } : State).ledger = s.ledger := rfl

theorem State.rise_kept (b : Bool) (s : State) (q : Fin 6) (viewers : List (Fin 6)) : Kept b s (s.rise q viewers) := by
  have hwarn (t : State) : Kept b t (t.warn q viewers) := by
    unfold State.warn
    split
    · exact (Kept.of_ledger (State.notify_ledger t _)).trans
        (State.modProfile_kept b _ q fun hq => hq.withDay hq.used hq.seconds true)
    · exact .refl b t
  have hreached (t : State) : (t.budgetReached q).ledger = t.ledger := by
    unfold State.budgetReached
    split <;> simp
  unfold State.rise
  split
  · next hlt =>
    have hrisen : Kept b s (s.modProfile q (fun p => { p with minutesUsed := p.minutesUsed + 1 })) :=
      s.modProfile_kept b q fun hq => hq.withDay hlt hq.seconds _
    exact ((hrisen.trans (.of_ledger (State.markMetering_ledger _))).trans (hwarn _)).trans (.of_ledger (hreached _))
  · exact .refl b s

theorem State.secondTick_kept (b : Bool) (s : State) : Kept b s s.secondTick := by
  have hmeter (t : State) (q : Fin 6) : Kept b t (t.meter q) := by
    unfold State.meter
    dsimp only
    split
    · exact .refl b t
    · split
      · next hlt => exact t.modProfile_kept b q fun hq => hq.withDay hq.used (by omega) _
      · exact (t.modProfile_kept b q fun hq => hq.withDay hq.used (Nat.zero_le 59) _).trans
          (.of_ledger (State.withTicks_ledger _ _))
  have hclock (t : State) : t.clockSecond.ledger = t.ledger := by
    unfold State.clockSecond
    dsimp only
    split <;> rfl
  have haccrue (t : State) : t.accrue.ledger = t.ledger := rfl
  unfold State.secondTick
  refine (Kept.of_ledger ?_).trans (Kept.foldl hmeter _ _)
  exact (haccrue _).trans ((hclock _).trans (s.withTicks_ledger _))

/-! ### The minute tick (R40, R41, R167, R168) -/

/-- R40: the work of blocks that leaves what a profile has of the budget day as it was, or begins a new day. -/
theorem TickWork.kept (b : Bool) {s t : State} (h : TickWork s t)
    (hday : ∀ q : Fin 6, (t.profiles[q]).day = (s.profiles[q]).day ∨ (t.profiles[q]).day = (0, 0, false)) :
    Kept b s t := by
  have hrange (q : Fin 6) (hq : (s.profiles[q]).InRange) : (t.profiles[q]).InRange := by
    have hbounds : (t.profiles[q]).minutesUsed ≤ 1440 ∧ (t.profiles[q]).accumulator ≤ 59 := by
      have hused := hq.used
      have hsum := hq.seconds
      rcases hday q with hd | hd <;> simp only [Profile.day, Prod.mk.injEq] at hd <;> omega
    have heq : t.profiles[q] = { s.profiles[q] with
        minutesUsed := (t.profiles[q]).minutesUsed
        accumulator := (t.profiles[q]).accumulator
        warned := (t.profiles[q]).warned
        result := (t.profiles[q]).result } := by
      have htimeless := h.profiles q
      generalize t.profiles[q] = y at htimeless ⊢
      generalize s.profiles[q] = x at htimeless ⊢
      obtain ⟨_⟩ := x
      obtain ⟨_⟩ := y
      simp_all [Profile.timeless]
    obtain ⟨hceiling, hwindow, hbudget, -, -, hpin, hfailures⟩ := hq
    rw [heq]
    exact ⟨hceiling, hwindow, hbudget, hbounds.1, hbounds.2, hpin, hfailures⟩
  have hothers : t.ledger = ({ s with profiles := t.profiles } : State).ledger :=
    State.ledger_eq_iff.mpr ⟨h.frame.only .config (by decide), h.frame.only .rights (by decide),
      h.frame.only .journal (by decide), rfl, h.frame.only .dram (by decide), h.frame.only .flash (by decide)⟩
  exact (Kept.of_profiles hrange).trans (.of_ledger hothers)

theorem dateWorked.day {s t : State} (h : dateWorked s t) (q : Fin 6) :
    (t.profiles[q]).day = (s.profiles[q]).day ∨ (t.profiles[q]).day = (0, 0, false) := by
  obtain ⟨day, -, -, hcount⟩ := h
  cases day with
  | true => exact .inr (hcount q)
  | false => exact .inl (hcount q)

theorem State.tickBlock_kept (b : Bool) (before : List CurrentOf) (s : State) (x : TickBlock) :
    Kept b s (s.tickBlock before x) := by
  have hwork := s.tickBlock_work before x
  by_cases hx : x = .guide
  · subst hx
    exact hwork.tick.kept b (s.guideTick_date before).day
  · exact hwork.tick.kept b fun q => .inl (hwork.day hx q)

theorem State.minuteWork_kept (b : Bool) (s : State) (before : List CurrentOf) (order : List TickBlock) :
    Kept b s (s.minuteWork before order) :=
  (Kept.foldl (State.tickBlock_kept b before) order s).trans (.of_ledger (State.deferredNotices_work _).ledger)

theorem State.timeRecord_kept (b : Bool) (s : State) (order : List TickBlock) (clock : Nat) (offset : Int) :
    Kept b s (s.timeRecord order clock offset).1 := by
  have hset : Kept b s (s.timeSet clock offset) := .of_ledger ((s.timeSet_frame clock offset).ledger (by decide))
  unfold State.timeRecord
  split
  · exact .of_ledger rfl
  · show Kept b s (s.timeEffect order clock offset)
    unfold State.timeEffect
    split
    · exact hset.trans (State.minuteWork_kept b _ _ _)
    · exact hset

end Sys2Proof.Machine
end

section
/-! PROOFS. What moves the balance, and the flash port: appends, BUY and RIGHTS records, completions of flash
operations, the image, the two mounts and power-off, under the same invariants. -/

namespace Sys2Proof.Machine

/-! ### The append (R139, R140) -/

/-- A change of rights, purse, profiles and what no invariant of the ledger reads. -/
theorem Kept.of_frame {b : Bool} {as : List Area} {s t : State} (h : Frame as s t)
    (ha : ∀ a ∈ [Area.config, Area.dram, Area.flash], a ∉ as) (hpurse : PurseOk s → PurseOk t)
    (hprofiles : ∀ q : Fin 6, (s.profiles[q]).InRange → (t.profiles[q]).InRange)
    (hbalance : b = true → t.purse.balance = s.purse.balance) : Kept b s t := by
  have hcfg : t.cfg = s.cfg := h.only .config (ha _ (by decide))
  have hdram : t.dram = s.dram := h.only .dram (ha _ (by decide))
  have hflash : t.flash = s.flash := h.only .flash (ha _ (by decide))
  refine ⟨?_, hpurse, ?_, hbalance⟩
  · unfold MemoriesOk
    rw [hdram, hflash]
    exact id
  · unfold ProfilesOk
    rw [hcfg]
    exact fun ⟨hp, hrest⟩ => ⟨fun q => hprofiles q (hp q), hrest⟩

theorem Purse.queue_lt_of_append {p : Purse} {k : Nat} (h : p.appendFails k = none) : p.queue.length + k < 8 := by
  unfold Purse.appendFails at h
  dsimp only at h
  split at h
  · cases h
  · omega

theorem State.append_kept {s : State} {e : Entry} (hroom : s.purse.appendFails 0 = none)
    (hbounds : PurseOk s → -10000 ≤ s.purse.balance + e.amount ∧ s.purse.balance + e.amount ≤ 1000000) :
    Kept false s (s.append e) := by
  have hframe := s.append_frame e
  have hpurse := s.append_purse e
  have hbalance : (s.append e).purse.balance = s.purse.balance + e.amount :=
    (congrArg Purse.balance hpurse :).trans (Purse.join_balance _ _)
  have hqueue : (s.append e).purse.queue = s.purse.queue ++ [s.journalRecord e] :=
    (congrArg Purse.queue hpurse :).trans (Purse.join_queue _ _)
  have hprofiles : (s.append e).profiles = s.profiles := hframe.only .profiles (by decide)
  have hrights : (s.append e).rights = s.rights := hframe.only .rights (by decide)
  have hcfg : (s.append e).cfg = s.cfg := hframe.only .config (by decide)
  refine .of_frame hframe (by decide) (fun hok => ?_) (fun q hq => by rwa [hprofiles]) (by simp)
  obtain ⟨hlow, hhigh⟩ := hbounds hok
  obtain ⟨-, -, hlimit, hfactory, -⟩ := hok
  have hlength := Purse.queue_lt_of_append hroom
  refine ⟨by rwa [hbalance], by rwa [hbalance], by rwa [hrights], by rwa [hcfg], ?_⟩
  rw [hqueue, List.length_append]
  exact hlength

/-! ### BUY records (R129 to R132) -/

theorem State.rightsFollow_ledger (s : State) (region : Bool) : (s.rightsFollow region).ledger = s.ledger :=
  (s.rightsFollow_work region).ledger.trans (State.recompute_ledger _ _)

/-- R129: a debit that the overdraft limit allows keeps the balance in range. -/
theorem State.debitAllowed_bounds {s : State} {p : Nat} (h : s.debitAllowed p = true) (hok : PurseOk s) :
    -10000 ≤ s.purse.balance + -(p : Int) ∧ s.purse.balance + -(p : Int) ≤ 1000000 := by
  obtain ⟨-, hhigh, hlimit, -⟩ := hok
  have hallowed : -(s.rights.overdraft : Int) ≤ s.purse.balance - p := of_decide_eq_true h
  omega

theorem State.purchase_kept {s : State} {price : Nat} (hroom : s.purse.appendFails 0 = none)
    (hcredit : s.debitAllowed price = true) (o : Fin 6) (e : EventCriteria) :
    Kept false s (s.purchase o e price).1 := by
  have hledger : ((s.purchased o e price).rightsFollow false).ledger = (s.append (purchaseEntry o e price)).ledger := by
    rw [State.rightsFollow_ledger, State.purchased, State.notify_ledger]
    exact (State.owning_frame _ _).ledger (by decide)
  have hdebited : Kept false s (s.append (purchaseEntry o e price)) :=
    State.append_kept hroom (State.debitAllowed_bounds hcredit)
  have hfollowed : Kept false (s.append (purchaseEntry o e price)) ((s.purchased o e price).rightsFollow false) :=
    .of_ledger hledger
  rw [State.purchase_eq]
  dsimp only
  exact hdebited.trans hfollowed

theorem State.buyPriced_kept (s : State) (o : Fin 6) (e : EventCriteria) (price confirm : Nat) :
    Kept false s (s.buyPriced o e price confirm).1 := by
  unfold State.buyPriced
  split
  · exact .refl _ s
  · split
    · exact .refl _ s
    · next hcredit =>
      split
      · exact .refl _ s
      · split
        · exact .refl _ s
        · next hroom => exact State.purchase_kept hroom (by simpa using hcredit) o e

theorem State.purchasePin_kept (b : Bool) (s : State) (o : Fin 6) (op : BuyOp) : Kept b s (s.purchasePin o op).1 := by
  unfold State.purchasePin
  split
  · exact s.comparePin_kept b _ _ _ _
  · exact .refl b s

theorem State.buyOffered_kept (s : State) (o : Fin 6) (op : BuyOp) : Kept false s (s.buyOffered o op).1 := by
  unfold State.buyOffered
  split
  · exact .refl _ s
  · split
    · exact .refl _ s
    · split
      · exact .refl _ s
      · split
        · exact .refl _ s
        · exact afterPin_kept (s.purchasePin_kept _ o op) fun t => t.buyPriced_kept o _ _ _

theorem State.buyRecord_kept (s : State) (op : BuyOp) : Kept false s (s.buyRecord op).1 := by
  unfold State.buyRecord
  split
  · exact .refl _ s
  · split
    · exact .refl _ s
    · exact s.buyOffered_kept _ op

/-! ### RIGHTS records (R105 to R113) -/

/-- R106: the appends of a record that passes find room in the program queue. -/
theorem Purse.checkAppends_room {p : Purse} {its : List RightsItem} {k made : Nat}
    (h : p.checkAppends k made its = none) (hroom : p.queue.length + made ≤ 8) :
    p.queue.length + made + (its.filter RightsItem.appends).length ≤ 8 := by
  induction its generalizing k made with
  | nil => exact hroom
  | cons it its ih =>
    unfold Purse.checkAppends at h
    split at h
    · next ha =>
      split at h
      · cases h
      · next hfits =>
        have hlt := Purse.queue_lt_of_append hfits
        have hrest := ih h (by omega)
        rw [List.filter_cons_of_pos ha, List.length_cons]
        omega
    · next ha =>
      rw [List.filter_cons_of_neg ha]
      exact ih h hroom

theorem State.rightsCheck_appends {s : State} {pass : Bool} {op : RightsOp} (h : s.rightsCheck pass op = none) :
    s.purse.checkAppends 1 0 op.items = none := by
  rw [State.rightsCheck, State.rightsHeader_of_check h] at h
  exact (Option.or_eq_none_iff.mp h).2

/-- R110: the OVERDRAFT items of a record that passes keep the limit's range. -/
theorem checkItems_overdraft {t : Trial} {k : Nat} {its : List RightsItem} (h : checkItems t k its = none) {n : Nat}
    (hn : n ≤ 10000) : its.foldl RightsItem.onOverdraft n ≤ 10000 := by
  induction its generalizing t k n with
  | nil => exact hn
  | cons it its ih =>
    obtain ⟨t1, hit, hrest⟩ := checkItems_cons.mp h
    refine ih hrest ?_
    cases it with
    | overdraft l => exact of_decide_eq_true (Trial.keep_eq_ok.mp hit).1
    | _ => exact hn

/-- R109, R111: no item takes from the balance. -/
theorem entered_sum_nonneg (its : List RightsItem) :
    0 ≤ ((its.filterMap RightsItem.entered).map (fun x => x.2.1)).sum := by
  refine List.sum_nonneg fun a ha => ?_
  obtain ⟨x, hx, rfl⟩ := List.mem_map.mp ha
  obtain ⟨it, -, hit⟩ := List.mem_filterMap.mp hx
  cases it with
  | topup a =>
    cases hit
    exact Int.natCast_nonneg a
  | collect u =>
    cases hit
    exact le_rfl
  | _ => cases hit

theorem foldl_onProfile_inRange (q : Fin 6) (its : List RightsItem) {p : Profile} (h : p.InRange) :
    (its.foldl (RightsItem.onProfile q) p).InRange := by
  induction its generalizing p with
  | nil => exact h
  | cons it its ih => exact ih (h.onProfile q it)

/-- R105, R106: a record that passes keeps balance, overdraft limit and program queue in range. -/
theorem RightsStored.purseOk {op : RightsOp} {rs : List JournalRecord} {s t : State} {pass : Bool}
    (h : RightsStored op rs s t) (hcheck : s.rightsCheck pass op = none) (hok : PurseOk s) : PurseOk t := by
  obtain ⟨hlow, hhigh, hlimit, hfactory, hqueue⟩ := hok
  have hitems := State.rightsCheck_items hcheck
  have hsum : (rs.map (·.amount)).sum = ((op.items.filterMap RightsItem.entered).map (fun x => x.2.1)).sum := by
    rw [← h.purse.entered, List.map_map]
    rfl
  have hlength : rs.length = (op.items.filter RightsItem.appends).length := by
    rw [← length_filterMap_entered, ← h.purse.entered, List.length_map]
  have hceiling := checkItems_balance hitems
  have hcredit := entered_sum_nonneg op.items
  have hroom := Purse.checkAppends_room (State.rightsCheck_appends hcheck) (made := 0) hqueue
  have hcfg : t.cfg = s.cfg := h.frame.only .config (by decide)
  have hbalance := h.purse.balance
  refine ⟨by omega, by dsimp only at hceiling; omega, ?_, by rwa [hcfg], ?_⟩
  · rw [h.rights, Rights.store_overdraft, foldl_onRights_overdraft]
    exact checkItems_overdraft hitems hlimit
  · rw [h.purse.queue, List.length_append, hlength]
    exact hroom

theorem State.rightsRecord_kept (s : State) (pass : Bool) (op : RightsOp) :
    Kept (!pass) s (s.rightsRecord pass op).1 := by
  cases hcheck : s.rightsCheck pass op with
  | some out =>
    simp only [State.rightsRecord, hcheck]
    exact .refl _ s
  | none =>
    have hpass : pass = true := by
      have hheader := State.rightsHeader_of_check hcheck
      unfold State.rightsHeader at hheader
      cases pass with
      | true => rfl
      | false => cases hheader
    obtain ⟨rs, hstored⟩ := s.rightsStored_stored op
    rw [State.rightsRecord_passed hcheck]
    refine Kept.trans ?_ (.of_ledger (State.rightsFollow_ledger (s.rightsStored op) _))
    refine .of_frame hstored.frame (by decide) (hstored.purseOk hcheck) (fun q hq => ?_) (by simp [hpass])
    rw [hstored.profiles]
    exact foldl_onProfile_inRange q _ hq

/-! ### Completions of flash operations (R142, R145, R149) -/

/-- A change of the purse that keeps the balance and lets the program queue grow no longer. -/
theorem State.modPurse_kept (b : Bool) (s : State) {f : Purse → Purse}
    (hbalance : (f s.purse).balance = s.purse.balance) (hqueue : (f s.purse).queue.length ≤ s.purse.queue.length) :
    Kept b s (s.modPurse f) :=
  ⟨id, fun ⟨hlow, hhigh, hlimit, hfactory, hlength⟩ => ⟨by rwa [← hbalance] at hlow, by rwa [← hbalance] at hhigh,
    hlimit, hfactory, hqueue.trans hlength⟩, id, fun _ => hbalance⟩

theorem State.withSettings_ledger (s : State) (x : Settings) : ({ s with settings := x } : State).ledger = s.ledger :=
  rfl

theorem State.freeFlash_ledger (s : State) : s.freeFlash.ledger = s.ledger := rfl

theorem State.programmed_kept (b : Bool) (s : State) (r : JournalRecord) : Kept b s (s.programmed r) :=
  ((Kept.of_ledger s.freeFlash_ledger).trans (State.flashWrite_kept b _ _ _)).trans
    (State.modPurse_kept b _ rfl (by simp))

theorem State.erasedSector_kept (b : Bool) (s : State) (k : Fin 8) : Kept b s (s.erasedSector k) :=
  (((Kept.of_ledger s.freeFlash_ledger).trans (State.flashErase_kept b _ _)).trans
    (State.modPurse_kept b _ rfl le_rfl)).trans (.of_ledger (State.retarget_ledger _))

theorem State.pageWritten_kept (b : Bool) (s : State) (p : Fin 4) : Kept b s (s.pageWritten p) := by
  unfold State.pageWritten
  split
  · exact .of_ledger s.freeFlash_ledger
  · next w _ =>
    have hwritten : Kept b s (s.freeFlash.flashWrite (settingsPage p) (w.page p)) :=
      (Kept.of_ledger s.freeFlash_ledger).trans (State.flashWrite_kept b _ _ _)
    dsimp only
    split
    · exact hwritten.trans (.of_ledger (State.withSettings_ledger _ _))
    · exact hwritten

theorem State.rewriteErased_kept (b : Bool) (s : State) : Kept b s (s.freeFlash.flashErase 1) :=
  (Kept.of_ledger s.freeFlash_ledger).trans (State.flashErase_kept b _ _)

/-! ### The configuration image (R17, R197) -/

/-- R197: the configuration of an image, as it is corrected: overdraft limit, factory profiles and default PIN. -/
theorem imageOf_inRange (b : List Byte) : (imageOf b).factoryOverdraft ≤ 10000 ∧
    (∀ q : Fin 6, ((imageOf b).factoryProfiles[q]).InRange) ∧ pinInRange (imageOf b).defaultPin := by
  refine ⟨Nat.min_le_left _ _, fun q => ?_, pinOf_getD_inRange _ pinInRange_zeros⟩
  simp only [imageOf, Fin.getElem_fin, Vector.getElem_ofFn]
  exact imageFactoryProfile_inRange b q

theorem Image.profiles_inRange {i : Image} (h : ∀ q : Fin 6, (i.factoryProfiles[q]).InRange)
    (hp : pinInRange i.defaultPin) (q : Fin 6) : (i.profiles[q]).InRange := by
  have hq : i.profiles[q] = (i.factoryProfiles[q]).profile i.defaultPin := by
    simp only [Image.profiles, Fin.getElem_fin, Vector.getElem_map]
  rw [hq]
  exact (h q).profile hp

theorem State.loadImage_kept (b : Bool) (s : State) (bs : List Byte) : Kept b s (s.loadImage (imageOf bs)) := by
  obtain ⟨hfactory, hprofiles, hpin⟩ := imageOf_inRange bs
  have hloaded (t : State) (i : Image) (p : FlashPort) (hi : i.factoryOverdraft ≤ 10000)
      (hq : ∀ q : Fin 6, (i.factoryProfiles[q]).InRange) (hd : pinInRange i.defaultPin) :
      Kept b t
        { t with cfg := i, rights := i.factoryRights, profiles := i.profiles, part := .mounting, flashPort := p } :=
    ⟨id, fun ⟨hlow, hhigh, _, _, hqueue⟩ => ⟨hlow, hhigh, hi, hi, hqueue⟩,
      fun _ => ⟨Image.profiles_inRange hq hd, hq, hd⟩, fun _ => rfl⟩
  have hreleased (t : State) : (t.issueControlBlock.releaseStart).ledger = t.ledger :=
    State.foldl_ledger State.arrive_ledger _ _
  exact (hloaded s _ _ hfactory hprofiles hpin).trans (.of_ledger (hreleased _))

/-! ### The settings mount (R150, R154, R168) -/

theorem settingsGood_inRange {b : List Byte} (h : settingsGood b = true) :
    (settingsRights b).overdraft ≤ 10000 ∧ ∀ q : Fin 6, settingsProfileOk b q.val = true := by
  simp only [settingsGood, Bool.and_eq_true, decide_eq_true_eq, List.all_eq_true, List.mem_range] at h
  obtain ⟨⟨-, hoverdraft⟩, hprofiles⟩ := h
  exact ⟨hoverdraft, fun q => hprofiles q.val q.isLt⟩

/-- A mount of rights and profiles in range. -/
theorem Kept.of_mount {b : Bool} {s : State} {r : Rights} {ps : Vector Profile 6} {g : Guide}
    (hr : PurseOk s → r.overdraft ≤ 10000) (hp : ProfilesOk s → ∀ q : Fin 6, (ps[q]).InRange) :
    Kept b s { s with rights := r, profiles := ps, guide := g } :=
  ⟨id, fun hok => have ⟨hlow, hhigh, _, hrest⟩ := hok; ⟨hlow, hhigh, hr hok, hrest⟩, fun hok => ⟨hp hok, hok.2⟩,
    fun _ => rfl⟩

theorem State.settingsMount_kept (b : Bool) (s : State) : Kept b s s.settingsMount := by
  unfold State.settingsMount
  split
  · exact .of_mount (fun ⟨_, _, _, hlimit, _⟩ => hlimit) fun ⟨_, hfactory, hpin⟩ =>
      Image.profiles_inRange hfactory hpin
  · split
    · next hgood =>
      obtain ⟨hoverdraft, hprofiles⟩ := settingsGood_inRange hgood
      refine .of_mount (fun _ => hoverdraft) fun _ q => ?_
      rw [Fin.getElem_fin, Vector.getElem_ofFn]
      exact settingsProfile_inRange (hprofiles q) _
    · refine Kept.trans (.of_mount (fun _ => Nat.zero_le _) fun ⟨_, _, hpin⟩ q => ?_)
        (.of_ledger ((State.markChange_ledger _).trans (State.notify_ledger _ _)))
      rw [Fin.getElem_fin, Vector.getElem_replicate]
      exact lockedProfile_inRange hpin

theorem State.judgeWindows_kept (b : Bool) (s : State) : Kept b s s.judgeWindows := by
  refine Kept.of_profiles fun q hq => ?_
  rw [Fin.getElem_fin, Vector.getElem_map]
  obtain ⟨hceiling, hwindow, hbudget, hused, hsum, hpin, hfailures⟩ := hq
  exact ⟨hceiling, hwindow, hbudget, hused, hsum, hpin, hfailures⟩

/-! ### The journal mount (R151, R152) -/

theorem journalRecordOf_balance {b : List Byte} {place : Nat} {r : JournalRecord}
    (h : journalRecordOf b place = some r) : -10000 ≤ r.balanceAfter ∧ r.balanceAfter ≤ 1000000 := by
  unfold journalRecordOf at h
  split at h
  · cases h
  · split at h
    · next hgood =>
      cases h
      exact hgood.2
    · cases h

theorem mem_of_mem_insertRecord {r x : JournalRecord} {l : List JournalRecord} (h : x ∈ insertRecord r l) :
    x = r ∨ x ∈ l := by
  induction l with
  | nil => exact .inl (List.mem_singleton.mp h)
  | cons y l ih =>
    unfold insertRecord at h
    split at h
    · exact .inr h
    · split at h
      · exact List.mem_cons.mp h
      · rcases List.mem_cons.mp h with rfl | h
        · exact .inr List.mem_cons_self
        · exact (ih h).imp_right (List.mem_cons_of_mem _)

/-- R151: the journal list at the mount. -/
def State.mountedList (s : State) : List JournalRecord := s.goodRecords.foldl (fun l r => insertRecord r l) []

theorem State.mem_goodRecords {s : State} {r : JournalRecord} : r ∈ s.goodRecords ↔
    ∃ place : Nat, place < 1024 ∧ journalRecordOf (s.placeBytes place) place = some r := by
  simp only [State.goodRecords, List.mem_filterMap, List.mem_range]

theorem State.goodRecords_of_mem_mountedList {s : State} {r : JournalRecord} (h : r ∈ s.mountedList) :
    r ∈ s.goodRecords := by
  have hfold (rs l : List JournalRecord) (hm : r ∈ rs.foldl (fun l r => insertRecord r l) l) : r ∈ rs ∨ r ∈ l := by
    induction rs generalizing l with
    | nil => exact .inr hm
    | cons x rs ih =>
      rcases ih _ hm with hrs | hl
      · exact .inl (List.mem_cons_of_mem _ hrs)
      · exact (mem_of_mem_insertRecord hl).imp_left fun he => List.mem_cons.mpr (.inl he)
  exact (hfold _ _ h).resolve_right List.not_mem_nil

/-- R151: what no record raises stays as the list raises floors and watermark. -/
theorem foldl_raise_same {α : Type} {field : Purse → α}
    (h : ∀ (p : Purse) (r : JournalRecord), field (p.raise r) = field p) (l : List JournalRecord) (p : Purse) :
    field (l.foldl Purse.raise p) = field p := by
  induction l generalizing p with
  | nil => rfl
  | cons r l ih => exact (ih _).trans (h p r)

theorem State.mountedPurse_balance (s : State) : s.mountedPurse.balance = (match s.mountedList.getLast? with
    | none => 0
    | some r => r.balanceAfter) := by
  unfold State.mountedPurse State.mountedList
  dsimp only
  refine (foldl_raise_same (field := Purse.balance) Purse.raise_balance _ _).trans ?_
  generalize s.goodRecords.foldl (fun l r => insertRecord r l) [] = l
  cases l.getLast? <;> rfl

theorem State.mountedPurse_queue (s : State) : s.mountedPurse.queue = [] := by
  unfold State.mountedPurse
  exact foldl_raise_same (field := Purse.queue) Purse.raise_queue _ _

theorem State.mountedPurse_bounds (s : State) : -10000 ≤ s.mountedPurse.balance ∧ s.mountedPurse.balance ≤ 1000000 := by
  rw [s.mountedPurse_balance]
  cases hlast : s.mountedList.getLast? with
  | none => exact ⟨by decide, by decide⟩
  | some r =>
    have hgood := State.goodRecords_of_mem_mountedList (List.mem_of_getLast? hlast)
    obtain ⟨place, -, hr⟩ := State.mem_goodRecords.mp hgood
    exact journalRecordOf_balance hr

/-- R151: a purse rebuilt within its ranges, with nothing to program. -/
theorem State.withPurse_kept (s : State) {p : Purse} (hlow : -10000 ≤ p.balance) (hhigh : p.balance ≤ 1000000)
    (hqueue : p.queue = []) : Kept false s { s with purse := p } :=
  ⟨id, fun ⟨_, _, hlimit, hfactory, _⟩ => ⟨hlow, hhigh, hlimit, hfactory, by simp [hqueue]⟩, id, nofun⟩

theorem State.budgetDateCheck_kept (b : Bool) {s : State} (h : s.part.mounted = true) :
    Kept b s (s.budgetDateCheck true) :=
  s.budgetDateCheck_block.tick.kept b (State.budgetDateCheck_worked h).day

theorem State.mountComplete_kept (b : Bool) (s : State) : Kept b s s.mountComplete := by
  have hstarted (t : State) : t.startStatistics.part = t.part := by
    unfold State.startStatistics
    split <;> rfl
  have hready : Kept b s (({ s with part := .active } : State).startStatistics.notify
      (({ s with part := .active } : State).startStatistics.readyNotice false)) :=
    .of_ledger ((State.notify_ledger _ _).trans ((State.startStatistics_ledger _).trans (s.withPart_ledger _)))
  refine hready.trans (State.budgetDateCheck_kept b ?_)
  rw [State.notify_part, hstarted]
  rfl

theorem State.withAccess_ledger (s : State) (a : AccessUnit) : ({ s with access := a } : State).ledger = s.ledger := rfl

theorem State.journalMount_kept (s : State) : Kept false s s.journalMount := by
  obtain ⟨hlow, hhigh⟩ := s.mountedPurse_bounds
  have hrebuilt := (Kept.of_ledger s.freeFlash_ledger).trans
    (s.freeFlash.withPurse_kept hlow hhigh s.mountedPurse_queue)
  unfold State.journalMount
  exact (hrebuilt.trans (.of_ledger ((State.withAccess_ledger _ _).trans (State.retarget_ledger _)))).trans
    (State.mountComplete_kept false _)

/-! ### Power -/

/-- Every field but the memories at its power-on value. -/
theorem State.powerOff_kept (s : State) : Kept false s s.powerOff :=
  ⟨id, fun _ => reset_purse, fun _ => reset_profiles, nofun⟩

theorem State.powerOn_kept (s : State) : Kept false s s.powerOn :=
  s.powerOff_kept.trans (.of_ledger rfl)

theorem State.losePower_kept {s t : State} {remains : List Byte} (h : s.losePower remains = some t) :
    Kept false s t ∧ t.powerGood = false := by
  unfold State.losePower at h
  split at h
  · cases h
    exact ⟨s.powerOff_kept, rfl⟩
  · split at h
    · cases h
      exact ⟨s.powerOff_kept, rfl⟩
    · split at h
      · cases h
        exact ⟨(s.flashWrite_kept false _ _).trans (State.powerOff_kept _), rfl⟩
      · cases h

end Sys2Proof.Machine
end

section
/-! PROOFS. Every command (R129, R136, R137, R139, R153): each keeps memories, purse and profiles sound, moves the
balance only where it may, and leaves nothing that may start at a free flash port. -/

namespace Sys2Proof.Machine

/-! ### How a command's outcome keeps the ledger -/

/-- If a command answers a next state, that state is as sound as the one before, with the same balance where `b` is set,
and nothing that may start waits at a free flash port in it unless something did before. -/
def KeepsLedger (b : Bool) (s : State) (r : Result) : Prop :=
  ∀ t : State, r = .next t → Kept b s t ∧ (FlashServed s → FlashServed t)

section Outcomes

variable {b : Bool} {s t : State}

theorem KeepsLedger.same (b : Bool) (s : State) : KeepsLedger b s (.next s) := by
  rintro t ⟨⟩
  exact ⟨.refl b s, id⟩

theorem KeepsLedger.refused (b : Bool) (s : State) (x : Refusal) : KeepsLedger b s (.refused x) := by
  rintro t ⟨⟩

theorem KeepsLedger.fault (b : Bool) (s : State) (x : Fault) : KeepsLedger b s (.fault x) := by
  rintro t ⟨⟩

/-- R137: the flash arbiter has its choice at the end of a command. -/
theorem KeepsLedger.done (h : Kept b s t) : KeepsLedger b s (Machine.done t) := by
  rintro u ⟨⟩
  exact ⟨h.trans (.of_ledger t.settle_ledger), fun _ => t.settle_served⟩

theorem KeepsLedger.done_ledger (h : t.ledger = s.ledger) : KeepsLedger b s (Machine.done t) := .done (.of_ledger h)

/-- A command that acts when it is due and otherwise changes nothing. -/
theorem KeepsLedger.due {p : Prop} [Decidable p] {r : Result} (h : p → KeepsLedger b s r) :
    KeepsLedger b s (if p then r else .next s) := by
  split
  · next hp => exact h hp
  · exact .same b s

/-- R27 to R32: a record command of a block whose effect keeps the ledger sound. -/
theorem recordStep_keepsLedger {effect : Effect} (h : ∀ (s : State) (f : Fetched), Kept b s (effect s f).1) (s : State)
    (k : Kind) (mine : Record → Bool) : KeepsLedger b s (recordStep s k mine effect) := by
  have hcarried (t : State) (f : Fetched) : Kept b t (t.carryOut f k effect).1 := by
    unfold State.carryOut
    split
    · exact .of_ledger (t.countBadLength_ledger k f.attached)
    · split
      · exact .refl b t
      · exact h t f
  unfold recordStep State.processRecord
  cases s.fetched with
  | none => exact .same b s
  | some f =>
    dsimp only
    split
    · next hu =>
      split at hu <;> cases hu
      exact .same b s
    · next hu =>
      split at hu <;> cases hu
      exact .done (((Kept.of_ledger (s.fetchDone_ledger f)).trans (hcarried _ f)).trans
        (.of_ledger (State.finishRecord_ledger _ f _ _)))

/-- A record command of a block whose effect leaves the ledger alone. -/
theorem recordStep_keepsLedger_same {effect : Effect}
    (h : ∀ (s : State) (f : Fetched), (effect s f).1.ledger = s.ledger) (s : State) (k : Kind) (mine : Record → Bool) :
    KeepsLedger b s (recordStep s k mine effect) :=
  recordStep_keepsLedger (fun s f => .of_ledger (h s f)) s k mine

end Outcomes

/-! ### The commands, one by one -/

section Commands

variable (b : Bool) (s : State)

theorem execPowerGood_keepsLedger : KeepsLedger false s (execPowerGood s) := by
  unfold execPowerGood
  split
  · exact .same _ s
  · exact .done s.powerOn_kept

theorem execPowerLoss_keepsLedger (remains : List Byte) : KeepsLedger false s (execPowerLoss remains s) := by
  unfold execPowerLoss
  split
  · exact .same _ s
  · split
    · exact .refused _ s _
    · next t ht =>
      rintro u ⟨⟩
      obtain ⟨hkept, hoff⟩ := State.losePower_kept ht
      refine ⟨hkept, fun _ hfree => ?_⟩
      simp [State.flashFree, hoff] at hfree

theorem execLinkReset_keepsLedger (c : Bool) : KeepsLedger b s (execLinkReset c s) := by
  unfold execLinkReset
  split
  · exact .same b s
  · split
    · exact .same b s
    · exact .done_ledger rfl
    all_goals next hp => exact .done_ledger (State.linkReset_ledger (by rw [hp]; rfl) c)

theorem execConfigImageReadComplete_keepsLedger : KeepsLedger b s (execConfigImageReadComplete s) := by
  unfold execConfigImageReadComplete
  split
  · split
    · exact .done (s.loadImage_kept b _)
    · exact .done_ledger s.enterFault_ledger
  all_goals exact .same b s

theorem execUpstreamRequest_keepsLedger (r : Request) : KeepsLedger b s (execUpstreamRequest r s) := by
  unfold execUpstreamRequest
  split
  · exact .fault b s _
  · split
    · exact .refused b s _
    · exact .due fun _ => .done_ledger (s.upstream_ledger r)

theorem execPassRequestComplete_keepsLedger : KeepsLedger b s (execPassRequestComplete s) := by
  have hpass (u : UpReq) : Kept b s (s.passComplete u) := by
    unfold State.passComplete
    split
    · exact s.completeWrite_kept b u
    · exact .of_ledger ((State.answer_ledger _ _ _).trans s.freePort_ledger)
  unfold execPassRequestComplete
  split
  · exact .same b s
  · exact .due fun _ => .done (hpass _)

theorem execCellArrival_keepsLedger : KeepsLedger b s (execCellArrival s) := by
  have harrival (t : State) (k : Fin 4) (good : Bool) : (t.arrival k good).ledger = t.ledger := by
    unfold State.arrival State.noteRing
    split <;> simp
  unfold execCellArrival
  split
  · exact .same b s
  · split
    · exact .done ((s.completeWrite_kept b _).trans (.of_ledger (harrival _ _ _)))
    all_goals exact .same b s

theorem execCellRead_keepsLedger (x : ReadStep) : KeepsLedger b s (execCellRead x s) := by
  have hcomplete (ecc : EccFinding) (atOnce : Bool) : KeepsLedger b s (s.completeRead ecc atOnce) := by
    unfold State.completeRead
    split
    · exact .same b s
    · split
      · exact .done_ledger (s.cellRead_ledger _ _ _ _)
      all_goals exact .same b s
  cases x with
  | whole ecc => exact hcomplete ecc true
  | judged ecc => exact hcomplete ecc false
  | answered k =>
    simp only [execCellRead, State.leaveRead]
    split
    · exact .same b s
    · exact .done_ledger ((State.answerRead_frame _ _ _ _ _).ledger (by decide))

theorem execOwnWriteComplete_keepsLedger : KeepsLedger b s (execOwnWriteComplete s) := by
  unfold execOwnWriteComplete
  split
  · exact .same b s
  · exact .due fun _ => .done (s.completeOwn_kept b _)

theorem execSlotTake_keepsLedger : KeepsLedger b s (execSlotTake s) := by
  unfold execSlotTake
  split
  · exact .same b s
  · split
    · exact .done ((s.completeWrite_kept b _).trans
        (.of_ledger ((State.select_ledger _).trans (State.modIntake_ledger _ _))))
    all_goals exact .same b s

theorem execRecordBadKind_keepsLedger : KeepsLedger b s (execRecordBadKind s) := by
  unfold execRecordBadKind
  split
  · exact .same b s
  · exact .due fun _ => .done_ledger ((State.finishRecord_ledger _ _ _ _).trans (s.fetchDone_ledger _))

theorem execOutcomeWriteComplete_keepsLedger : KeepsLedger b s (execOutcomeWriteComplete s) := by
  unfold execOutcomeWriteComplete
  split
  · exact .same b s
  · split
    · split
      · exact .done (s.completeOwn_kept b _)
      · exact .done ((s.completeOwn_kept b _).trans (.of_ledger (State.outcomeDone_ledger _ _)))
    all_goals exact .same b s

theorem execDiscardedFetchComplete_keepsLedger : KeepsLedger b s (execDiscardedFetchComplete s) := by
  unfold execDiscardedFetchComplete
  split
  · exact .same b s
  · split
    · exact .due fun _ => .done_ledger s.freePort_ledger
    all_goals exact .same b s

theorem execPublishingWriteComplete_keepsLedger : KeepsLedger b s (execPublishingWriteComplete s) := by
  have hpublished (t : State) (i : Nat) : (t.published i).ledger = t.ledger := rfl
  unfold execPublishingWriteComplete
  split
  · exact .same b s
  · split
    · split
      · exact .done (s.completeOwn_kept b _)
      · exact .done ((s.completeOwn_kept b _).trans (.of_ledger (hpublished _ _)))
    all_goals exact .same b s

theorem execControlBlockWriteComplete_keepsLedger : KeepsLedger b s (execControlBlockWriteComplete s) := by
  unfold execControlBlockWriteComplete
  split
  · exact .same b s
  · split
    · exact .done ((s.completeOwn_kept b _).trans (.of_ledger (State.modWriter_ledger _ _)))
    all_goals exact .same b s

theorem execConsumerIndexWrite_keepsLedger : KeepsLedger b s (execConsumerIndexWrite s) := by
  unfold execConsumerIndexWrite
  split
  · exact .same b s
  · split
    · exact .done ((s.completeWrite_kept b _).trans (.of_ledger (State.consumerWritten_ledger _ _)))
    all_goals exact .same b s

theorem execMinuteTick_keepsLedger (order : List TickBlock) : KeepsLedger b s (execMinuteTick order s) := by
  unfold execMinuteTick
  split
  · exact .refused b s _
  · split
    · exact .same b s
    · exact .done ((Kept.of_ledger (s.withTicks_ledger _)).trans (State.minuteWork_kept b _ _ order))

theorem execTime_keepsLedger (order : List TickBlock) : KeepsLedger b s (execTime order s) := by
  unfold execTime
  split
  · exact .refused b s _
  · exact recordStep_keepsLedger (fun s _ => s.timeRecord_kept b _ _ _) s _ _

theorem execPreviewExhaustion_keepsLedger (event : Nat) : KeepsLedger b s (execPreviewExhaustion event s) := by
  unfold execPreviewExhaustion
  refine .due fun _ => ?_
  dsimp only
  split
  · exact .done_ledger (s.withTicks_ledger _)
  · exact .done_ledger (((State.exhaust_frame _ _).ledger (by decide)).trans (s.withTicks_ledger _))

theorem execMinutesUsedRise_keepsLedger (q : Fin 6) : KeepsLedger b s (execMinutesUsedRise q s) := by
  unfold execMinutesUsedRise
  split
  · exact .same b s
  · exact .done ((Kept.of_ledger (s.withTicks_ledger _)).trans (State.rise_kept b _ q _))

theorem execKeyWaitExpiry_keepsLedger (o : Fin 6) : KeepsLedger b s (execKeyWaitExpiry o s) := by
  unfold execKeyWaitExpiry
  split
  · exact .same b s
  · exact .due fun _ => .done_ledger ((s.stall_frame o _).ledger (by decide))

theorem execSettingsReadComplete_keepsLedger : KeepsLedger b s (execSettingsReadComplete s) := by
  have hport (t : State) (p : FlashPort) : ({ t with flashPort := p } : State).ledger = t.ledger := rfl
  unfold execSettingsReadComplete
  split
  · exact .done (((s.settingsMount_kept b).trans (State.judgeWindows_kept b _)).trans (.of_ledger (hport _ _)))
  all_goals exact .same b s

theorem execJournalMount_keepsLedger : KeepsLedger false s (execJournalMount s) := by
  unfold execJournalMount
  split
  · exact .done s.journalMount_kept
  all_goals exact .same _ s

theorem execPageProgramComplete_keepsLedger : KeepsLedger b s (execPageProgramComplete s) := by
  unfold execPageProgramComplete
  split
  · exact .done (s.programmed_kept b _)
  all_goals exact .same b s

theorem execEraseComplete_keepsLedger : KeepsLedger b s (execEraseComplete s) := by
  unfold execEraseComplete
  split
  · exact .done (s.erasedSector_kept b _)
  all_goals exact .same b s

theorem execSettingsRewriteStepComplete_keepsLedger : KeepsLedger b s (execSettingsRewriteStepComplete s) := by
  unfold execSettingsRewriteStepComplete
  split
  · exact .done (s.rewriteErased_kept b)
  · exact .done (s.pageWritten_kept b _)
  all_goals exact .same b s

theorem State.freeContext_ledger (c : Fin 8) : (s.freeContext c).ledger = s.ledger := by
  have hend (t : State) (n : Nat) : (t.endRetained n).ledger = t.ledger := rfl
  unfold State.freeContext
  split
  · rfl
  · dsimp only
    split
    · rfl
    · exact hend _ _

theorem State.discardHalf_ledger (c : Fin 8) (p : HalfParity) : (s.discardHalf c p).ledger = s.ledger :=
  (State.evaluateIfGoverningChanged_ledger _ _ _).trans (s.setHalf_ledger _ _)

end Commands

/-! ### Every command -/

/-- R129, R109, R151: the command cannot move the balance: it is neither BUY, a RIGHTS record that unwraps, the journal
mount nor power. -/
def sparesBalance (c : Instr) : Bool :=
  match c with
  | .buy | .journalMount | .powerGood | .powerLoss _ => false
  | .rights u => !u.pass
  | _ => true

theorem exec_keepsLedger (c : Instr) (s : State) : KeepsLedger (sparesBalance c) s (exec c s) := by
  cases c with
  | powerGood => exact execPowerGood_keepsLedger s
  | powerLoss remains => exact execPowerLoss_keepsLedger s remains
  | linkReset c => exact execLinkReset_keepsLedger _ s c
  | configImageReadComplete => exact execConfigImageReadComplete_keepsLedger _ s
  | upstreamRequest r => exact execUpstreamRequest_keepsLedger _ s r
  | passRequestComplete => exact execPassRequestComplete_keepsLedger _ s
  | cellArrival => exact execCellArrival_keepsLedger _ s
  | silenceTimerExpiry w => exact .due fun _ => .done_ledger (by simp [State.fallSilent])
  | cellRead x => exact execCellRead_keepsLedger _ s x
  | paceWindowOpen => exact .due fun _ => .done_ledger rfl
  | ownWriteComplete => exact execOwnWriteComplete_keepsLedger _ s
  | slotTake => exact execSlotTake_keepsLedger _ s
  | recordBadKind => exact execRecordBadKind_keepsLedger _ s
  | outcomeWriteComplete => exact execOutcomeWriteComplete_keepsLedger _ s
  | discardedFetchComplete => exact execDiscardedFetchComplete_keepsLedger _ s
  | time order => exact execTime_keepsLedger _ s order
  | oneSecondTick => exact .due fun _ => .done (s.secondTick_kept _)
  | previewExhaustion event => exact execPreviewExhaustion_keepsLedger _ s event
  | minutesUsedRise q => exact execMinutesUsedRise_keepsLedger _ s q
  | minuteTick order => exact execMinuteTick_keepsLedger _ s order
  | services => exact recordStep_keepsLedger_same (fun s _ => s.servicesRecord_ledger _ _) s _ _
  | events => exact recordStep_keepsLedger_same (fun s f => s.eventsRecord_ledger f) s _ _
  | tuneView => exact recordStep_keepsLedger_same (fun s _ => s.tuneView_ledger _) s _ _
  | tuneStage => exact recordStep_keepsLedger_same (fun s _ => s.tuneStage_ledger _) s _ _
  | release => exact recordStep_keepsLedger_same (fun s _ => s.release_ledger _) s _ _
  | keyWaitExpiry o => exact execKeyWaitExpiry_keepsLedger _ s o
  | stagedLifetimeExpiry c => exact .due fun _ => .done_ledger (s.freeContext_ledger c)
  | key u => exact recordStep_keepsLedger_same (fun s f => s.keyRecord_ledger u f.bytes) s _ _
  | ageingExpiry c p => exact .due fun _ => .done_ledger (s.discardHalf_ledger c p)
  | buy => exact recordStep_keepsLedger (fun s _ => s.buyRecord_kept _) s _ _
  | rights u => exact recordStep_keepsLedger (fun s _ => s.rightsRecord_kept _ _) s _ _
  | pinUnlockEvent => exact recordStep_keepsLedger (fun s _ => s.pinUnlockEvent_kept _ _) s _ _
  | pinUnlockPeriod => exact recordStep_keepsLedger (fun s _ => s.pinUnlockPeriod_kept _ _) s _ _
  | pinChange => exact recordStep_keepsLedger (fun s _ => s.pinChange_kept _ _) s _ _
  | lockoutTimerExpiry q => exact .due fun _ => .done (s.endLockout_kept _ q)
  | periodUnlockExpiry o =>
    exact .due fun _ => .done_ledger ((State.evaluateTuned_ledger _ _ _).trans (s.modOut_ledger o _))
  | profile => exact recordStep_keepsLedger (fun s _ => s.profileRecord_kept _ _) s _ _
  | powerStandby => exact recordStep_keepsLedger_same (fun s _ => s.powerStandby_ledger _) s _ _
  | powerWake => exact recordStep_keepsLedger_same (fun s _ => s.powerWake_ledger _) s _ _
  | publishingWriteComplete => exact execPublishingWriteComplete_keepsLedger _ s
  | controlBlockWriteComplete => exact execControlBlockWriteComplete_keepsLedger _ s
  | consumerIndexWrite => exact execConsumerIndexWrite_keepsLedger _ s
  | mitigationDelayExpiry => exact .due fun _ => .done_ledger rfl
  | statisticsTimerExpiry =>
    have hrearm (t : State) : t.rearmStatistics.ledger = t.ledger := rfl
    exact .due fun _ => .done_ledger ((State.statsFallDue_ledger _).trans (hrearm s))
  | settingsReadComplete => exact execSettingsReadComplete_keepsLedger _ s
  | journalMount => exact execJournalMount_keepsLedger s
  | flashInhibitEnd => exact .due fun _ => .done_ledger rfl
  | pageProgramComplete => exact execPageProgramComplete_keepsLedger _ s
  | eraseComplete => exact execEraseComplete_keepsLedger _ s
  | meteringPaceElapsed => exact .due fun _ => .done_ledger rfl
  | settingsRewriteStepComplete => exact execSettingsRewriteStepComplete_keepsLedger _ s
  | blinkCycle => exact .due fun _ => .done_ledger rfl

theorem State.withPending_ledger (s : State) (cs : List Instr) :
    ({ s with pending := cs } : State).ledger = s.ledger := rfl

/-- A step keeps memories, purse and profiles sound and the flash port served. -/
theorem step_keepsLedger {s t : State} (h : step s = .next t) : Kept false s t ∧ (FlashServed s → FlashServed t) := by
  unfold step at h
  split at h
  · cases h
    unfold State.idle
    split
    · exact ⟨.refl _ s, id⟩
    · split
      · exact ⟨.of_ledger (s.withTicks_ledger _), id⟩
      · exact ⟨.of_ledger (s.withPending_ledger _), id⟩
  · next c rest _ =>
    obtain ⟨hkept, hserved⟩ := exec_keepsLedger c { s with pending := rest } t h
    exact ⟨⟨hkept.memories, hkept.purse, hkept.profiles, nofun⟩, hserved⟩

/-! ### The obligations -/

/-- Settles O53, by the cases of the command. -/
theorem onlyPurseCommandsMoveBalance : Obligations.OnlyPurseCommandsMoveBalance := by
  unfold Obligations.OnlyPurseCommandsMoveBalance
  intro c s t h hmoved
  have hcould : sparesBalance c = false := by
    by_contra hspares
    exact hmoved ((exec_keepsLedger c s t h).1.balance (by simpa using hspares))
  cases c with
  | buy => exact .inl rfl
  | rights u => exact .inr (.inl ⟨u, rfl, by simpa [sparesBalance] using hcould⟩)
  | journalMount => exact .inr (.inr (.inl rfl))
  | powerGood => exact .inr (.inr (.inr (.inl rfl)))
  | powerLoss remains => exact .inr (.inr (.inr (.inr ⟨remains, rfl⟩)))
  | _ => cases hcould

/-- Settles O57: every command keeps purse and profiles in range (`exec_keepsLedger`), and ends with the flash arbiter's
choice or leaves the flash port as it was. -/
theorem stepKeepsPurseAndProfiles : Obligations.StepKeepsPurseAndProfiles := by
  unfold Obligations.StepKeepsPurseAndProfiles
  intro s t h
  obtain ⟨hkept, hserved⟩ := step_keepsLedger h
  exact ⟨fun hpurse hprofiles => ⟨hkept.purse hpurse, hkept.profiles hprofiles⟩, hserved⟩

/-- Settles O55: every operation on the memories keeps their canonical form (`exec_keepsLedger`). -/
theorem stepKeepsMemories : Obligations.StepKeepsMemories := by
  unfold Obligations.StepKeepsMemories
  intro s t hok h
  exact (step_keepsLedger h).1.memories hok

end Sys2Proof.Machine
end

section
/-! PROOFS. The 32 bytes of a journal record (R138, 12.4): what a big-endian field reads where it was written, and the
round trip of a record. -/

namespace Sys2Proof.Machine

/-! ### Fields read where they were written (00_scope.md, Numbers) -/

@[simp] theorem length_beBytes (n v : Nat) : (beBytes n v).length = n := by
  induction n with
  | zero => rfl
  | succ n ih => rw [beBytes, List.length_cons, ih]

@[simp] theorem length_beSigned (n : Nat) (v : Int) : (beSigned n v).length = n := length_beBytes n _

theorem ofBytes_beBytes (n v : Nat) : ofBytes (beBytes n v) = v % 256 ^ n := by
  have hfold (a : Nat) : (beBytes n v).foldl (fun a b => a * 256 + b.toNat) a = a * 256 ^ n + v % 256 ^ n := by
    induction n generalizing a with
    | zero => simp [beBytes, Nat.mod_one]
    | succ n ih =>
      rw [beBytes, List.foldl_cons, ih, Nat.mod_pow_succ, BitVec.toNat_ofNat]
      ring
  rw [ofBytes, hfold, Nat.zero_mul, Nat.zero_add]

theorem slice_eq_take_drop {bs : List Byte} {i n : Nat} (h : i + n ≤ bs.length) :
    slice bs i n = (bs.drop i).take n := by
  refine List.ext_getElem (by simp [slice]; omega) fun k hk hk' => ?_
  simp only [slice, List.length_map, List.length_range] at hk
  simp only [slice, byteAt, List.getElem_map, List.getElem_range, List.getElem_take, List.getElem_drop]
  rw [List.getD_eq_getElem _ _ (by omega)]

/-- A field past the first bytes of a string. -/
theorem slice_append_right {as bs : List Byte} {i : Nat} (h : as.length ≤ i) (n : Nat) :
    slice (as ++ bs) i n = slice bs (i - as.length) n := by
  refine List.map_congr_left fun k _ => ?_
  rw [byteAt, byteAt, List.getD_append_right _ _ _ _ (by omega)]
  congr 1
  omega

/-- The field that a string begins with. -/
theorem slice_append_left (as bs : List Byte) {n : Nat} (h : as.length = n) : slice (as ++ bs) 0 n = as := by
  rw [slice_eq_take_drop (by simp [h]), List.drop_zero, ← h, List.take_left]

theorem slice_whole (as : List Byte) {n : Nat} (h : as.length = n) : slice as 0 n = as := by
  rw [slice_eq_take_drop (by omega), List.drop_zero, ← h, List.take_length]

theorem u8_eq_field (bs : List Byte) (i : Nat) : u8 bs i = field bs i 1 := by
  simp [u8, field, slice, ofBytes]

/-- A field reads what was written in it. -/
theorem field_of_slice {bs : List Byte} {i n v : Nat} (h : slice bs i n = beBytes n v) (hv : v < 256 ^ n) :
    field bs i n = v := by
  rw [field, h, ofBytes_beBytes, Nat.mod_eq_of_lt hv]

/-- A signed field reads what was written in it. -/
theorem signedField_of_slice {bs : List Byte} {i : Nat} {v : Int} (h : slice bs i 4 = beSigned 4 v)
    (hlow : -2147483648 ≤ v) (hhigh : v ≤ 2147483647) : signedField bs i 4 = v := by
  have hfield : field bs i 4 = (v % 4294967296).toNat :=
    field_of_slice (by simpa [beSigned] using h) (by omega)
  simp only [signedField, hfield]
  split <;> omega

/-! ### A journal record (R138) -/

theorem journalKindOf_code (k : JournalKind) : journalKindOf k.code = some k := by cases k <;> rfl

theorem optionalByte_orFF {o : Option Nat} (h : ∀ n : Nat, o = some n → n ≤ 254) : optionalByte (orFF o) = o := by
  cases o with
  | none => rfl
  | some n =>
    have := h n rfl
    exact if_neg (by simp only [orFF, Option.getD_some]; omega)

theorem orFF_lt {o : Option Nat} (h : ∀ n : Nat, o = some n → n ≤ 254) : orFF o < 256 := by
  cases o with
  | none => decide
  | some n => exact Nat.lt_of_le_of_lt (h n rfl) (by decide)

theorem crc16_lt (bs : List Byte) : crc16 bs < 65536 := BitVec.isLt _

section Record

variable (r : JournalRecord)

theorem JournalRecord.length_body : r.body.length = 30 := by simp [JournalRecord.body, beList]

/-- 12.4: the fields of a record, one after another. -/
theorem JournalRecord.bytes_eq : r.bytes = beBytes 4 r.seq ++ (beBytes 1 r.kind.code ++ (beBytes 1 (orFF r.output) ++
    (beSigned 4 r.amount ++ (beSigned 4 r.balanceAfter ++ (beBytes 4 r.event ++ (beBytes 4 r.endMinute ++
    (beBytes 4 r.clock ++ (beBytes 4 r.upTo ++ beBytes 2 (crc16 r.body))))))))) := by
  simp [JournalRecord.bytes, JournalRecord.body, beList]

/-- 12.4: what stands at the offset of each field. -/
theorem JournalRecord.bytes_slices : slice r.bytes 0 4 = beBytes 4 r.seq ∧ slice r.bytes 4 1 = beBytes 1 r.kind.code ∧
    slice r.bytes 5 1 = beBytes 1 (orFF r.output) ∧ slice r.bytes 6 4 = beSigned 4 r.amount ∧
    slice r.bytes 10 4 = beSigned 4 r.balanceAfter ∧ slice r.bytes 14 4 = beBytes 4 r.event ∧
    slice r.bytes 18 4 = beBytes 4 r.endMinute ∧ slice r.bytes 22 4 = beBytes 4 r.clock ∧
    slice r.bytes 26 4 = beBytes 4 r.upTo := by
  rw [r.bytes_eq]
  simp [slice_append_right, slice_append_left]

theorem JournalRecord.bytes_check : slice r.bytes 0 30 = r.body ∧ slice r.bytes 30 2 = beBytes 2 (crc16 r.body) := by
  have hlength := r.length_body
  refine ⟨slice_append_left _ _ hlength, ?_⟩
  rw [JournalRecord.bytes, slice_append_right hlength.le, hlength]
  exact slice_whole _ (length_beBytes _ _)

end Record

/-- Settles O52: each field reads back (`field_of_slice`), and so does the record check over the body. -/
theorem journalRecordRoundTrip : Obligations.JournalRecordRoundTrip := by
  unfold Obligations.JournalRecordRoundTrip
  intro r hseq hevent hend hclock hupTo hamountLow hamountHigh hbalanceLow hbalanceHigh houtput
  obtain ⟨sseq, skind, soutput, samount, sbalance, sevent, send, sclock, supTo⟩ := r.bytes_slices
  obtain ⟨sbody, scheck⟩ := r.bytes_check
  have hcode : r.kind.code < 256 ^ 1 := by cases r.kind <;> decide
  have hkind : journalKindOf (u8 r.bytes 4) = some r.kind := by
    rw [u8_eq_field, field_of_slice skind hcode, journalKindOf_code]
  have hout : optionalByte (u8 r.bytes 5) = r.output := by
    rw [u8_eq_field, field_of_slice soutput (orFF_lt houtput), optionalByte_orFF houtput]
  have hcheck : field r.bytes 30 2 = crc16 (slice r.bytes 0 30) := by
    rw [field_of_slice scheck (crc16_lt _), sbody]
  have hbalance : signedField r.bytes 10 4 = r.balanceAfter := signedField_of_slice sbalance (by omega) (by omega)
  unfold journalRecordOf
  simp only [hkind, hbalance, hout, signedField_of_slice samount hamountLow hamountHigh, field_of_slice sseq hseq,
    field_of_slice sevent hevent, field_of_slice send hend, field_of_slice sclock hclock, field_of_slice supTo hupTo]
  exact if_pos ⟨hcheck, hbalanceLow, hbalanceHigh⟩

end Sys2Proof.Machine
end

section
/-! PROOFS. The settings mount (R150, R154, R101, R168): what each content of the settings sector gives. -/

namespace Sys2Proof.Machine

/-! ### The three contents (R150) -/

/-- R150, R168: the settings sector is handed to the owning blocks, and the journal is read next. -/
def State.settingsHanded (s : State) : State :=
  { s.settingsMount.judgeWindows with flashPort := { s.flashPort with op := some .journalRead } }

theorem exec_settingsReadComplete {s : State} (h : s.flashPort.op = some .settingsRead) :
    exec .settingsReadComplete s = .next s.settingsHanded.settle := by
  show execSettingsReadComplete s = _
  unfold execSettingsReadComplete
  rw [h]
  rfl

theorem State.settingsMount_blank {s : State} (h : s.settingsIsBlank = true) : s.settingsMount = s.settingsBlank :=
  if_pos h

theorem State.settingsMount_good {s : State} {b : List Byte} (hb : b = s.flashRead 0x1000 1024)
    (h : s.settingsIsBlank = false) (hg : settingsGood b = true) : s.settingsMount = s.settingsLoaded b := by
  rw [State.settingsMount, if_neg (Bool.eq_false_iff.mp h), ← hb, if_pos hg]

theorem State.settingsMount_corrupt {s : State} {b : List Byte} (hb : b = s.flashRead 0x1000 1024)
    (h : s.settingsIsBlank = false) (hg : settingsGood b = false) : s.settingsMount = s.settingsCorrupt := by
  rw [State.settingsMount, if_neg (Bool.eq_false_iff.mp h), ← hb, if_neg (Bool.eq_false_iff.mp hg)]

/-- What every content replaces: rights, profiles and the budget date. -/
theorem State.settingsReplaced_frame (s : State) (r : Rights) (ps : Vector Profile 6) (d : Option Int) :
    Frame [.guide, .rights, .profiles] s
      { s with rights := r, profiles := ps, guide := { s.guide with budgetDate := d } } :=
  ⟨by simp [onlyChanges, Area.forall_iff, Area.same], rfl⟩

theorem State.settingsCorrupt_frame (s : State) :
    Frame [.own, .guide, .rights, .profiles, .flashWork, .writer] s s.settingsCorrupt :=
  ((s.settingsReplaced_frame _ _ _).trans (State.notify_frame _ _) (cs := [.own, .guide, .rights, .profiles, .writer])
    (by decide) (by decide)).trans (State.markChange_frame _) (by decide) (by decide)

theorem State.settingsCorrupt_handed (s : State) : handedOver [.settingsLost] s s.settingsCorrupt := by
  have hmarked (t : State) : handedOver [.settingsLost] t (t.notify .settingsLost).markChange := ⟨rfl, rfl⟩
  exact (hmarked _).of_inputs ⟨rfl, rfl, rfl, rfl⟩ rfl

theorem State.settingsMount_frame (s : State) :
    Frame [.own, .guide, .rights, .profiles, .flashWork, .writer] s s.settingsMount := by
  unfold State.settingsMount
  split
  · exact (s.settingsReplaced_frame _ _ _).mono (by decide)
  · split
    · exact (s.settingsReplaced_frame _ _ _).mono (by decide)
    · exact s.settingsCorrupt_frame

/-- R168: the mount leaves clock and offset alone. -/
theorem State.settingsMount_minuteOfDay (s : State) : s.settingsMount.guide.minuteOfDay = s.guide.minuteOfDay := by
  have hcorrupt : s.settingsCorrupt.guide.minuteOfDay = s.guide.minuteOfDay := by
    rw [State.settingsCorrupt, State.markChange_guide, State.notify_guide]
    rfl
  have hloaded (b : List Byte) : (s.settingsLoaded b).guide.minuteOfDay = s.guide.minuteOfDay := rfl
  unfold State.settingsMount
  split
  · rfl
  · split
    · exact hloaded _
    · exact hcorrupt

/-- R168: the window results computed afresh, and the next read under way. -/
theorem State.settingsHanded_frame {s : State} (h : s.flashPort.op = some .settingsRead) :
    Frame [.own, .guide, .rights, .profiles, .flashWork, .writer] s s.settingsHanded := by
  have hnext (t : State) (p : FlashPort) :
      onlyChanges [.profiles, .flashWork] t { t.judgeWindows with flashPort := p } := by
    simp [onlyChanges, Area.forall_iff, Area.same, State.judgeWindows]
  have hfree : s.settingsHanded.flashFree = s.settingsMount.flashFree := by
    rw [s.settingsMount_frame.free, State.flashFree_of_op h]
    exact State.flashFree_of_op (op := .journalRead) rfl
  exact s.settingsMount_frame.trans ⟨hnext _ _, hfree⟩ (List.Subset.refl _) (by decide)

/-! ### At the end of the command -/

/-- R137: the journal read occupies the flash port, so nothing starts. -/
theorem State.settingsHanded_end (s : State) :
    s.settingsHanded.settle.flashPort = { s.flashPort with op := some .journalRead } ∧
      s.settingsHanded.settle.settings = s.settingsMount.settings := by
  obtain ⟨hport, hsettings, -⟩ := s.settingsHanded.settle_busy (State.flashFree_of_op (op := .journalRead) rfl)
  have hwindows (t : State) (p : FlashPort) :
      ({ t.judgeWindows with flashPort := p } : State).settings = t.settings := rfl
  exact ⟨hport, hsettings.trans (hwindows _ _)⟩

theorem State.settingsHanded_profile (s : State) (q : Fin 6) : s.settingsHanded.settle.profiles[q] =
    (s.settingsMount.profiles[q]).judgeWindow s.guide.minuteOfDay := by
  rw [State.settle_profiles, ← s.settingsMount_minuteOfDay, ← State.judgeWindows_get]
  rfl

theorem State.settingsHanded_handed {s : State} {ns : List Notice} (h : handedOver ns s s.settingsMount) :
    handedOver ns s s.settingsHanded.settle :=
  (h.then (u := s.settingsHanded) rfl rfl).settle

/-- Settles O50, by the content of the settings sector. -/
theorem settingsMountByContent : Obligations.SettingsMountByContent := by
  unfold Obligations.SettingsMountByContent
  intro s b hop hb
  obtain ⟨hport, hsettings⟩ := s.settingsHanded_end
  have hguide : s.settingsHanded.settle.guide = s.settingsMount.guide := State.settle_guide _
  have hrights : s.settingsHanded.settle.rights = s.settingsMount.rights := State.settle_rights _
  have hprofile := s.settingsHanded_profile
  refine ⟨_, exec_settingsReadComplete hop, hport, fun q => ?_, fun hblank => ?_, fun hblank hgood => ?_,
    fun hblank hgood => ?_, ?_⟩
  · rw [hprofile]
    rfl
  · have hmount := State.settingsMount_blank hblank
    rw [hmount] at hguide hrights hsettings hprofile
    refine ⟨hrights, by rw [hguide]; rfl, fun q => ?_, hsettings, State.settingsHanded_handed ?_⟩
    · have hq : s.settingsBlank.profiles[q] = (s.cfg.factoryProfiles[q]).profile s.cfg.defaultPin := by
        simp [State.settingsBlank, Image.profiles]
      rw [hprofile, hq]
      exact ⟨rfl, rfl, rfl, rfl, rfl⟩
    · rw [hmount]
      exact ⟨rfl, rfl⟩
  · have hmount := State.settingsMount_good hb hblank hgood
    rw [hmount] at hguide hrights hsettings hprofile
    refine ⟨hrights, by rw [hguide]; rfl, fun q => ?_, hsettings, State.settingsHanded_handed ?_⟩
    · have hq : (s.settingsLoaded b).profiles[q] = settingsProfile b s.ticks.now q.val := by simp [State.settingsLoaded]
      rw [hprofile, hq]
      rfl
    · rw [hmount]
      exact ⟨rfl, rfl⟩
  · have hmount := State.settingsMount_corrupt hb hblank hgood
    rw [hmount] at hguide hrights hsettings hprofile
    refine ⟨?_, ?_, fun q => ?_, ?_, State.settingsHanded_handed ?_⟩
    · rw [hrights, State.settingsCorrupt, State.markChange_rights, State.notify_rights]
      rfl
    · rw [hguide, State.settingsCorrupt, State.markChange_guide, State.notify_guide]
    · have hq : s.settingsCorrupt.profiles[q] = lockedProfile s.cfg.defaultPin := by
        simp [State.settingsCorrupt]
      rw [hprofile, hq]
      exact ⟨rfl, rfl, rfl, rfl, rfl, rfl, rfl, rfl, rfl⟩
    · rw [hsettings, State.settingsCorrupt, State.markChange_settings, State.notify_settings]
    · rw [hmount]
      exact s.settingsCorrupt_handed
  · exact (State.settingsHanded_frame hop).settle

end Sys2Proof.Machine
end

section
/-! PROOFS. The flash port: the arbiter's choice (R137, R145, R148, R149), the append (R140, R143), the erase-ahead
target (R144), and the completions of flash operations (R142, R145, R149). -/

namespace Sys2Proof.Machine

/-! ### The flash arbiter (R137) -/

theorem State.rewriteEligible_iff (s : State) : s.rewriteEligible = true ↔ s.settings.dirty = .change ∨
    s.settings.forced = true ∨ s.settings.dirty = .metering ∧ s.settings.lastStart + 900000 ≤ s.ticks.now := by
  unfold State.rewriteEligible
  cases s.settings.dirty <;> simp

/-- R137 case 3, R148, R149. -/
theorem State.startRewrite_goesOn (s : State) : rewriteGoesOn s s.startRewrite := by
  refine ⟨fun w p hw hp => ?_, fun hnone => ⟨fun hdue => ?_, fun hforced hidle => ?_⟩⟩
  · have hpage : Fin.ofNat 4 (p.val + 1 - 1) = p := Fin.ext (Nat.mod_eq_of_lt p.isLt)
    simp only [State.startRewrite, hw, hp, hpage]
  · simp only [State.startRewrite, hnone, if_pos (s.rewriteEligible_iff.mpr hdue)]
  · have hnot : ¬ s.rewriteEligible = true := by
      rw [s.rewriteEligible_iff, hforced]
      rcases hidle with hd | ⟨hd, hlate⟩ <;> simp [hd]
      omega
    simp only [State.startRewrite, hnone, if_neg hnot]

/-- R145: the start check of a WAITING target. -/
theorem State.startErase_eq (s : State) (x : Target) :
    (targetPasses x.sector s →
        s.startErase x = { s with flashPort := { s.flashPort with op := some (.erase x.sector) } }) ∧
      (¬ targetPasses x.sector s →
        s.startErase x = (s.withTarget (some ⟨x.sector, false⟩)).startRewrite) := by
  unfold State.startErase
  rw [← s.sectorPasses_iff]
  exact ⟨fun h => if_pos h, fun h => if_neg h⟩

theorem State.flashFree_iff (s : State) : s.flashFree = true ↔
    s.powerGood = true ∧ s.part.mounted = true ∧ s.flashPort.inhibited = false ∧ s.flashPort.op = none := by
  simp [State.flashFree, and_assoc]

/-- R136, R137: the choice is as the statements say it. -/
theorem State.chooseFlash_chosen (s : State) : flashChosen s s.chooseFlash := by
  refine ⟨fun hbusy => ?_, fun hpower hmounted hinhibit hop => ?_⟩
  · have hfree : ¬ s.flashFree = true := by
      rw [s.flashFree_iff]
      rintro ⟨hpower, hmounted, hinhibit, hop⟩
      simp [hpower, hmounted, hinhibit, hop] at hbusy
    exact if_neg hfree
  · have hchoose : s.flashFree = true := s.flashFree_iff.mpr ⟨hpower, hmounted, hinhibit, hop⟩
    refine ⟨fun r rest hqueue => ?_, fun hempty => ⟨fun k htarget => ?_, fun hnone => ?_⟩⟩
    · simp only [State.chooseFlash, hchoose, if_true, hqueue]
    · have herase : s.chooseFlash = s.startErase ⟨k, true⟩ := by
        simp only [State.chooseFlash, hchoose, hempty, htarget, if_true]
      obtain ⟨hpass, hfail⟩ := s.startErase_eq ⟨k, true⟩
      rw [herase]
      refine ⟨hpass, fun hrefused => ?_⟩
      rw [hfail hrefused]
      exact State.startRewrite_goesOn _
    · have hrewrite : s.chooseFlash = s.startRewrite := by
        cases htarget : s.purse.target with
        | none => simp only [State.chooseFlash, hchoose, if_true, hempty, htarget]
        | some x =>
          have hnot : ¬ x.waiting = true := fun hw => hnone x.sector (by rw [htarget, ← hw])
          simp only [State.chooseFlash, hchoose, if_true, hempty, htarget, if_neg hnot]
      rw [hrewrite]
      exact s.startRewrite_goesOn

/-! ### The erase-ahead target (R144) -/

/-- R144: the target found from the write position and the erased flags, and checked. -/
def State.foundTarget (s : State) : Option Target := s.purse.findTarget.map (fun k => ⟨k, s.sectorPasses k⟩)

theorem State.foundTarget_found (s : State) : targetFound s.foundTarget s := by
  have hchecked (y : Target) (hy : s.foundTarget = some y) : y.waiting = true ↔ targetPasses y.sector s := by
    obtain ⟨k, -, rfl⟩ := Option.map_eq_some_iff.mp hy
    exact s.sectorPasses_iff k
  have hsector : s.foundTarget.map (·.sector) = s.purse.findTarget := by
    unfold State.foundTarget
    cases s.purse.findTarget <;> rfl
  rintro k rfl
  have hnext (hother : s.purse.writePos % 128 ≠ 0 ∨ s.purse.erased[sectorOf s.purse.writePos] = true) :
      ¬ (s.purse.writePos % 128 = 0 ∧ (!s.purse.erased[sectorOf s.purse.writePos]) = true) := by
    rintro ⟨hslot, hclear⟩
    rcases hother with h | h
    · exact h hslot
    · rw [h] at hclear
      cases hclear
  refine ⟨fun hslot hclear => ?_, fun hother => ⟨fun hclear => ?_, fun hset => ?_⟩, hchecked⟩
  · rw [hsector]
    exact if_pos ⟨hslot, by rw [hclear]; rfl⟩
  · rw [hsector]
    exact (if_neg (hnext hother)).trans (if_pos (by rw [hclear]; rfl))
  · have hnone : s.purse.findTarget = none :=
      (if_neg (hnext hother)).trans (if_neg (by rw [hset]; exact Bool.false_ne_true))
    rw [State.foundTarget, hnone]
    rfl

theorem State.retarget_of_free {s : State} (h : s.flashPort.erasing = false) :
    s.retarget = s.withTarget s.foundTarget := if_neg (Bool.eq_false_iff.mp h)

/-- R144: the target does not hold what its own check reads. -/
theorem targetPasses_congr {s t : State} (hp : t.purse.untargeted = s.purse.untargeted)
    (hm : t.guide.nowMinute = s.guide.nowMinute) (k : Fin 8) : targetPasses k t ↔ targetPasses k s := by
  have hlist : t.purse.list = s.purse.list := (congrArg Purse.list hp :)
  have hmark : t.purse.watermark = s.purse.watermark := (congrArg Purse.watermark hp :)
  rw [targetPasses, targetPasses, hlist, hmark, hm]

theorem targetFound.congr {s t : State} {x : Option Target} (h : targetFound x s)
    (hp : t.purse.untargeted = s.purse.untargeted) (hm : t.guide.nowMinute = s.guide.nowMinute) : targetFound x t := by
  have hplace : t.purse.writePos = s.purse.writePos := (congrArg Purse.writePos hp :)
  have herased : t.purse.erased = s.purse.erased := (congrArg Purse.erased hp :)
  unfold targetFound
  simp only [hplace, herased, targetPasses_congr hp hm]
  exact h

/-- R144: a check repeated at once finds nothing new. -/
theorem State.recheckTarget_found (s : State) :
    (s.withTarget s.foundTarget).recheckTarget.purse.target = s.foundTarget := by
  unfold State.recheckTarget
  split
  · rfl
  · show s.foundTarget.map _ = s.foundTarget
    simp only [State.foundTarget, Option.map_map]
    rfl

/-! ### The append (R140, R143) -/

/-- R140: the record has joined list and queue; the target is still the one before. -/
def State.joined (s : State) (e : Entry) : State := s.modPurse (fun p => p.join (s.journalRecord e))

section Raise

variable (p : Purse) (r : JournalRecord)

theorem Purse.raise_writePos : (p.raise r).writePos = p.writePos := by
  unfold Purse.raise Purse.raiseFloor
  cases r.kind <;> dsimp only <;> split <;> rfl

theorem Purse.raise_erased : (p.raise r).erased = p.erased := by
  unfold Purse.raise Purse.raiseFloor
  cases r.kind <;> dsimp only <;> split <;> rfl

theorem Purse.raise_target : (p.raise r).target = p.target := by
  unfold Purse.raise Purse.raiseFloor
  cases r.kind <;> dsimp only <;> split <;> rfl

theorem Purse.raise_watermark :
    (p.raise r).watermark = if r.kind = .collect then max p.watermark r.upTo else p.watermark := by
  unfold Purse.raise Purse.raiseFloor
  cases r.kind <;> dsimp only <;> simp
  split <;> rfl

/-- R140: a record that joins clears the erased flag of a sector it begins. -/
theorem Purse.join_erased (k : Fin 8) : (p.join r).erased[k] =
    if p.writePos % 128 = 0 ∧ k = sectorOf p.writePos then false else p.erased[k] := by
  rw [Purse.join, Purse.raise_erased]
  by_cases hslot : p.writePos % 128 = 0
  · simp only [hslot, if_true, true_and, Fin.getElem_fin, Vector.getElem_set, Fin.ext_iff, eq_comm]
  · simp [hslot]

end Raise

theorem State.append_joined (s : State) (e : Entry) : s.append e =
    (((s.joined e).followPosition s.purse.writePos).followCollect e.kind).notify (.journal (s.journalRecord e)) := rfl

/-- R140, R143: the target after an append: none of its checks is made while an erase is in progress; otherwise it is
found again in another sector, and in the same sector its check is repeated for a COLLECT alone. -/
theorem State.append_target (s : State) (e : Entry) : (s.append e).purse.target =
    if s.flashPort.erasing then s.purse.target
    else if sectorOf (s.joined e).purse.writePos = sectorOf s.purse.writePos then
      (if e.kind = .collect then (s.joined e).recheckTarget.purse.target else s.purse.target)
    else (s.joined e).foundTarget := by
  have hkept : (s.joined e).purse.target = s.purse.target := Purse.raise_target _ _
  rw [State.append_joined, State.notify_purse]
  by_cases herase : s.flashPort.erasing = true
  · have hrecheck (t : State) (h : t.flashPort.erasing = true) : t.recheckTarget = t := if_pos h
    have hretarget : (s.joined e).retarget = s.joined e := if_pos herase
    have hfollow : (s.joined e).followPosition s.purse.writePos = s.joined e := by
      rw [State.followPosition, hretarget, ite_self]
    rw [if_pos herase, hfollow, ← hkept]
    cases e.kind with
    | collect => exact congrArg (fun t : State => t.purse.target) (hrecheck _ herase)
    | purchase | topup => rfl
  · rw [if_neg herase]
    have hfound := State.retarget_of_free (s := s.joined e) (Bool.eq_false_iff.mpr herase)
    unfold State.followPosition
    split
    · cases e.kind with
      | collect => rfl
      | purchase | topup => exact hkept
    · rw [hfound]
      cases e.kind with
      | collect => exact State.recheckTarget_found _
      | purchase | topup => rfl

theorem State.append_handed (s : State) (e : Entry) : handedOver [.journal (s.journalRecord e)] s (s.append e) := by
  obtain ⟨x, hx⟩ := s.append_eq e
  rw [hx]
  exact (handedOver_one _ _).of_inputs ⟨rfl, rfl, rfl, rfl⟩ rfl

/-- R140, R143, R144: what an append leaves of the erase-ahead target. -/
theorem State.append_follows (s : State) (e : Entry) :
    ((∃ k : Fin 8, s.flashPort.op = some (.erase k)) → (s.append e).purse.target = s.purse.target) ∧
      ((∀ k : Fin 8, s.flashPort.op ≠ some (.erase k)) →
        (sectorOf (s.append e).purse.writePos ≠ sectorOf s.purse.writePos →
          targetFound (s.append e).purse.target (s.append e)) ∧
        (sectorOf (s.append e).purse.writePos = sectorOf s.purse.writePos →
          (e.kind = .collect → targetRechecked (s.append e).purse.target
            { s.append e with purse := { (s.append e).purse with target := s.purse.target } }) ∧
          (e.kind ≠ .collect → (s.append e).purse.target = s.purse.target))) := by
  have hpurse : (s.append e).purse.untargeted = (s.joined e).purse.untargeted := s.append_purse e
  have hplace : (s.append e).purse.writePos = (s.joined e).purse.writePos := (congrArg Purse.writePos hpurse :)
  have hguide : (s.append e).guide = s.guide := (s.append_frame e).only .guide (by decide)
  have hminute : (s.append e).guide.nowMinute = s.guide.nowMinute := by rw [hguide]
  have hport : (s.append e).flashPort = s.flashPort := by
    obtain ⟨x, hx⟩ := s.append_eq e
    rw [hx]
    exact State.notify_flashPort _ _
  have htarget := s.append_target e
  refine ⟨fun herase => ?_, fun hfree => ?_⟩
  · rw [htarget, if_pos ((FlashPort.erasing_iff _).mpr herase)]
  · have hnot : ¬ s.flashPort.erasing = true := fun h => ((FlashPort.erasing_iff _).mp h).elim hfree
    rw [if_neg hnot] at htarget
    rw [hplace]
    refine ⟨fun hmoved => ?_, fun hstays => ⟨fun hcollect => ?_, fun hother => ?_⟩⟩
    · rw [htarget, if_neg hmoved]
      exact (s.joined e).foundTarget_found.congr hpurse hminute
    · have hrechecked := (s.joined e).recheckTarget_rechecked
      rw [htarget, if_pos hstays, if_pos hcollect]
      have hkept : (s.joined e).purse.target = s.purse.target := Purse.raise_target _ _
      unfold targetRechecked at hrechecked ⊢
      simp only [targetPasses_congr (s := s.joined e)
        (t := { s.append e with purse := { (s.append e).purse with target := s.purse.target } }) hpurse hminute]
      rw [hkept] at hrechecked
      simp only [hport]
      exact hrechecked
    · rw [htarget, if_pos hstays, if_neg hother]

/-! ### Completions (R142, R145, R149) -/

/-- An erase in a canonical flash: the sector reads FFh and every other byte as before. -/
theorem flashErased_of_clear {s t : State} (w : MemoriesOk s) {k : Nat} (h : t.flash = s.flash.clear (k * 4096) 4096) :
    flashErased k s t := by
  intro x
  simp only [State.flashByte, h]
  exact Memory.read_clear (k * 4096) 4096 x w.2

section Completions

variable {s : State}

theorem exec_pageProgramComplete {r : JournalRecord} (h : s.flashPort.op = some (.program r)) :
    exec .pageProgramComplete s = .next (s.programmed r).settle := by
  show execPageProgramComplete s = _
  unfold execPageProgramComplete
  rw [h]
  rfl

theorem exec_eraseComplete {k : Fin 8} (h : s.flashPort.op = some (.erase k)) :
    exec .eraseComplete s = .next (s.erasedSector k).settle := by
  show execEraseComplete s = _
  unfold execEraseComplete
  rw [h]
  rfl

theorem exec_rewriteErased (h : s.flashPort.op = some .rewriteErase) :
    exec .settingsRewriteStepComplete s = .next (s.freeFlash.flashErase 1).settle := by
  show execSettingsRewriteStepComplete s = _
  unfold execSettingsRewriteStepComplete
  rw [h]
  rfl

theorem exec_pageWritten {p : Fin 4} (h : s.flashPort.op = some (.rewritePage p)) :
    exec .settingsRewriteStepComplete s = .next (s.pageWritten p).settle := by
  show execSettingsRewriteStepComplete s = _
  unfold execSettingsRewriteStepComplete
  rw [h]
  rfl

/-- The port is free, and bytes stand in flash. -/
def State.flashDone (s : State) (a : Nat) (bs : List Byte) : State :=
  { s with
    flashPort := { s.flashPort with op := none }
    flash := s.flash.writeBytes flashDefault a bs }

theorem State.flashDone_eq (s : State) (a : Nat) (bs : List Byte) :
    s.freeFlash.flashWrite a bs = s.flashDone a bs := rfl

theorem State.programmed_eq (r : JournalRecord) : s.programmed r =
    (s.flashDone (placeAddr r.place) r.bytes).modPurse (fun p => { p with queue := p.queue.tail }) := by
  rw [State.programmed, State.flashDone_eq]

/-- R149: the page of a rewrite in progress; after page 3 the rewrite has ended. -/
theorem State.pageWritten_eq {w : Rewrite} (hw : s.settings.rewrite = some w) (p : Fin 4) : s.pageWritten p =
    { s.flashDone (settingsPage p) (w.page p) with
      settings := { s.settings with rewrite := if p = 3 then none else some w } } := by
  have hgoes (a : Nat) (bs : List Byte) : s.flashDone a bs =
      { s.flashDone a bs with settings := { s.settings with rewrite := some w } } := by
    rw [← hw]
    rfl
  have hends (a : Nat) (bs : List Byte) :
      { s.flashDone a bs with settings := { (s.flashDone a bs).settings with rewrite := none } } =
        { s.flashDone a bs with settings := { s.settings with rewrite := none } } := rfl
  simp only [State.pageWritten, hw, State.flashDone_eq]
  by_cases hp : p = 3
  · rw [if_pos hp, if_pos hp, hends]
  · rw [if_neg hp, if_neg hp, ← hgoes]

/-- R145: sector and purse after an erase-ahead erase; the target is still to be found again. -/
def State.sectorCleared (s : State) (k : Fin 8) : State :=
  ((s.freeFlash).flashErase (k.val + 2)).modPurse (fun p => p.eraseDone k)

/-- R145, R144: the target is found again, since the port is free. -/
theorem State.erasedSector_eq (k : Fin 8) :
    s.erasedSector k = (s.sectorCleared k).withTarget (s.sectorCleared k).foundTarget :=
  State.retarget_of_free (s := s.sectorCleared k) rfl

end Completions

/-- R142: the bytes stand in flash, the purse is what the completion leaves, and the arbiter has its choice. -/
theorem State.flashDone_purse {s : State} (hs : MemoriesOk s) (a : Nat) (bs : List Byte) (f : Purse → Purse) :
    flashHolds a bs s ((s.flashDone a bs).modPurse f).settle ∧
      flashFollows { s.flashPort with op := none } s.settings (f s.purse) ((s.flashDone a bs).modPurse f).settle ∧
      onlyChanges [.journal, .flashWork, .flash] s ((s.flashDone a bs).modPurse f).settle :=
  ⟨flashHolds_of_write hs _ _ (State.settle_flash _), State.settle_flashFollows _,
    onlyChanges_settle _ (.inl (by decide))
      (by simp [onlyChanges, Area.forall_iff, Area.same, State.flashDone, State.modPurse])⟩

/-- R149: the bytes stand in flash, the settings store is what the completion leaves, and the arbiter has its choice. -/
theorem State.flashDone_settings {s : State} (hs : MemoriesOk s) (a : Nat) (bs : List Byte) (x : Settings) :
    flashHolds a bs s ({ s.flashDone a bs with settings := x } : State).settle ∧
      flashFollows { s.flashPort with op := none } x s.purse ({ s.flashDone a bs with settings := x } : State).settle ∧
      onlyChanges [.flashWork, .flash] s ({ s.flashDone a bs with settings := x } : State).settle :=
  ⟨flashHolds_of_write hs _ _ (State.settle_flash _), State.settle_flashFollows _,
    onlyChanges_settle _ (.inl (by decide)) (by simp [onlyChanges, Area.forall_iff, Area.same, State.flashDone])⟩

/-- Settles O49: the arbiter by `State.chooseFlash_chosen`, the append by `State.append_follows`, each completion by
what it leaves of flash before the arbiter's choice. -/
theorem flashOperationsComplete : Obligations.FlashOperationsComplete := by
  unfold Obligations.FlashOperationsComplete
  refine ⟨State.chooseFlash_chosen, ?_,
    fun s hs => ⟨fun r hop => ?_, fun hop => ?_, fun p w hop hw => ?_, fun k hop => ?_⟩⟩
  · rintro s e t r rfl rfl
    have hpurse := s.append_purse e
    obtain ⟨herasing, hfree⟩ := s.append_follows e
    refine ⟨(congrArg Purse.list hpurse :).trans (Purse.join_list _ _),
      (congrArg Purse.queue hpurse :).trans (Purse.join_queue _ _),
      (congrArg Purse.writePos hpurse :).trans (Purse.raise_writePos _ _),
      (congrArg Purse.balance hpurse :).trans (Purse.join_balance _ _), fun k => ?_,
      (congrArg Purse.watermark hpurse :).trans (Purse.raise_watermark _ _), herasing, hfree, s.append_handed e,
      (s.append_frame e).only.mono (by decide)⟩
    have herased : (s.append e).purse.erased = (s.purse.join (s.journalRecord e)).erased :=
      (congrArg Purse.erased hpurse :)
    rw [herased]
    exact Purse.join_erased _ _ k
  · refine ⟨_, exec_pageProgramComplete hop, ?_⟩
    rw [State.programmed_eq]
    exact State.flashDone_purse hs _ _ _
  · exact ⟨_, exec_rewriteErased hop, flashErased_of_clear hs (State.settle_flash _), State.settle_flashFollows _,
      onlyChanges_settle _ (.inl (by decide))
        (by simp [onlyChanges, Area.forall_iff, Area.same, State.freeFlash, State.flashErase])⟩
  · refine ⟨_, exec_pageWritten hop, ?_⟩
    rw [State.pageWritten_eq hw]
    exact State.flashDone_settings hs _ _ _
  · refine ⟨_, s.purse.eraseDone k, (s.sectorCleared k).foundTarget, exec_eraseComplete hop, ?_⟩
    rw [State.erasedSector_eq]
    refine ⟨flashErased_of_clear hs (State.settle_flash _), rfl, ?_, State.settle_flashFollows _,
      onlyChanges_settle _ (.inl (by decide))
        (by simp [onlyChanges, Area.forall_iff, Area.same, State.sectorCleared, State.freeFlash, State.flashErase,
          State.modPurse, State.withTarget])⟩
    exact (State.foundTarget_found _).congr rfl rfl

end Sys2Proof.Machine
end

section
/-! PROOFS. The journal mount, the tables (R151, R152, R127): the list of good records, what it raises, the write
position, and the owned events. -/

namespace Sys2Proof.Machine

/-! ### The list (R151) -/

/-- R151: records in rising sequence, one of each. -/
def seqsRise (l : List JournalRecord) : Prop := l.Pairwise (fun x y => x.seq < y.seq)

theorem insertRecord_seqsRise (r : JournalRecord) {l : List JournalRecord} (h : seqsRise l) :
    seqsRise (insertRecord r l) := by
  induction l with
  | nil => exact List.pairwise_singleton _ _
  | cons x l ih =>
    obtain ⟨hx, hl⟩ := List.pairwise_cons.mp h
    unfold insertRecord
    split
    · exact h
    · next hne =>
      split
      · next hlt =>
        refine List.pairwise_cons.mpr ⟨fun y hy => ?_, h⟩
        rcases List.mem_cons.mp hy with rfl | hy
        · exact hlt
        · exact hlt.trans (hx y hy)
      · next hge =>
        refine List.pairwise_cons.mpr ⟨fun y hy => ?_, ih hl⟩
        rcases mem_of_mem_insertRecord hy with rfl | hy
        · omega
        · exact hx y hy

/-- The sequences in a list stay, and that of the record joins them. -/
theorem insertRecord_covers (r : JournalRecord) (l : List JournalRecord) :
    (∃ x ∈ insertRecord r l, x.seq = r.seq) ∧ ∀ x ∈ l, x ∈ insertRecord r l := by
  induction l with
  | nil => exact ⟨⟨r, List.mem_singleton_self r, rfl⟩, nofun⟩
  | cons y l ih =>
    obtain ⟨⟨z, hz, hseq⟩, hkept⟩ := ih
    unfold insertRecord
    split
    · next he => exact ⟨⟨y, List.mem_cons_self, he.symm⟩, fun x hx => hx⟩
    · split
      · exact ⟨⟨r, List.mem_cons_self, rfl⟩, fun x hx => List.mem_cons_of_mem _ hx⟩
      · refine ⟨⟨z, List.mem_cons_of_mem _ hz, hseq⟩, fun x hx => ?_⟩
        rcases List.mem_cons.mp hx with rfl | hx
        · exact List.mem_cons_self
        · exact List.mem_cons_of_mem _ (hkept x hx)

section Mounted

variable (s : State)

theorem State.mountedList_seqsRise : seqsRise s.mountedList := by
  have hfold (rs l : List JournalRecord) (h : seqsRise l) : seqsRise (rs.foldl (fun l r => insertRecord r l) l) := by
    induction rs generalizing l with
    | nil => exact h
    | cons r rs ih => exact ih _ (insertRecord_seqsRise r h)
  exact hfold _ _ List.Pairwise.nil

theorem State.mountedList_covers {r : JournalRecord} (h : r ∈ s.goodRecords) : ∃ x ∈ s.mountedList, x.seq = r.seq := by
  have hkept (x : JournalRecord) (rs l : List JournalRecord) (hx : x ∈ l) :
      x ∈ rs.foldl (fun l r => insertRecord r l) l := by
    induction rs generalizing l with
    | nil => exact hx
    | cons y rs ih => exact ih _ ((insertRecord_covers y l).2 x hx)
  have hfold (rs l : List JournalRecord) (hr : r ∈ rs) :
      ∃ x ∈ rs.foldl (fun l r => insertRecord r l) l, x.seq = r.seq := by
    induction rs generalizing l with
    | nil => cases hr
    | cons y rs ih =>
      rcases List.mem_cons.mp hr with rfl | hr
      · obtain ⟨⟨x, hx, hseq⟩, -⟩ := insertRecord_covers r l
        exact ⟨x, hkept x rs _ hx, hseq⟩
      · exact ih _ hr
  exact hfold _ _ h

end Mounted

theorem journalRecordOf_place {b : List Byte} {place : Nat} {r : JournalRecord} (h : journalRecordOf b place = some r) :
    r.place = place := by
  unfold journalRecordOf at h
  split at h
  · cases h
  · split at h
    · cases h
      rfl
    · cases h

/-! ### What the list raises (R103, R143, R151) -/

/-- A field that a record of some sort raises to its value, raised by the records of a list one after another, is the
highest value among them and the first. -/
theorem foldl_raise_highest {field : Purse → Nat} {value : JournalRecord → Nat} {sort : JournalRecord → Prop}
    [DecidablePred sort]
    (hraise : ∀ (p : Purse) (r : JournalRecord),
      field (p.raise r) = if sort r then max (field p) (value r) else field p)
    (l : List JournalRecord) (p : Purse) :
    field p ≤ field (l.foldl Purse.raise p) ∧ (∀ r ∈ l, sort r → value r ≤ field (l.foldl Purse.raise p)) ∧
      (field (l.foldl Purse.raise p) = field p ∨ ∃ r ∈ l, sort r ∧ value r = field (l.foldl Purse.raise p)) := by
  induction l generalizing p with
  | nil => exact ⟨le_rfl, nofun, .inl rfl⟩
  | cons x l ih =>
    obtain ⟨hle, hall, hreached⟩ := ih (p.raise x)
    rw [hraise] at hle hreached
    rw [List.foldl_cons]
    refine ⟨?_, fun r hr hs => ?_, ?_⟩
    · split at hle <;> omega
    · rcases List.mem_cons.mp hr with rfl | hr
      · rw [if_pos hs] at hle
        omega
      · exact hall r hr hs
    · rcases hreached with heq | ⟨r, hr, hs⟩
      · split at heq
        · next hx =>
          rcases max_choice (field p) (value x) with hmax | hmax
          · exact .inl (heq.trans hmax)
          · exact .inr ⟨x, List.mem_cons_self, hx, (heq.trans hmax).symm⟩
        · exact .inl heq
      · exact .inr ⟨r, List.mem_cons_of_mem _ hr, hs⟩

section Raise

variable (p : Purse) (r : JournalRecord)

theorem Purse.raise_floorUnit : (p.raise r).floorUnit =
    if r.kind ≠ .purchase ∧ r.endMinute = 0 then max p.floorUnit r.event else p.floorUnit := by
  unfold Purse.raise Purse.raiseFloor
  by_cases hend : r.endMinute = 0 <;> cases r.kind <;> simp [hend]

theorem Purse.raise_floorGroup : (p.raise r).floorGroup =
    if r.kind ≠ .purchase ∧ r.endMinute ≠ 0 then max p.floorGroup r.event else p.floorGroup := by
  unfold Purse.raise Purse.raiseFloor
  by_cases hend : r.endMinute = 0 <;> cases r.kind <;> simp [hend]

end Raise

/-- R151: the purse before the list raises floors and watermark. -/
def mountBase (l : List JournalRecord) (balance : Int) (writePos : Nat) (erased : Vector Bool 8) : Purse where
  balance := balance
  list := l
  writePos := writePos
  erased := erased
  queue := []
  watermark := 0
  target := none
  floorUnit := 0
  floorGroup := 0

/-- R151, R152: the purse that the mount rebuilds. -/
structure Rebuilt (s : State) (p : Purse) : Prop where
  list : p.list = s.mountedList
  balance : p.balance = (match p.list.getLast? with
    | none => 0
    | some r => r.balanceAfter)
  queue : p.queue = []
  erased : ∀ k : Fin 8, p.erased[k] = Memory.blank flashDefault s.flash ((k.val + 2) * 4096) 4096
  writePos : p.writePos = (match p.list.getLast? with
    | none => 0
    | some r => s.positionAfter r.place)
  watermark : (∀ r ∈ p.list, r.kind = .collect → r.upTo ≤ p.watermark) ∧
    (p.watermark = 0 ∨ ∃ r ∈ p.list, r.kind = .collect ∧ r.upTo = p.watermark)
  floorUnit : (∀ r ∈ p.list, r.kind ≠ .purchase ∧ r.endMinute = 0 → r.event ≤ p.floorUnit) ∧
    (p.floorUnit = 0 ∨ ∃ r ∈ p.list, (r.kind ≠ .purchase ∧ r.endMinute = 0) ∧ r.event = p.floorUnit)
  floorGroup : (∀ r ∈ p.list, r.kind ≠ .purchase ∧ r.endMinute ≠ 0 → r.event ≤ p.floorGroup) ∧
    (p.floorGroup = 0 ∨ ∃ r ∈ p.list, (r.kind ≠ .purchase ∧ r.endMinute ≠ 0) ∧ r.event = p.floorGroup)

/-- What the list raises on a purse that holds it. -/
theorem mountBase_raised (l : List JournalRecord) (balance : Int) (writePos : Nat) (erased : Vector Bool 8) :
    ∃ p : Purse, p = l.foldl Purse.raise (mountBase l balance writePos erased) ∧ p.list = l ∧ p.balance = balance ∧
      p.queue = [] ∧ p.writePos = writePos ∧ p.erased = erased :=
  ⟨_, rfl, foldl_raise_same (field := Purse.list) Purse.raise_list _ _,
    foldl_raise_same (field := Purse.balance) Purse.raise_balance _ _,
    foldl_raise_same (field := Purse.queue) Purse.raise_queue _ _,
    foldl_raise_same (field := Purse.writePos) Purse.raise_writePos _ _,
    foldl_raise_same (field := Purse.erased) Purse.raise_erased _ _⟩

theorem State.mountedPurse_eq (s : State) : s.mountedPurse = s.mountedList.foldl Purse.raise (mountBase s.mountedList
    (match s.mountedList.getLast? with
      | none => 0
      | some r => r.balanceAfter)
    (match s.mountedList.getLast? with
      | none => 0
      | some r => s.positionAfter r.place)
    (Vector.ofFn (fun k : Fin 8 => Memory.blank flashDefault s.flash ((k.val + 2) * 4096) 4096))) := by
  unfold State.mountedPurse State.mountedList
  generalize s.goodRecords.foldl (fun l r => insertRecord r l) [] = l
  dsimp only
  cases l.getLast? <;> rfl

theorem State.mountedPurse_rebuilt (s : State) : Rebuilt s s.mountedPurse := by
  obtain ⟨p, hp, hlist, hbalance, hqueue, hplace, herased⟩ := mountBase_raised s.mountedList
    (match s.mountedList.getLast? with
      | none => 0
      | some r => r.balanceAfter)
    (match s.mountedList.getLast? with
      | none => 0
      | some r => s.positionAfter r.place)
    (Vector.ofFn (fun k : Fin 8 => Memory.blank flashDefault s.flash ((k.val + 2) * 4096) 4096))
  rw [s.mountedPurse_eq, ← hp]
  refine ⟨hlist, by rw [hlist]; exact hbalance, hqueue, fun k => by rw [herased]; exact Vector.getElem_ofFn _,
    by rw [hlist]; exact hplace, ?_, ?_, ?_⟩
  · obtain ⟨-, hall, hreached⟩ := foldl_raise_highest Purse.raise_watermark s.mountedList (mountBase _ _ _ _)
    rw [← hp] at hall hreached
    rw [hlist]
    exact ⟨hall, hreached⟩
  · obtain ⟨-, hall, hreached⟩ := foldl_raise_highest Purse.raise_floorUnit s.mountedList (mountBase _ _ _ _)
    rw [← hp] at hall hreached
    rw [hlist]
    exact ⟨hall, hreached⟩
  · obtain ⟨-, hall, hreached⟩ := foldl_raise_highest Purse.raise_floorGroup s.mountedList (mountBase _ _ _ _)
    rw [← hp] at hall hreached
    rw [hlist]
    exact ⟨hall, hreached⟩

/-! ### The write position (R152) -/

/-- R152: the places behind a place in its sector. -/
theorem mem_placesBehind {n p : Nat} :
    p ∈ (List.range (127 - n % 128)).map (fun k => n + 1 + k) ↔ n < p ∧ p / 128 = n / 128 := by
  simp only [List.mem_map, List.mem_range]
  constructor
  · rintro ⟨k, hk, rfl⟩
    omega
  · rintro ⟨hlt, hsector⟩
    exact ⟨p - n - 1, by omega, by omega⟩

/-- R152: the first free place behind the newest record in its sector. -/
theorem State.positionAfter_free {s : State} {n p : Nat} (hlt : n < p) (hsector : p / 128 = n / 128)
    (hfree : s.placeFree p = true) (hfirst : ∀ x : Nat, n < x → x < p → s.placeFree x = false) :
    s.positionAfter n = p := by
  have hfound : ((List.range (127 - n % 128)).map (fun k => n + 1 + k)).find? s.placeFree = some p := by
    rw [List.find?_map, (List.find?_range_eq_some (i := p - n - 1)).mpr]
    · simp only [Option.map_some, Option.some.injEq]
      omega
    · refine ⟨?_, ?_, fun j hj => ?_⟩
      · rw [Function.comp_apply, show n + 1 + (p - n - 1) = p by omega]
        exact hfree
      · exact List.mem_range.mpr (by omega)
      · rw [Function.comp_apply, hfirst _ (by omega) (by omega)]
        rfl
  rw [State.positionAfter, hfound]

/-- R152: with no free place behind it, slot 0 of the next sector. -/
theorem State.positionAfter_full {s : State} {n : Nat}
    (h : ∀ p : Nat, n < p → p / 128 = n / 128 → s.placeFree p = false) :
    s.positionAfter n = (n / 128 + 1) % 8 * 128 := by
  have hfound : ((List.range (127 - n % 128)).map (fun k => n + 1 + k)).find? s.placeFree = none := by
    refine List.find?_eq_none.mpr fun p hp => ?_
    obtain ⟨hlt, hsector⟩ := mem_placesBehind.mp hp
    rw [h p hlt hsector]
    exact Bool.false_ne_true
  rw [State.positionAfter, hfound]
  show (n / 128 + 1) * 128 % 1024 = _
  omega

/-! ### The owned events (R127) -/

theorem lastPerEvent_sublist (l : List JournalRecord) : (lastPerEvent l).Sublist l := by
  induction l with
  | nil => exact .slnil
  | cons x l ih =>
    unfold lastPerEvent
    split
    · exact ih.cons x
    · exact ih.cons_cons x

/-- R127: each event once. -/
theorem lastPerEvent_nodup (l : List JournalRecord) : ((lastPerEvent l).map (·.event)).Nodup := by
  induction l with
  | nil => exact List.nodup_nil
  | cons x l ih =>
    unfold lastPerEvent
    split
    · exact ih
    · next hlast =>
      refine List.nodup_cons.mpr ⟨fun hx => hlast ?_, ih⟩
      obtain ⟨y, hy, he⟩ := List.mem_map.mp hx
      exact List.any_eq_true.mpr ⟨y, (lastPerEvent_sublist l).subset hy, decide_eq_true he⟩

/-- R127: in a rising list the record of an event with the highest sequence is the one taken. -/
theorem mem_lastPerEvent {l : List JournalRecord} (h : seqsRise l) {r : JournalRecord} :
    r ∈ lastPerEvent l ↔ r ∈ l ∧ ∀ x ∈ l, x.event = r.event → x.seq ≤ r.seq := by
  induction l with
  | nil => simp [lastPerEvent]
  | cons y l ih =>
    obtain ⟨hy, hl⟩ := List.pairwise_cons.mp h
    have hany : l.any (fun x => x.event = y.event) = true ↔ ∃ x ∈ l, x.event = y.event := by simp
    unfold lastPerEvent
    split
    · next hlater =>
      obtain ⟨x, hx, he⟩ := hany.mp hlater
      rw [ih hl]
      constructor
      · rintro ⟨hr, hmax⟩
        refine ⟨List.mem_cons_of_mem _ hr, fun z hz hze => ?_⟩
        rcases List.mem_cons.mp hz with rfl | hz
        · exact (hy r hr).le
        · exact hmax z hz hze
      · rintro ⟨hr, hmax⟩
        refine ⟨(List.mem_cons.mp hr).resolve_left fun hry => ?_, fun z hz => hmax z (List.mem_cons_of_mem _ hz)⟩
        have hlt := hy x hx
        have hle := hmax x (List.mem_cons_of_mem _ hx) (by rw [he, hry])
        rw [hry] at hle
        omega
    · next hlast =>
      rw [List.mem_cons, ih hl]
      constructor
      · rintro (rfl | ⟨hr, hmax⟩)
        · refine ⟨List.mem_cons_self, fun z hz hze => ?_⟩
          rcases List.mem_cons.mp hz with rfl | hz
          · exact le_rfl
          · exact absurd (hany.mpr ⟨z, hz, hze⟩) hlast
        · refine ⟨List.mem_cons_of_mem _ hr, fun z hz hze => ?_⟩
          rcases List.mem_cons.mp hz with rfl | hz
          · exact (hy r hr).le
          · exact hmax z hz hze
      · rintro ⟨hr, hmax⟩
        exact (List.mem_cons.mp hr).imp id fun hr => ⟨hr, fun z hz => hmax z (List.mem_cons_of_mem _ hz)⟩

/-! ### The best of a list (R127) -/

section Best

variable {α β : Type} [LinearOrder β] (f : α → β)

/-- The elements of a list that fewer than `n` others exceed. -/
def best (n : Nat) (l : List α) : List α := l.filter (fun x => (l.filter (fun y => f x < f y)).length < n)

/-- In a falling list these are its first `n`. -/
theorem best_of_falling (n : Nat) {l : List α} (h : l.Pairwise (fun x y => f y < f x)) : best f n l = l.take n := by
  induction l generalizing n with
  | nil => simp [best]
  | cons a l ih =>
    obtain ⟨ha, hl⟩ := List.pairwise_cons.mp h
    have hnone : (a :: l).filter (fun y => f a < f y) = [] := by
      refine List.filter_eq_nil_iff.mpr fun y hy => ?_
      rcases List.mem_cons.mp hy with rfl | hy
      · simp
      · simpa using (ha y hy).le
    have hone (x : α) (hx : x ∈ l) :
        ((a :: l).filter (fun y => f x < f y)).length = (l.filter (fun y => f x < f y)).length + 1 := by
      rw [List.filter_cons_of_pos (by simpa using ha x hx), List.length_cons]
    cases n with
    | zero => simp [best]
    | succ n =>
      have hrest : l.filter (fun x => ((a :: l).filter (fun y => f x < f y)).length < n + 1) = best f n l := by
        refine List.filter_congr fun x hx => ?_
        rw [hone x hx]
        simp
      rw [best, List.filter_cons_of_pos (by rw [hnone]; simp), hrest, ih n hl, List.take_succ_cons]

theorem best_perm (n : Nat) {l m : List α} (h : l.Perm m) : (best f n l).Perm (best f n m) := by
  have hlength (x : α) : (l.filter (fun y => f x < f y)).length = (m.filter (fun y => f x < f y)).length :=
    (h.filter _).length_eq
  unfold best
  simp only [hlength]
  exact h.filter _

/-- A list whose elements differ under `f`, in falling order. -/
theorem exists_falling {l : List α} (h : (l.map f).Nodup) :
    ∃ m : List α, l.Perm m ∧ m.Pairwise (fun x y => f y < f x) := by
  have hperm : (l.mergeSort (fun x y => decide (f y ≤ f x))).Perm l := List.mergeSort_perm _ _
  refine ⟨_, hperm.symm, ?_⟩
  have hsorted : (l.mergeSort (fun x y => decide (f y ≤ f x))).Pairwise (fun x y => decide (f y ≤ f x) = true) :=
    List.pairwise_mergeSort (fun a b c hab hbc => by simp at *; exact hbc.trans hab)
      (fun a b => by simpa using le_total (f b) (f a)) l
  have hdiffer : (l.mergeSort (fun x y => decide (f y ≤ f x))).Pairwise (fun x y => f x ≠ f y) :=
    List.pairwise_map.mp ((hperm.map f).nodup_iff.mpr h)
  exact (hsorted.and hdiffer).imp fun ⟨hle, hne⟩ => lt_of_le_of_ne (of_decide_eq_true hle) hne.symm

theorem length_best_le (n : Nat) {l : List α} (h : (l.map f).Nodup) : (best f n l).length ≤ n := by
  obtain ⟨m, hperm, hfalls⟩ := exists_falling f h
  rw [(best_perm f n hperm).length_eq, best_of_falling f n hfalls]
  exact List.length_take_le n m

/-- An element left out is exceeded by every one of `n` kept. -/
theorem best_full {n : Nat} {l : List α} (h : (l.map f).Nodup) {x : α} (hx : x ∈ l) (hout : x ∉ best f n l) :
    (best f n l).length = n ∧ ∀ y ∈ best f n l, f x < f y := by
  obtain ⟨m, hperm, hfalls⟩ := exists_falling f h
  have hbest := best_perm f n hperm
  rw [best_of_falling f n hfalls] at hbest
  have hdrop : x ∈ m.drop n := by
    have hm : x ∈ m.take n ++ m.drop n := by rw [List.take_append_drop]; exact hperm.mem_iff.mp hx
    exact (List.mem_append.mp hm).resolve_left fun ht => hout (hbest.mem_iff.mpr ht)
  rw [← List.take_append_drop n m, List.pairwise_append] at hfalls
  obtain ⟨-, -, hacross⟩ := hfalls
  refine ⟨?_, fun y hy => hacross y (hbest.mem_iff.mp hy) x hdrop⟩
  have hlong : n < m.length := by
    by_contra hshort
    rw [List.drop_eq_nil_of_le (Nat.not_lt.mp hshort)] at hdrop
    cases hdrop
  rw [hbest.length_eq, List.length_take]
  omega

end Best

end Sys2Proof.Machine
end

section
/-! PROOFS. The journal mount, the end (R127, R152, R189, R41): the owned events, the part ACTIVE with READY, the budget
date check with every output IDLE, and the obligation about the mount. -/

namespace Sys2Proof.Machine

/-! ### The owned events (R126, R127) -/

/-- R127: how late a record's event ends, and of two that end alike the later record. -/
def JournalRecord.rank (r : JournalRecord) : ℕ ×ₗ ℕ := toLex (r.endMinute, r.seq)

theorem JournalRecord.rank_lt_iff (x y : JournalRecord) :
    x.rank < y.rank ↔ x.endMinute < y.endMinute ∨ x.endMinute = y.endMinute ∧ x.seq < y.seq := Prod.Lex.toLex_lt_toLex

theorem JournalRecord.outranks_eq (y x : JournalRecord) : y.outranks x = decide (x.rank < y.rank) := by
  rw [JournalRecord.outranks, ← Bool.decide_and, ← Bool.decide_or]
  exact decide_eq_decide.mpr (x.rank_lt_iff y).symm

/-- R127: the event of a record has not aged at minute `now`. -/
def JournalRecord.lasts (now : Option Nat) (r : JournalRecord) : Prop := ∀ m : Nat, now = some m → m < r.endMinute + 60

theorem State.takesBack_iff (s : State) (r : JournalRecord) :
    s.takesBack r = true ↔ r.kind = .purchase ∧ r.lasts s.guide.nowMinute := by
  unfold State.takesBack JournalRecord.lasts
  cases r.kind <;> cases s.guide.nowMinute <;> simp

/-- R127: the entry of a record. -/
def JournalRecord.owned (r : JournalRecord) : OwnedEntry := ⟨r.event, r.endMinute, r.seq⟩

/-- R127: the owned events `owned` rebuilt at minute `now` from the journal list `list`. -/
structure OwnedRebuilt (list : List JournalRecord) (now : Option Nat) (owned : List OwnedEntry) : Prop where
  entries : ∀ x ∈ owned, ∃ r ∈ list, r.kind = .purchase ∧ r.lasts now ∧ x = r.owned
  length : owned.length ≤ 64
  events : (owned.map (·.event)).Nodup
  latest : ∀ x ∈ owned, ∀ r ∈ list, r.kind = .purchase → r.event = x.event → r.lasts now → r.seq ≤ x.seq
  kept : ∀ r ∈ list, r.kind = .purchase → r.lasts now →
    (∀ x ∈ list, x.kind = .purchase → x.event = r.event → x.lasts now → x.seq ≤ r.seq) →
    r.owned ∈ owned ∨ owned.length = 64 ∧
      ∀ y ∈ owned, r.endMinute < y.endMinute ∨ r.endMinute = y.endMinute ∧ r.seq < y.seq

/-- R127: of each event the latest record, of these the 64 that rank highest. -/
theorem State.rebuiltOwned_eq (s : State) : s.rebuiltOwned =
    (best JournalRecord.rank 64 (lastPerEvent (s.purse.list.filter s.takesBack))).map JournalRecord.owned := by
  simp only [State.rebuiltOwned, JournalRecord.outranks_eq]
  rfl

theorem State.rebuiltOwned_rebuilt (s : State) (h : seqsRise s.purse.list) :
    OwnedRebuilt s.purse.list s.guide.nowMinute s.rebuiltOwned := by
  have htaken : seqsRise (s.purse.list.filter s.takesBack) := h.filter _
  have hlast (r : JournalRecord) := mem_lastPerEvent htaken (r := r)
  have hmem (r : JournalRecord) : r ∈ s.purse.list.filter s.takesBack ↔
      r ∈ s.purse.list ∧ r.kind = .purchase ∧ r.lasts s.guide.nowMinute := by
    rw [List.mem_filter, s.takesBack_iff]
  have hevents := lastPerEvent_nodup (s.purse.list.filter s.takesBack)
  have hranks : ((lastPerEvent (s.purse.list.filter s.takesBack)).map JournalRecord.rank).Nodup := by
    refine List.pairwise_map.mpr ((htaken.sublist (lastPerEvent_sublist _)).imp fun {x y} hlt heq => ?_)
    have hseq : x.seq = y.seq := congrArg (fun p : ℕ ×ₗ ℕ => (ofLex p).2) heq
    exact hlt.ne hseq
  rw [s.rebuiltOwned_eq]
  generalize lastPerEvent (s.purse.list.filter s.takesBack) = rs at hlast hevents hranks
  have hbest {r : JournalRecord} (hr : r ∈ best JournalRecord.rank 64 rs) : r ∈ rs := (List.mem_filter.mp hr).1
  refine ⟨fun x hx => ?_, ?_, ?_, fun x hx r hr hk he hl => ?_, fun r hr hk hl hmax => ?_⟩
  · obtain ⟨r, hr, rfl⟩ := List.mem_map.mp hx
    obtain ⟨hlist, hk, hl⟩ := (hmem r).mp ((hlast r).mp (hbest hr)).1
    exact ⟨r, hlist, hk, hl, rfl⟩
  · rw [List.length_map]
    exact length_best_le _ 64 hranks
  · rw [List.map_map]
    exact hevents.sublist (List.filter_sublist.map _)
  · obtain ⟨y, hy, rfl⟩ := List.mem_map.mp hx
    exact ((hlast y).mp (hbest hy)).2 r ((hmem r).mpr ⟨hr, hk, hl⟩) he
  · have hrs : r ∈ rs := (hlast r).mpr ⟨(hmem r).mpr ⟨hr, hk, hl⟩, fun x hx he => by
      obtain ⟨hxl, hxk, hxlasts⟩ := (hmem x).mp hx
      exact hmax x hxl hxk he hxlasts⟩
    by_cases hin : r ∈ best JournalRecord.rank 64 rs
    · exact .inl (List.mem_map.mpr ⟨r, hin, rfl⟩)
    · obtain ⟨hfull, habove⟩ := best_full _ hranks hrs hin
      refine .inr ⟨by rw [List.length_map, hfull], fun y hy => ?_⟩
      obtain ⟨z, hz, rfl⟩ := List.mem_map.mp hy
      exact (r.rank_lt_iff z).mp (habove z hz)

/-! ### The budget date check with every output IDLE (R41, R167) -/

/-- R41: what the check leaves, with budget date `d` and with or without a new budget day; no gate is evaluated. -/
def State.dated (s : State) (d : Option Int) (day : Bool) : State :=
  { s with
    guide := { s.guide with budgetDate := d }
    settings := if d = s.guide.budgetDate then s.settings else s.settings.marked
    profiles := if day then s.profiles.map Profile.newDay else s.profiles }

theorem State.dated_same (s : State) : s.dated s.guide.budgetDate false = s := by
  unfold State.dated
  rw [if_pos rfl, if_neg Bool.false_ne_true]

theorem State.newBudgetDay_idle {s : State} (h : ∀ o : Fin 6, (s.outs[o]).tune = none) :
    s.newBudgetDay true = s.atNewDay := by
  have hnone (qs : List (Fin 6)) : s.atNewDay.tunedOnAny qs = [] := by
    refine List.filter_eq_nil_iff.mpr fun o _ => ?_
    have htune : (s.atNewDay.outs[o]).tune = none := h o
    rw [htune]
    simp
  rw [s.newBudgetDay_eq, hnone]
  rfl

theorem State.budgetDateCheck_idle {s : State} (hm : s.part.mounted = true) (h : ∀ o : Fin 6, (s.outs[o]).tune = none) :
    ∃ (d : Option Int) (day : Bool), DateEffect s.part.mounted s.guide.localDate s.guide.budgetDate d day ∧
      s.budgetDateCheck true = s.dated d day := by
  have hset (t : State) (d : Int) : t.setBudgetDate d =
      { t with guide := { t.guide with budgetDate := some d }, settings := t.settings.marked } := rfl
  unfold State.budgetDateCheck
  split
  · next ht => exact ⟨_, false, .none (.inr ht), s.dated_same.symm⟩
  · next d ht ho =>
    refine ⟨some d, false, .first hm ht ho, ?_⟩
    rw [hset, State.dated, ho, if_neg (Option.some_ne_none d), if_neg Bool.false_ne_true]
  · next d b ht ho =>
    split
    · next hlt =>
      refine ⟨some d, true, .later hm ht ho hlt, ?_⟩
      have hne : ¬ some d = some b := fun he => absurd (Option.some.inj he) hlt.ne'
      rw [State.newBudgetDay_idle h, hset, State.dated, ho, if_neg hne, if_pos rfl]
      rfl
    · next hle => exact ⟨_, false, .same hm ht ho hle, s.dated_same.symm⟩

/-! ### ACTIVE and READY (R152, R189) -/

/-- R152, R189: ACTIVE, with purse and owned events rebuilt and the statistics timer started. -/
def State.journalHanded (s : State) (p : Purse) (owned : List OwnedEntry) : State :=
  { s with
    part := .active
    flashPort := { s.flashPort with op := none }
    purse := p
    access := { s.access with owned := owned }
    writer := { s.writer with
      statsEnd := s.statisticsEnd } }

/-- R189, R41: READY is handed over, and the budget date is checked. -/
def State.announced (s : State) : State := (s.notify (s.readyNotice false)).budgetDateCheck true

/-- R151: the journal state rebuilt as `p`, before the target is found. -/
def State.rebuiltWith (s : State) (p : Purse) : State := { s.freeFlash with purse := p }

theorem State.journalMount_eq (s : State) : s.journalMount =
    (s.journalHanded { s.mountedPurse with target := (s.rebuiltWith s.mountedPurse).foundTarget }
      (s.rebuiltWith s.mountedPurse).rebuiltOwned).announced := by
  unfold State.journalMount
  generalize s.mountedPurse = p
  have htarget : ({ s.freeFlash with purse := p } : State).retarget =
      (s.rebuiltWith p).withTarget (s.rebuiltWith p).foundTarget :=
    State.retarget_of_free (s := s.rebuiltWith p) rfl
  have howned (x : Option Target) :
      ((s.rebuiltWith p).withTarget x).rebuiltOwned = (s.rebuiltWith p).rebuiltOwned := rfl
  dsimp only
  rw [htarget, howned]
  generalize (s.rebuiltWith p).foundTarget = x
  generalize (s.rebuiltWith p).rebuiltOwned = owned
  simp only [State.mountComplete, State.startStatistics_eq]
  rfl

/-- What the end of a mount leaves, whatever purse and owned events were rebuilt. -/
structure MountEnd (s : State) (p : Purse) (owned : List OwnedEntry) (t : State) : Prop where
  part : t.part = .active
  purse : t.purse.untargeted = p.untargeted
  owned : t.access.owned = owned
  minute : t.guide.nowMinute = s.guide.nowMinute
  date : budgetDateMoved { s with part := .active } t
  profiles : ∀ q : Fin 6, (budgetDayBegins { s with part := .active } →
      t.profiles[q] = { s.profiles[q] with minutesUsed := 0, accumulator := 0, warned := false }) ∧
    (¬ budgetDayBegins { s with part := .active } → t.profiles[q] = s.profiles[q])
  flash : flashFollows { s.flashPort with op := none }
    (if t.guide.budgetDate = s.guide.budgetDate then s.settings else s.settings.marked) p t
  handed : handedOver [.ready false s.cfg.version s.cfg.unitId t.purse.balance t.purse.newest]
    { s with writer := { s.writer with statsEnd := t.writer.statsEnd } } t
  statsEnd : t.writer.statsEnd = s.statisticsEnd
  only : onlyChanges [.power, .own, .guide, .access, .journal, .flashWork, .profiles, .time, .writer] s t

theorem State.announced_end {s : State} (h : ∀ o : Fin 6, (s.outs[o]).tune = none) (p : Purse)
    (owned : List OwnedEntry) : MountEnd s p owned (s.journalHanded p owned).announced.settle := by
  have hpart (n : Notice) : ((s.journalHanded p owned).notify n).part = .active := State.notify_part _ _
  have hready : (s.journalHanded p owned).readyNotice false =
      .ready false s.cfg.version s.cfg.unitId p.balance p.newest := rfl
  obtain ⟨d, day, heffect, hdated⟩ := State.budgetDateCheck_idle
    (s := (s.journalHanded p owned).notify ((s.journalHanded p owned).readyNotice false))
    (by rw [hpart]; rfl) (fun o => by rw [State.notify_outs]; exact h o)
  rw [hpart, State.notify_guide] at heffect
  unfold State.announced
  rw [hdated, hready]
  generalize hn : Notice.ready false s.cfg.version s.cfg.unitId p.balance p.newest = n
  have hguide : (((s.journalHanded p owned).notify n).dated d day).settle.guide = { s.guide with budgetDate := d } := by
    rw [State.settle_guide, State.dated, State.notify_guide]
    rfl
  have hwriter : (((s.journalHanded p owned).notify n).dated d day).settle.writer =
      ((s.journalHanded p owned).notify n).writer := State.settle_writer _
  have hprofiles : (((s.journalHanded p owned).notify n).dated d day).settle.profiles =
      if day then s.profiles.map Profile.newDay else s.profiles := by
    rw [State.settle_profiles, State.dated, State.notify_profiles]
    rfl
  have hpurse : (((s.journalHanded p owned).notify n).dated d day).settle.purse.untargeted = p.untargeted := by
    rw [State.settle_purse, State.dated, State.notify_purse]
    rfl
  have hstats : (((s.journalHanded p owned).notify n).dated d day).settle.writer.statsEnd = s.statisticsEnd := by
    rw [hwriter, State.notify_writer]
    unfold Writer.afterNotice
    split <;> rfl
  have hbalance : (((s.journalHanded p owned).notify n).dated d day).settle.purse.balance = p.balance :=
    (congrArg Purse.balance hpurse :)
  have hnewest : (((s.journalHanded p owned).notify n).dated d day).settle.purse.newest = p.newest :=
    (congrArg Purse.newest hpurse :)
  have hday : day = true ↔ budgetDayBegins { s with part := .active } :=
    DateEffect.begins (s := { s with part := .active }) heffect
  refine ⟨(State.settle_part _).trans (hpart n), hpurse, ?_, by rw [hguide]; rfl, ?_,
    fun q => ⟨fun hbegins => ?_, fun hnot => ?_⟩, ?_, ?_, hstats, ?_⟩
  · rw [State.settle_access, State.dated, State.notify_access]
    rfl
  · refine DateEffect.moved (day := day) ?_
    rw [hguide]
    exact heffect
  · rw [hprofiles, if_pos (hday.mpr hbegins), Fin.getElem_fin, Vector.getElem_map]
    rfl
  · rw [hprofiles, if_neg (mt hday.mp hnot)]
  · have hflash := (((s.journalHanded p owned).notify n).dated d day).settle_flashFollows
    rw [hguide]
    simp only [State.dated, State.notify_flashPort, State.notify_settings, State.notify_purse,
      State.notify_guide] at hflash ⊢
    exact hflash
  · rw [hstats, hbalance, hnewest, hn]
    exact ((handedOver_one (s.journalHanded p owned) n).then (u := ((s.journalHanded p owned).notify n).dated d day)
      rfl rfl).settle.of_inputs ⟨rfl, rfl, rfl, rfl⟩ rfl
  · refine onlyChanges_settle _ (.inl (by decide)) ?_
    simp [onlyChanges, Area.forall_iff, Area.same, State.dated, State.journalHanded]

/-! ### The obligation -/

theorem exec_journalMount {s : State} (h : s.flashPort.op = some .journalRead) :
    exec .journalMount s = .next s.journalMount.settle := by
  show execJournalMount s = _
  unfold execJournalMount
  rw [h]
  rfl

theorem Rebuilt.untargeted {s : State} {p q : Purse} (h : Rebuilt s p) (hq : q.untargeted = p.untargeted) :
    Rebuilt s q := by
  rw [← Purse.eq_of_untargeted hq.symm]
  exact ⟨h.list, h.balance, h.queue, h.erased, h.writePos, h.watermark, h.floorUnit, h.floorGroup⟩

/-- What a mount rebuilds and what its end leaves. -/
structure MountDone (s t : State) (x : Option Target) : Prop where
  rebuilt : Rebuilt s t.purse
  owned : OwnedRebuilt t.purse.list s.guide.nowMinute t.access.owned
  target : targetFound x t
  ended : MountEnd s { t.purse with target := x } t.access.owned t

theorem State.journalMount_done {s : State} (h : ∀ o : Fin 6, (s.outs[o]).tune = none) :
    ∃ x : Option Target, MountDone s s.journalMount.settle x := by
  have hrebuilt := s.mountedPurse_rebuilt
  have hrising : seqsRise s.mountedPurse.list := by
    rw [hrebuilt.list]
    exact s.mountedList_seqsRise
  rw [s.journalMount_eq]
  generalize s.mountedPurse = p at hrebuilt hrising
  have hended := State.announced_end h { p with target := (s.rebuiltWith p).foundTarget } (s.rebuiltWith p).rebuiltOwned
  have howned := (s.rebuiltWith p).rebuiltOwned_rebuilt hrising
  have hfound := (s.rebuiltWith p).foundTarget_found
  generalize (s.rebuiltWith p).foundTarget = x at hended hfound
  generalize (s.rebuiltWith p).rebuiltOwned = owned at hended howned
  generalize (s.journalHanded { p with target := x } owned).announced.settle = t at hended
  have hpurse : t.purse.untargeted = p.untargeted := hended.purse
  have hlist : t.purse.list = p.list := (congrArg Purse.list hpurse :)
  have hsame : { t.purse with target := x } = { p with target := x } :=
    (congrArg (fun q : Purse => { q with target := x }) hpurse :)
  refine ⟨x, hrebuilt.untargeted hpurse, ?_, hfound.congr hpurse hended.minute, ?_⟩
  · rw [hlist, hended.owned]
    exact howned
  · rw [hsame, hended.owned]
    exact hended

/-- Settles O51: what the list gives (`Rebuilt`), the owned events (`OwnedRebuilt`), and the end of the mount
(`MountEnd`). -/
theorem journalMountRebuildsPurse : Obligations.JournalMountRebuildsPurse := by
  unfold Obligations.JournalMountRebuildsPurse
  intro s hop hidle
  obtain ⟨x, hrebuilt, howned, htarget, hended⟩ := State.journalMount_done hidle
  have hrising : seqsRise s.journalMount.settle.purse.list := by
    rw [hrebuilt.list]
    exact s.mountedList_seqsRise
  refine ⟨_, exec_journalMount hop, ?_⟩
  generalize s.journalMount.settle = t at hrebuilt howned htarget hended hrising
  have hgood (r : JournalRecord) (hr : r ∈ t.purse.list) : ∃ place : Nat, place < 1024 ∧
      journalRecordOf (s.placeBytes place) place = some r := by
    rw [hrebuilt.list] at hr
    exact State.mem_goodRecords.mp (State.goodRecords_of_mem_mountedList hr)
  refine ⟨hended.part, hrising, fun r hr => ?_, fun place r hplace hr => ?_, hrebuilt.balance, hrebuilt.queue,
    hrebuilt.erased, hrebuilt.watermark, ⟨fun r hr hk => ?_, ?_, ?_⟩, fun hnil => ?_, fun r hlast => ⟨?_, ?_⟩,
    hended.date, hended.profiles, ⟨x, htarget, hended.flash⟩, fun y hy => ?_, howned.length, howned.events,
    howned.latest, howned.kept, hended.handed, hended.statsEnd, hended.only⟩
  · obtain ⟨place, hlt, hr⟩ := hgood r hr
    have hplace := journalRecordOf_place hr
    subst hplace
    exact ⟨hlt, hr⟩
  · rw [hrebuilt.list]
    exact s.mountedList_covers (State.mem_goodRecords.mpr ⟨place, hplace, hr⟩)
  · split
    · next hend => exact hrebuilt.floorUnit.1 r hr ⟨hk, hend⟩
    · next hend => exact hrebuilt.floorGroup.1 r hr ⟨hk, hend⟩
  · exact hrebuilt.floorUnit.2.imp_right fun ⟨r, hr, ⟨hk, hend⟩, he⟩ => ⟨r, hr, hk, hend, he⟩
  · exact hrebuilt.floorGroup.2.imp_right fun ⟨r, hr, ⟨hk, hend⟩, he⟩ => ⟨r, hr, hk, hend, he⟩
  · rw [hrebuilt.writePos, hnil]
    rfl
  · intro p hlt hsector hfree hfirst
    rw [hrebuilt.writePos, hlast]
    exact State.positionAfter_free hlt hsector hfree hfirst
  · intro hfull
    rw [hrebuilt.writePos, hlast]
    exact State.positionAfter_full hfull
  · obtain ⟨r, hr, hk, hl, rfl⟩ := howned.entries y hy
    exact ⟨⟨r, hr, hk, rfl⟩, hl⟩

end Sys2Proof.Machine
end
